-- ==== Sys2Proof/Word.lean ====
section
/-! DEFINITION. The words of the record port (spec/10 R173) and the fixed-length table in which the
model keeps the part's numbered records. -/

namespace Sys2Proof

/-- One byte of the record port (08 R147: eight samples make one byte). -/
abbrev Byte := BitVec 8

/-- A two-byte quantity of the port (10 R173). -/
abbrev Word16 := BitVec 16

/-- A three-byte quantity of the port (10 R173). -/
abbrev Word24 := BitVec 24

/-- `n` records of one kind, numbered from 0 (beds, piles, cannons, ...). -/
structure Table (n : Nat) (α : Type) where
  cells : Vector α n
deriving DecidableEq, Repr

namespace Table

variable {n : Nat} {α : Type}

/-- The record at index `i`. -/
def get (t : Table n α) (i : Fin n) : α := t.cells[i.val]

/-- The table with the record at index `i` replaced by `x`. -/
def put (t : Table n α) (i : Fin n) (x : α) : Table n α := ⟨t.cells.set i.val x⟩

/-- The table that holds `f i` at index `i`. -/
def tab (f : Fin n → α) : Table n α := ⟨Vector.ofFn f⟩

/-- The table that holds `x` everywhere. -/
def fill (n : Nat) (x : α) : Table n α := ⟨Vector.replicate n x⟩

/-- The record at index `i` replaced by `f` of it. -/
def modify (t : Table n α) (i : Fin n) (f : α → α) : Table n α := t.put i (f (t.get i))

/-- Some record meets `p`. -/
def any (t : Table n α) (p : Fin n → α → Bool) : Bool := (List.finRange n).any fun i => p i (t.get i)

/-- Every record meets `p`. -/
def all (t : Table n α) (p : Fin n → α → Bool) : Bool := (List.finRange n).all fun i => p i (t.get i)

@[simp] theorem get_put (t : Table n α) (i j : Fin n) (x : α) :
    (t.put i x).get j = if i = j then x else t.get j := by
  simp [Table.get, put, Vector.getElem_set, Fin.ext_iff]

@[simp] theorem get_tab (f : Fin n → α) (i : Fin n) : (tab f).get i = f i := by
  simp [Table.get, tab]

@[simp] theorem get_fill (x : α) (i : Fin n) : (fill n x).get i = x := by
  simp [Table.get, fill]

@[simp] theorem get_modify (t : Table n α) (i j : Fin n) (f : α → α) :
    (t.modify i f).get j = if i = j then f (t.get i) else t.get j := by
  simp [modify]

theorem ext_get {a b : Table n α} (h : ∀ i, a.get i = b.get i) : a = b := by
  obtain ⟨a⟩ := a
  obtain ⟨b⟩ := b
  congr 1
  apply Vector.ext
  intro i hi
  exact h ⟨i, hi⟩

@[simp] theorem put_get_self (t : Table n α) (i : Fin n) : t.put i (t.get i) = t := by
  apply ext_get
  intro j
  by_cases h : i = j <;> simp [h]

@[simp] theorem put_put (t : Table n α) (i : Fin n) (x y : α) : (t.put i x).put i y = t.put i y := by
  apply ext_get
  intro j
  by_cases h : i = j <;> simp [h]

theorem modify_eq_put (t : Table n α) (i : Fin n) (f : α → α) : t.modify i f = t.put i (f (t.get i)) :=
  rfl

@[simp] theorem any_eq_true (t : Table n α) (p : Fin n → α → Bool) :
    t.any p = true ↔ ∃ i, p i (t.get i) = true := by
  simp [any]

@[simp] theorem all_eq_true (t : Table n α) (p : Fin n → α → Bool) :
    t.all p = true ↔ ∀ i, p i (t.get i) = true := by
  simp [all]

end Table

end Sys2Proof
end

