-- ==== Sys2Proof/Syntax.lean ====
section
/-! DEFINITION. The commands of the part: one constructor for each row of spec/opcode_table.json.
A host command is one whole transaction (08 R147); its operands are the parameter bytes in the widths of
10 (10.2). A command of the field, of a timer or of the supply is one event. -/

namespace Sys2Proof

/-- The fifteen input lines, in the order of the YARD record (07 R133, R136). -/
inductive Line where
  | machine (bed : Fin 8)
  | gust
  | rain
  | frost
  | flow (main : Fin 4)
deriving DecidableEq, Repr

/-- How the host clocks a read command (log 16): `held` is for how many units of 50 ms SEL has been low when the
read acts (08 R149), and `counts` how many bytes it clocks after the last parameter byte, which are the bytes that
the part answers (08 R152, R153). A read may last while events are taken, so `counts` is a list: the bytes before
the first event, and after each event in turn; with the last of them the host deselects. -/
structure Clocking where
  held : Nat
  counts : List Nat
deriving DecidableEq, Repr

/-- The commands. `clocked` says how the host clocks a read. A FILL may come without its buffer byte
(08 R147). -/
inductive Instr where
  | status (clocked : Clocking)
  | look (cls index : Byte) (clocked : Clocking)
  | locate (bed bay : Byte) (clocked : Clocking)
  | notices (clocked : Clocking)
  | ident (clocked : Clocking)
  | stage (buffer cls index : Byte)
  | fill (buffer : Option Byte) (data : List Byte)
  | matchBuffer (buffer : Byte)
  | commit (buffer : Byte)
  | retire (cls index : Byte)
  | clockHold
  | clockSet (day : Word16) (second : Word24)
  | clockRun
  | forecast (hour : Word24) (issue : Word16) (sector : Byte) (meanSpeed gust : Word16)
      (humidity temperature rainClass : Byte)
  | observe (speed gust : Word16) (sector humidity : Byte)
  | order (pile priority cannon : Byte)
  | withdraw (pile : Byte)
  | inflow (source : Byte) (volume : Word16) (kind : Byte)
  | gauge (source : Byte) (level : Word16) (clarity : Byte)
  | isolate (source : Byte)
  | restore (source : Byte)
  | clear (main : Byte)
  | hold
  | drain
  | resume
  | acknowledge (mask : Word16)
  | fix (exclusion : Byte)
  | close
  | tag (data : List Byte)
  | reset
  | unknownCommand (code : Byte)
  | shortParameterDeselect (code : Byte) (params : List Byte)
  | transactionTimeout (received : List Byte)
  | fixWriteEnd
  | closeWriteEnd
  | tagWriteEnd
  | powerOn
  | resetLine
  | initialisationEnd
  | yardClockAdvance
  | assessment
  | hourRollover
  | dayRollover
  | observationLifeExpiry
  | settleTimerExpiry (basin : Fin 5)
  | primeTimerExpiry (context : Fin 8)
  | bayDwellExpiry (context : Fin 8)
  | suspensionLimitExpiry (context : Fin 8)
  | drainTimerExpiry (main : Fin 4)
  | rawLineChange (line : Line) (high : Bool)
  | qualifyingTimerExpiry (line : Line)
  | reTakeTimerExpiry (line : Line)
  | resetLineRelease
  | powerLoss
deriving DecidableEq, Repr

end Sys2Proof
end

