-- ==== Sys2Proof/Decode.lean ====
section
/-! DEFINITION. How a command is spelt. No row of the table gives bits of a word, so a table word spells
none; a host command is spelt by the bytes of its transaction (08 R147; 10, section 10.2), read here and
written by `encodeTransaction`. -/

namespace Sys2Proof

/-- The command a table word spells: none, for the table gives no row any bits. -/
def decodeTableWord (_nbits _w : Nat) : Option Instr := none

/-! ## Command codes (10, section 10.2) -/

namespace Code

def status : Byte := 0x01
def look : Byte := 0x02
def locate : Byte := 0x03
def notices : Byte := 0x04
def ident : Byte := 0x05
def stage : Byte := 0x10
def fill : Byte := 0x11
def matchBuffer : Byte := 0x12
def commit : Byte := 0x13
def retire : Byte := 0x14
def clock : Byte := 0x20
def forecast : Byte := 0x21
def observe : Byte := 0x22
def order : Byte := 0x30
def withdraw : Byte := 0x31
def inflow : Byte := 0x40
def gauge : Byte := 0x41
def isolate : Byte := 0x42
def restore : Byte := 0x43
def clear : Byte := 0x50
def hold : Byte := 0x51
def drain : Byte := 0x52
def resume : Byte := 0x53
def acknowledge : Byte := 0x60
def fix : Byte := 0x70
def close : Byte := 0x71
def tag : Byte := 0x72
def reset : Byte := 0x7F

/-- The code 0x00 stands for no command. -/
def none : Byte := 0x00

/-- Every command code. -/
def all : List Byte :=
  [status, look, locate, notices, ident, stage, fill, matchBuffer, commit, retire, clock, forecast,
   observe, order, withdraw, inflow, gauge, isolate, restore, clear, hold, drain, resume, acknowledge,
   fix, close, tag, reset]

end Code

/-- How many parameter bytes a command needs; of CLOCK, the sub-operation's one. FILL and TAG run to
deselect and are never short (08 R147). -/
def paramBytes (code : Byte) : Nat :=
  match code.toNat with
  | 0x02 => 2 | 0x03 => 2 | 0x10 => 3 | 0x12 => 1 | 0x13 => 1 | 0x14 => 2 | 0x20 => 1
  | 0x21 => 13 | 0x22 => 6 | 0x30 => 3 | 0x31 => 1 | 0x40 => 4 | 0x41 => 4 | 0x42 => 1 | 0x43 => 1
  | 0x50 => 1 | 0x60 => 2 | 0x70 => 1
  | _ => 0

/-- A transaction's parameters stop short, or name no sub-operation of CLOCK (08 R147). -/
def paramsShort (code : Byte) (params : List Byte) : Bool :=
  if code = Code.clock then
    match params with
    | [] => true
    | sub :: rest =>
      match sub.toNat with
      | 1 => false
      | 2 => decide (rest.length < 5)
      | 3 => false
      | _ => true
  else decide (params.length < paramBytes code)

/-! ## Words in bytes, most significant byte first (10 R173) -/

def join2 (a b : Byte) : Word16 := a ++ b

def join3 (a b c : Byte) : Word24 := a ++ b ++ c

def split2 (w : Word16) : List Byte := [w.extractLsb' 8 8, w.extractLsb' 0 8]

def split3 (w : Word24) : List Byte := [w.extractLsb' 16 8, w.extractLsb' 8 8, w.extractLsb' 0 8]

/-! ## Transactions -/

/-- The CLOCK command that a sub-operation byte and the bytes after it spell, if they spell one. -/
def decodeClock (params : List Byte) : Option Instr :=
  match params with
  | [] => none
  | sub :: rest =>
    match sub.toNat with
    | 1 => some .clockHold
    | 2 =>
      match rest with
      | d1 :: d0 :: s2 :: s1 :: s0 :: _ => some (.clockSet (join2 d1 d0) (join3 s2 s1 s0))
      | _ => none
    | 3 => some .clockRun
    | _ => none

/-- The command that a code and the bytes after it spell, or none where its parameters stop short. Bytes
beyond the last parameter are ignored but for their number, which a read command streams against. -/
def decodeParams (code : Byte) (rest : List Byte) : Option Instr :=
  match code.toNat with
  | 0x01 => some (.status ⟨0, [rest.length]⟩)
  | 0x02 =>
    match rest with
    | c :: i :: more => some (.look c i ⟨0, [more.length]⟩)
    | _ => none
  | 0x03 =>
    match rest with
    | b :: y :: more => some (.locate b y ⟨0, [more.length]⟩)
    | _ => none
  | 0x04 => some (.notices ⟨0, [rest.length]⟩)
  | 0x05 => some (.ident ⟨0, [rest.length]⟩)
  | 0x10 =>
    match rest with
    | b :: c :: i :: _ => some (.stage b c i)
    | _ => none
  | 0x11 => some (.fill rest.head? rest.tail)
  | 0x12 =>
    match rest with
    | b :: _ => some (.matchBuffer b)
    | _ => none
  | 0x13 =>
    match rest with
    | b :: _ => some (.commit b)
    | _ => none
  | 0x14 =>
    match rest with
    | c :: i :: _ => some (.retire c i)
    | _ => none
  | 0x20 => decodeClock rest
  | 0x21 =>
    match rest with
    | h2 :: h1 :: h0 :: i1 :: i0 :: k :: m1 :: m0 :: g1 :: g0 :: u :: t :: r :: _ =>
      some (.forecast (join3 h2 h1 h0) (join2 i1 i0) k (join2 m1 m0) (join2 g1 g0) u t r)
    | _ => none
  | 0x22 =>
    match rest with
    | v1 :: v0 :: g1 :: g0 :: k :: u :: _ => some (.observe (join2 v1 v0) (join2 g1 g0) k u)
    | _ => none
  | 0x30 =>
    match rest with
    | p :: r :: c :: _ => some (.order p r c)
    | _ => none
  | 0x31 =>
    match rest with
    | p :: _ => some (.withdraw p)
    | _ => none
  | 0x40 =>
    match rest with
    | x :: v1 :: v0 :: k :: _ => some (.inflow x (join2 v1 v0) k)
    | _ => none
  | 0x41 =>
    match rest with
    | x :: l1 :: l0 :: c :: _ => some (.gauge x (join2 l1 l0) c)
    | _ => none
  | 0x42 =>
    match rest with
    | x :: _ => some (.isolate x)
    | _ => none
  | 0x43 =>
    match rest with
    | x :: _ => some (.restore x)
    | _ => none
  | 0x50 =>
    match rest with
    | m :: _ => some (.clear m)
    | _ => none
  | 0x51 => some .hold
  | 0x52 => some .drain
  | 0x53 => some .resume
  | 0x60 =>
    match rest with
    | m1 :: m0 :: _ => some (.acknowledge (join2 m1 m0))
    | _ => none
  | 0x70 =>
    match rest with
    | x :: _ => some (.fix x)
    | _ => none
  | 0x71 => some .close
  | 0x72 => some (.tag rest)
  | 0x7F => some .reset
  | _ => none

/-- The command that the whole bytes of a transaction spell; none where no byte is complete, which is no
command (08 R147). -/
def decodeTransaction (bytes : List Byte) : Option Instr :=
  match bytes with
  | [] => none
  | code :: rest =>
    if code ∈ Code.all then some ((decodeParams code rest).getD (.shortParameterDeselect code rest))
    else some (.unknownCommand code)

/-- Zero bytes, as a host clocks them through a read. -/
def zeroBytes (n : Nat) : List Byte := List.replicate n 0

/-- The bytes of a host command's transaction. A timeout and the events of timers, pins and supply are no
transactions. -/
def encodeTransaction (i : Instr) : Option (List Byte) :=
  match i with
  | .status clocked => some (Code.status :: zeroBytes clocked.counts.sum)
  | .look c x clocked => some (Code.look :: c :: x :: zeroBytes clocked.counts.sum)
  | .locate b y clocked => some (Code.locate :: b :: y :: zeroBytes clocked.counts.sum)
  | .notices clocked => some (Code.notices :: zeroBytes clocked.counts.sum)
  | .ident clocked => some (Code.ident :: zeroBytes clocked.counts.sum)
  | .stage b c x => some [Code.stage, b, c, x]
  | .fill buffer data => some (Code.fill :: (buffer.toList ++ data))
  | .matchBuffer b => some [Code.matchBuffer, b]
  | .commit b => some [Code.commit, b]
  | .retire c x => some [Code.retire, c, x]
  | .clockHold => some [Code.clock, 0x01]
  | .clockSet d t => some (Code.clock :: 0x02 :: (split2 d ++ split3 t))
  | .clockRun => some [Code.clock, 0x03]
  | .forecast h n k m g u t r =>
    some (Code.forecast :: (split3 h ++ split2 n ++ [k] ++ split2 m ++ split2 g ++ [u, t, r]))
  | .observe v g k u => some (Code.observe :: (split2 v ++ split2 g ++ [k, u]))
  | .order p r c => some [Code.order, p, r, c]
  | .withdraw p => some [Code.withdraw, p]
  | .inflow x v k => some (Code.inflow :: x :: (split2 v ++ [k]))
  | .gauge x l c => some (Code.gauge :: x :: (split2 l ++ [c]))
  | .isolate x => some [Code.isolate, x]
  | .restore x => some [Code.restore, x]
  | .clear m => some [Code.clear, m]
  | .hold => some [Code.hold]
  | .drain => some [Code.drain]
  | .resume => some [Code.resume]
  | .acknowledge m => some (Code.acknowledge :: split2 m)
  | .fix x => some [Code.fix, x]
  | .close => some [Code.close]
  | .tag data => some (Code.tag :: data)
  | .reset => some [Code.reset]
  | .unknownCommand code => some [code]
  | .shortParameterDeselect code params => some (code :: params)
  | _ => none

/-- How a read is clocked, as far as the bytes say it: how many in all. -/
def Clocking.heard (c : Clocking) : Clocking := { held := 0, counts := [c.counts.sum] }

/-- The command as its bytes alone spell it: of a read they say how many bytes the host clocked, and not
how many of them after which event, nor how long SEL had been low when it acted (log 16). -/
def Instr.heard (i : Instr) : Instr :=
  match i with
  | .status clocked => .status clocked.heard
  | .look cls index clocked => .look cls index clocked.heard
  | .locate bed bay clocked => .locate bed bay clocked.heard
  | .notices clocked => .notices clocked.heard
  | .ident clocked => .ident clocked.heard
  | _ => i

end Sys2Proof
end

