-- ==== Sys2Proof/Config.lean ====
section
/-! DEFINITION. What is fixed in one part and left open by the spec: constants with no value that a
proof could see (log 10). -/

namespace Sys2Proof

/-- The 8-byte factory unit number, written at manufacture (09 R169): free, first byte highest. -/
opaque Config.unitNumber : BitVec 64

/-- The die revision letter as its distance from A, 0 for A to 25 for Z (09 R169): free. -/
opaque Config.revisionLetter : Fin 26

end Sys2Proof
end

