-- ==== Sys2Proof/Machine/State.lean ====
section
/-! DEFINITION. The state of the part as plain data, block by block (00, Block Diagram), the reasons a step
can stop (none but a command with no meaning), and the state right after power-on. -/

namespace Sys2Proof.Machine

/-! ## Enumerations (10, table 10.1) -/

/-- A pile's need for water (03 R42). -/
inductive Urgency where
  | none | may | need | must
deriving DecidableEq, Repr

/-- The value of a watch part that is present: an Urgency other than NONE (05 R89). -/
inductive Want where
  | may | need | must
deriving DecidableEq, Repr

/-- The kind of a wind basis (02 R38). -/
inductive Basis where
  | forecast | observed | worst
deriving DecidableEq, Repr

/-- The yard mode (07 R139). -/
inductive YardMode where
  | active | held | draining | drained
deriving DecidableEq, Repr

/-- The clock state (02 R22). -/
inductive ClockState where
  | unset | held | running
deriving DecidableEq, Repr

/-- The State of a main (06 R106); `opened` is OPEN. -/
inductive MainState where
  | closed | opened | priming | running | faulted | draining | drained
deriving DecidableEq, Repr

/-- The State of a live pass (06 R109); a FREE context holds no pass. -/
inductive PassState where
  | priming | running | suspended
deriving DecidableEq, Repr

/-- The State of a source (04 R67, R68). -/
inductive SourceState where
  | ready | settling | low | isolated
deriving DecidableEq, Repr

/-- The cause of a main's fault (06 R106). -/
inductive FaultCause where
  | noFlow | flowLost | stray
deriving DecidableEq, Repr

/-- The reason of a pass end CUT_SHORT (06, section 6.9). -/
inductive CutReason where
  | hold | drain | water | excluded | retired | suspendLimit
deriving DecidableEq, Repr

/-- How a pass ends: its outcome, with the reason the outcome carries (03 R61; 06, section 6.9). -/
inductive PassEnd where
  | full
  | cutShort (reason : CutReason)
  | noFlow (cause : FaultCause)
deriving DecidableEq, Repr

/-- The priority of an operator part (05 R89). -/
inductive Priority where
  | normal | high
deriving DecidableEq, Repr

/-- Why an order still waits (05 R89, R101). -/
inductive WaitReason where
  | none | noCannon | wind | machine | water | main
deriving DecidableEq, Repr

/-- The kind of a prime (06 R115). -/
inductive PrimeKind where
  | warm | cold
deriving DecidableEq, Repr

/-- The filter time of an input line: 0, 0.25 s, 1 s or 4 s (07 R133). -/
inductive FilterTime where
  | zero | quarter | one | four
deriving DecidableEq, Repr

/-- The URGENT mode (09 R165). -/
inductive UrgentMode where
  | each | count
deriving DecidableEq, Repr

/-- The nine kinds of notice, in the order of 09 R163. -/
inductive NoticeKind where
  | urgent | passEnded | mainFault | waterLow | spill | forecastGap | windBlind | unserved | mode
deriving DecidableEq, Repr

/-- The result codes (10, section 10.3). -/
inductive Result where
  | done | merged | same | different | absent | busy | held | frost | state | clock
  | noSuch | exists | timeout | unknown | changed | overlap | uncovered | covers | engaged
  | fixed | closed | full | stale | past | beyond | range | readonly | empty
deriving DecidableEq, Repr

/-- The record classes (08 R154). -/
inductive RecordClass where
  | bed | pile | grade | model | cannon | exclusion | main | source | slot | observation
  | order | pass | yard
deriving DecidableEq, Repr

/-- Yard time: day number and second of day (10 R173). -/
structure Stamp where
  day : Nat
  second : Nat
deriving DecidableEq, Repr

/-! ## Record Port and Staging Unit -/

/-- The 1.5 s after which a transaction is abandoned, in units of 50 ms (08 R149; 00, Timers). -/
def selectUnits : Nat := 30

/-- The transaction that is open between steps: none, one timed out that still waits for its deselect
(08 R149, R162), a STATUS that goes on, with the bytes of the repeat in progress that are still to go out, or
another read that has acted and goes on, with its command code, what the triple takes at its deselect (nothing
where it was refused BUSY, 08 R151), and whether it streams the latch or zero bytes (08 R150, R153). `later`
says how many bytes the host clocks after each event to come (log 16). -/
inductive TransactionState where
  | idle
  | abandoned
  | streaming (sample : List Byte) (later : List Nat)
  | reading (code : Byte) (answer : Option (Result × Byte)) (streams : Bool) (later : List Nat)
deriving DecidableEq, Repr

/-- The Record Port (08 R150, R153): the last result triple, the read latch, the transaction state, and
what SDO sent after the last parameter byte of the last transaction (log 16). `selectLeft` counts the units of
50 ms that are left of the 1.5 s of a continuous select (08 R149): from the fall of SEL where a read goes on, and
else from the moment before which SEL cannot have fallen (log 16). -/
structure Port where
  command : Byte
  result : Result
  index : Byte
  latch : List Byte
  transaction : TransactionState
  dataOut : List Byte
  selectLeft : Nat
deriving DecidableEq, Repr

/-- The content of a STAGED buffer (08 R155). `base` is the Revision of a PRESENT base, or none for a
NEW one. `values` and `written` follow the class's fields in their layout's order (10, section 10.5). -/
structure Staged where
  cls : RecordClass
  index : Nat
  base : Option Word16
  lost : Bool
  values : List Nat
  written : List Bool
deriving DecidableEq, Repr

/-! ## Geometry Tables -/

/-- The host-writable fields of BED and its Revision (01 R2). -/
structure Bed where
  length : Nat
  exposure : Table 16 (Fin 4)
  collection : Option (Fin 5)
  returnPercent : Nat
  sweepLimit : Nat
  revision : Word16
deriving DecidableEq, Repr

/-- The geometry part of PILE (01 R5). -/
structure Pile where
  bed : Fin 8
  start : Nat
  length : Nat
  grade : Fin 8
  revision : Word16
deriving DecidableEq, Repr

/-- CANNON (01 R10). -/
structure Cannon where
  main : Fin 4
  bed : Fin 8
  reachStart : Nat
  reachLength : Nat
  flow : Nat
  dwell : Nat
  skip : Nat
  repeats : Nat
  reverse : Bool
  alternate : Bool
  driftLimit : Nat
  gain : Nat
  enabled : Bool
  revision : Word16
deriving DecidableEq, Repr

/-- EXCLUSION (01 R14). -/
structure Exclusion where
  bed : Fin 8
  start : Nat
  length : Nat
  fixed : Bool
  revision : Word16
deriving DecidableEq, Repr

/-- The Geometry Tables: the four classes that carry windows and the window index of each bed (01 R6). -/
structure Geometry where
  beds : Table 8 Bed
  piles : Table 48 (Option Pile)
  cannons : Table 24 (Option Cannon)
  exclusions : Table 16 (Option Exclusion)
  index : Table 8 (List (Fin 48))
deriving DecidableEq, Repr

/-! ## Yard Clock and Forecast Horizon -/

/-- The Yard Clock (02 R22), with the events of its boundaries that it has raised and that their owners
have not yet taken (02 R23; log 4), the 50 ms units since its last advance or its start (02 R26; log 2),
and the mark that an advance is owed. -/
structure Clock where
  state : ClockState
  day : Nat
  second : Nat
  heldFrom : Option Nat
  fraction : Nat
  advanceDue : Bool
  assessmentRaised : Option Stamp
  hourRaised : Bool
  dayRaised : Bool
deriving DecidableEq, Repr

/-- SLOT (02 R28). -/
structure Slot where
  hour : Nat
  issue : Nat
  sector : Fin 16
  meanSpeed : Nat
  gust : Nat
  humidity : Nat
  temperature : Int
  rainClass : Nat
deriving DecidableEq, Repr

/-- OBSERVATION (02 R34). -/
structure Observation where
  speed : Nat
  gust : Nat
  sector : Fin 16
  humidity : Nat
  stamp : Stamp
  fresh : Bool
deriving DecidableEq, Repr

/-- The Forecast Horizon: 36 positions, the observation and its life timer in seconds (02 R28, R34). -/
structure Horizon where
  slots : Table 36 (Option Slot)
  observation : Option Observation
  life : Option Nat
deriving DecidableEq, Repr

/-! ## Pile Watch -/

/-- The Last wetting stamp (03 R61). -/
structure Wetting where
  time : Stamp
  ending : PassEnd
  cannon : Fin 24
  source : Fin 6
  baysDone : Nat
  baysPlanned : Nat
  delivered : Nat
  basis : Basis
  sector : Option (Fin 16)
  gust : Option Nat
  clarity : Nat
deriving DecidableEq, Repr

/-- The living part of a pile (03 R42). -/
structure Living where
  moisture : Nat
  urgency : Urgency
  dryness : Nat
  basis : Basis
  deferral : Nat
  escalated : Bool
  sweepDue : Bool
  bedMark : Word16
  engaged : Bool
  carried : Bool
  unqueued : Bool
  wetting : Option Wetting
deriving DecidableEq, Repr

/-- GRADE (03 R46). -/
structure Grade where
  may : Nat
  need : Nat
  must : Nat
  clarityLimit : Nat
  deferralLimit : Nat
  revision : Word16
deriving DecidableEq, Repr

/-- MODEL (02 R37, 03 R48, 06 R124). `lift` and `dry` are indexed by speed band, then by exposure or
humidity class. -/
structure Model where
  speed : Table 3 Nat
  humidity : Table 3 Nat
  lift : Table 4 (Table 4 Nat)
  dry : Table 4 (Table 4 Nat)
  rainGain : Nat
  suspensionLimit : Nat
  observationLife : Nat
  revision : Word16
deriving DecidableEq, Repr

/-- Pile Watch: the living part of each pile position (blank where no pile is present, log 19), GRADE,
MODEL, the bed pass counters and the MUST count (03 R42, R46, R48, R56, R65). -/
structure Watch where
  living : Table 48 Living
  grades : Table 8 Grade
  model : Model
  passCount : Table 8 Word16
  mustCount : Nat
deriving DecidableEq, Repr

/-! ## Order Queue -/

/-- ORDER (05 R89). Rank is derived from the parts (05 R91). -/
structure Order where
  pile : Fin 48
  watch : Option Want
  operator : Option Priority
  named : Option (Fin 24)
  entered : Stamp
  waiting : WaitReason
deriving DecidableEq, Repr

/-! ## Pass Engine -/

/-- MAIN (06 R106). -/
structure Main where
  sourceMask : Table 6 Bool
  warmPrime : Nat
  coldPrime : Nat
  drainTime : Nat
  state : MainState
  openSource : Option (Fin 6)
  context : Option (Fin 8)
  fault : Option FaultCause
  revision : Word16
deriving DecidableEq, Repr

/-- A live pass context (06 R109). The plan is `bays` (the walk of repeat 0), `repeats` and `alternate`,
with the cannon's Dwell and Flow as the plan was built (log 18). The cursor is `cursorRepeat`, `rest`
(the bays of the present repeat's walk that remain, the bay in progress first) and `cursorSeconds`.
`suspension` is the pass's number in the order of suspensions (06 R111). The three timers count seconds. -/
structure Pass where
  state : PassState
  pile : Fin 48
  cannon : Fin 24
  main : Fin 4
  source : Fin 6
  clarity : Nat
  bays : List Nat
  repeats : Nat
  alternate : Bool
  dwell : Nat
  flow : Nat
  cursorRepeat : Nat
  rest : List Nat
  cursorSeconds : Nat
  baysPlanned : Nat
  baysDone : Nat
  planned : Nat
  deducted : Nat
  runningSeconds : Nat
  wind : Bool
  machine : Bool
  since : Option Stamp
  suspension : Nat
  prime : PrimeKind
  primeTimer : Option Nat
  dwellTimer : Option Nat
  limitTimer : Option Nat
deriving DecidableEq, Repr

/-- The Pass Engine: MAIN, the pass contexts, each cannon's drift-blocked flag, the gust figure and GUST
line state last handed (02 R39, R40), how many suspensions it has taken, the mains on which an attempt
has been asked for (06 R110), and the model's free choice of the main that comes next (log 6). -/
structure Engine where
  mains : Table 4 Main
  contexts : Table 8 (Option Pass)
  blocked : Table 24 Bool
  gust : Option Nat
  gustLine : Bool
  suspensions : Nat
  asked : Table 4 Bool
  turns : List (Fin 4)
deriving DecidableEq, Repr

/-! ## Water Table -/

/-- A basin, SOURCE 0 to 4 (04 R66). `low` is the low condition (04 R69), `settle` the settle timer's
seconds left (04 R80). State is derived (04 R68). -/
structure Basin where
  capacity : Nat
  floor : Nat
  restoreMargin : Nat
  settleTime : Nat
  baseClarity : Nat
  level : Nat
  reserved : Nat
  clarity : Nat
  low : Bool
  settle : Option Nat
  spilled : Nat
  isolated : Bool
  revision : Word16
deriving DecidableEq, Repr

/-- The fresh supply, SOURCE 5 (04 R67). -/
structure Fresh where
  allowance : Nat
  today : Nat
  used : Nat
  reserved : Nat
  isolated : Bool
  revision : Word16
deriving DecidableEq, Repr

/-- The Water Table. -/
structure Water where
  basins : Table 5 Basin
  fresh : Fresh
deriving DecidableEq, Repr

/-! ## Field Line Unit -/

/-- One input line (07 R133): settings, raw level (true is HIGH), filtered state (true is ACTIVE), and
its qualifying and re-take timers in units of 50 ms. -/
structure InputLine where
  activeHigh : Bool
  filter : FilterTime
  raw : Bool
  filtered : Bool
  qualify : Option Nat
  retake : Option Nat
deriving DecidableEq, Repr

/-- A change of one output pin (07 R138). -/
inductive OutputChange where
  | valve (cannon : Fin 24) (on : Bool)
  | pump (main : Fin 4) (on : Bool)
  | select (main : Fin 4) (code : Nat)
  | attention (low : Bool)
deriving DecidableEq, Repr

/-- The output pins (07 R138): valve lines, pump run lines, source-select codes, ATTN (true is pulled
low). -/
structure Pins where
  valves : Table 24 Bool
  pumps : Table 4 Bool
  selects : Table 4 Nat
  attention : Bool
deriving DecidableEq, Repr

/-- The fifteen input lines by name. -/
structure Lines where
  machine : Table 8 InputLine
  gust : InputLine
  rain : InputLine
  frost : InputLine
  flow : Table 4 InputLine
deriving DecidableEq, Repr

/-- The Field Line Unit: the inputs, the output pins, the output changes of the last step in the order they
were made, and those made so far within a step, none between steps (07 R138; log 23). -/
structure Field where
  lines : Lines
  pins : Pins
  log : List OutputChange
  made : List OutputChange
deriving DecidableEq, Repr

/-! ## Mode Control, Notice Unit, Nonvolatile Store, start-up -/

/-- Mode Control: the yard mode, each main's drain timer in seconds, and the YARD record's Revision and
Last ended pass (07 R136, R139, R143). -/
structure Control where
  mode : YardMode
  drainTimers : Table 4 (Option Nat)
  revision : Word16
  lastEnded : Option (Fin 48 × PassEnd)
deriving DecidableEq, Repr

/-- The Notice Unit (09 R163, R165). -/
structure Notices where
  pending : Table 9 Bool
  subjects : Table 9 Nat
  allFaulted : Bool
  enables : Table 9 Bool
  urgentMode : UrgentMode
  urgentThreshold : Nat
deriving DecidableEq, Repr

/-- A fixed exclusion as the Nonvolatile Store keeps it (01 R18). -/
structure StoredExclusion where
  bed : Fin 8
  start : Nat
  length : Nat
deriving DecidableEq, Repr

/-- A nonvolatile write in progress (01 R18, R20; 09 R170). -/
inductive StoreWrite where
  | fix (exclusion : Fin 16)
  | close
  | tag (bytes : List Byte)
deriving DecidableEq, Repr

/-- The Nonvolatile Store. `tag` is none while Tag written is clear. `write` is the write in progress; it
ends before a further unit of 50 ms has passed (log 24). -/
structure Store where
  entries : Table 16 (Option StoredExclusion)
  closed : Bool
  tag : Option (List Byte)
  unitNumber : BitVec 64
  write : Option StoreWrite
deriving DecidableEq, Repr

/-- The supply, RSTN, the initialisation timer in 50 ms units (09 R171), and the phase of the seconds
base, 0 to 19 units of 50 ms (log 2). -/
structure Startup where
  powered : Bool
  resetLow : Bool
  initialising : Option Nat
  phase : Nat
deriving DecidableEq, Repr

/-- The state of the part and the commands that wait, first in first out. -/
structure State where
  pending : List Instr
  port : Port
  staging : Table 2 (Option Staged)
  geometry : Geometry
  clock : Clock
  horizon : Horizon
  watch : Watch
  queue : List Order
  engine : Engine
  water : Water
  field : Field
  control : Control
  notices : Notices
  store : Store
  startup : Startup
deriving DecidableEq, Repr

/-- The spec names no condition that stops the part: no command ends in a fault. -/
inductive Fault where
deriving DecidableEq, Repr

/-- Why a command is refused by the model. -/
inductive Refusal where
  /-- Raised by exec's arm of a command that has no meaning yet. Safe: no next state is claimed. -/
  | notModelled (mnemonic : String)
deriving DecidableEq, Repr

/-! ## Reset values -/

/-- BED's defaults (01 R2). -/
def Bed.reset : Bed :=
  { length := 160, exposure := Table.fill 16 1, collection := .none, returnPercent := 0,
    sweepLimit := 0, revision := 0 }

/-- The living part of a position with no pile (log 19), the initial values of 03 R43 with no moisture. -/
def Living.blank : Living :=
  { moisture := 0, urgency := .none, dryness := 0, basis := .worst, deferral := 0, escalated := false,
    sweepDue := false, bedMark := 0, engaged := false, carried := false, unqueued := false,
    wetting := .none }

/-- GRADE's defaults (03 R46). -/
def Grade.reset : Grade :=
  { may := 40, need := 60, must := 80, clarityLimit := 3, deferralLimit := 4, revision := 0 }

/-- A row of a 4 by 4 table. -/
def row (a b c d : Nat) : Table 4 Nat := ⟨#v[a, b, c, d]⟩

/-- MODEL's defaults (02 R37, 03 R48, 06 R124). -/
def Model.reset : Model :=
  { speed := ⟨#v[30, 60, 100]⟩, humidity := ⟨#v[40, 60, 80]⟩,
    lift := ⟨#v[row 0 0 0 0, row 0 3 6 10, row 0 6 12 20, row 0 10 20 30]⟩,
    dry := ⟨#v[row 2 1 1 0, row 4 3 2 1, row 7 5 4 2, row 10 8 6 3]⟩,
    rainGain := 15, suspensionLimit := 45, observationLife := 20, revision := 0 }

/-- MAIN's values after reset (06 R106). -/
def Main.reset : Main :=
  { sourceMask := Table.fill 6 true, warmPrime := 15, coldPrime := 60, drainTime := 10,
    state := .closed, openSource := .none, context := .none, fault := .none, revision := 0 }

/-- A basin's values after reset (04 R66, R69, R80). -/
def Basin.reset : Basin :=
  { capacity := 60000, floor := 0, restoreMargin := 200, settleTime := 30, baseClarity := 3,
    level := 0, reserved := 0, clarity := 3, low := true, settle := .none, spilled := 0,
    isolated := true, revision := 0 }

/-- The fresh supply's values after reset (04 R67). -/
def Fresh.reset : Fresh :=
  { allowance := 0, today := 0, used := 0, reserved := 0, isolated := true, revision := 0 }

/-- A line after reset (07 R137): active level HIGH, filter time 1 s, INACTIVE, a re-take timer of 1 s.
The pin keeps its level. -/
def InputLine.reset (raw : Bool) : InputLine :=
  { activeHigh := true, filter := .one, raw, filtered := false, qualify := .none, retake := some 20 }

/-- Every line after reset. -/
def Lines.reset (l : Lines) : Lines :=
  { machine := Table.tab fun b => .reset (l.machine.get b).raw
    gust := .reset l.gust.raw
    rain := .reset l.rain.raw
    frost := .reset l.frost.raw
    flow := Table.tab fun m => .reset (l.flow.get m).raw }

/-- The output pins after reset (07 R138). -/
def Pins.reset : Pins :=
  { valves := Table.fill 24 false, pumps := Table.fill 4 false, selects := Table.fill 4 7,
    attention := false }

/-- The Yard Clock after power-on and after the reset line (02 R22). -/
def Clock.reset : Clock :=
  { state := .unset, day := 0, second := 0, heldFrom := .none, fraction := 0, advanceDue := false,
    assessmentRaised := .none, hourRaised := false, dayRaised := false }

/-- The Forecast Horizon after power-on and after the reset line (02 R28, R34). -/
def Horizon.reset : Horizon :=
  { slots := Table.fill 36 .none, observation := .none, life := .none }

/-- The exclusions rebuilt from the Nonvolatile Store (01 R19). -/
def Store.rebuild (n : Store) : Table 16 (Option Exclusion) :=
  Table.tab fun i => (n.entries.get i).map fun e =>
    { bed := e.bed, start := e.start, length := e.length, fixed := true, revision := 0 }

/-- The state a reset leaves (09 R171, R172): every block at its reset value, but for what the reset
keeps, which is passed in: the queue of commands, the clock and the horizon, the pins' raw levels, the
Nonvolatile Store, the start-up state, and the free choice of turns. -/
def State.afterReset (pending : List Instr) (clock : Clock) (horizon : Horizon) (lines : Lines)
    (store : Store) (startup : Startup) (turns : List (Fin 4)) : State :=
  { pending
    port := { command := 0, result := .done, index := 0, latch := [0xEE], transaction := .idle,
              dataOut := [], selectLeft := selectUnits }
    staging := Table.fill 2 .none
    geometry :=
      { beds := Table.fill 8 Bed.reset, piles := Table.fill 48 .none, cannons := Table.fill 24 .none,
        exclusions := store.rebuild, index := Table.fill 8 [] }
    clock
    horizon
    watch :=
      { living := Table.fill 48 Living.blank, grades := Table.fill 8 Grade.reset, model := Model.reset,
        passCount := Table.fill 8 0, mustCount := 0 }
    queue := []
    engine :=
      { mains := Table.fill 4 Main.reset, contexts := Table.fill 8 .none, blocked := Table.fill 24 false,
        gust := .none, gustLine := false, suspensions := 0, asked := Table.fill 4 false, turns }
    water := { basins := Table.fill 5 Basin.reset, fresh := Fresh.reset }
    field := { lines := lines.reset, pins := Pins.reset, log := [], made := [] }
    control :=
      { mode := .held, drainTimers := Table.fill 4 .none, revision := 0, lastEnded := .none }
    notices :=
      { pending := Table.fill 9 false, subjects := Table.fill 9 0, allFaulted := false,
        enables := Table.fill 9 false, urgentMode := .each, urgentThreshold := 1 }
    store := { store with write := .none }
    startup }

/-- The lines of a part whose pins are all LOW (log 9). -/
def Lines.low : Lines :=
  { machine := Table.fill 8 (.reset false), gust := .reset false, rain := .reset false,
    frost := .reset false, flow := Table.fill 4 (.reset false) }

/-- The Nonvolatile Store as no command has yet written it (log 10). -/
def Store.blank : Store :=
  { entries := Table.fill 16 .none, closed := false, tag := .none, unitNumber := Config.unitNumber,
    write := .none }

/-- The part right after power has reached it (09 R171): the 50 ms initialisation has just begun. -/
def State.reset : State :=
  State.afterReset [] Clock.reset Horizon.reset Lines.low Store.blank
    { powered := true, resetLow := false, initialising := some 1, phase := 0 } []

end Sys2Proof.Machine
end

