-- ==== Sys2Proof/Machine/Flags.lean ====
section
/-! DEFINITION. The conditions that are read off the state and held nowhere: BUSY, ATTN, current hour, bands,
basis, gust figure, drift flags, source states and available volumes, ranks, availability, delivered
volume, and the levels the output pins follow. -/

namespace Sys2Proof.Machine

/-! ## Start-up and port -/

/-- The part takes commands and events: it has its supply and RSTN is not held low (09 R171; logs 11, 12). -/
def State.live (s : State) : Bool := s.startup.powered && !s.startup.resetLow

/-- BUSY (08 R151): during a nonvolatile write and during the initialisation. -/
def State.busy (s : State) : Bool := s.startup.initialising.isSome || s.store.write.isSome

/-- The place of a notice kind in the sets and lists of notices (09 R163; 10, table 10.1). -/
def NoticeKind.place : NoticeKind → Fin 9
  | .urgent => 0 | .passEnded => 1 | .mainFault => 2 | .waterLow => 3 | .spill => 4
  | .forecastGap => 5 | .windBlind => 6 | .unserved => 7 | .mode => 8

/-- At least one kind is both pending and enabled: ATTN is pulled low (09 R165). -/
def Notices.attention (n : Notices) : Bool := n.pending.any fun k p => p && n.enables.get k

/-! ## Lines -/

/-- The input line of a name. -/
def Lines.get (l : Lines) : Line → InputLine
  | .machine b => l.machine.get b
  | .gust => l.gust
  | .rain => l.rain
  | .frost => l.frost
  | .flow m => l.flow.get m

/-- The lines with one of them replaced. -/
def Lines.put (l : Lines) (i : Line) (x : InputLine) : Lines :=
  match i with
  | .machine b => { l with machine := l.machine.put b x }
  | .gust => { l with gust := x }
  | .rain => { l with rain := x }
  | .frost => { l with frost := x }
  | .flow m => { l with flow := l.flow.put m x }

/-- The raw level, read under the active level, is active (07 R133). -/
def InputLine.reads (l : InputLine) : Bool := l.raw == l.activeHigh

/-- A filter time in units of 50 ms. -/
def FilterTime.units : FilterTime → Nat
  | .zero => 0 | .quarter => 5 | .one => 20 | .four => 80

/-- Bed `b`'s Machine state is PRESENT (01 R3): the filtered machine line is active (log 20). -/
def State.machinePresent (s : State) (b : Fin 8) : Bool := (s.field.lines.machine.get b).filtered

/-! ## Clock, horizon and wind -/

/-- The current hour (02 R22). -/
def Clock.hour (c : Clock) : Nat := c.day * 24 + c.second / 3600

/-- The clock's present value (02 R27: day 0, second 0 while UNSET, which is what an UNSET clock holds). -/
def Clock.now (c : Clock) : Stamp := ⟨c.day, c.second⟩

/-- The hour number of a time (02 R38). -/
def Stamp.hour (t : Stamp) : Nat := t.day * 24 + t.second / 3600

/-- The slot that is present for hour number `h`, at position h mod 36 (02 R28). -/
def Horizon.slotFor (z : Horizon) (h : Nat) : Option Slot :=
  match z.slots.get (Fin.ofNat 36 h) with
  | some x => if x.hour = h then some x else none
  | none => none

/-- The number of thresholds less than or equal to a value: its band (02 R37). -/
def band (t : Table 3 Nat) (v : Nat) : Fin 4 :=
  Fin.ofNat 4 ((if t.get 0 ≤ v then 1 else 0) + (if t.get 1 ≤ v then 1 else 0)
    + (if t.get 2 ≤ v then 1 else 0))

/-- The wind basis handed to Pile Watch (02 R38). -/
structure WindBasis where
  kind : Basis
  speedBand : Fin 4
  humidityClass : Fin 4
  sector : Option (Fin 16)
  rainClass : Option Nat
deriving DecidableEq, Repr

/-- The observation, if it is present and Fresh. -/
def Horizon.freshObservation (z : Horizon) : Option Observation :=
  match z.observation with
  | some o => if o.fresh then some o else none
  | none => none

/-- The wind basis of a time (02 R38): a slot for the hour, else the fresh observation, else the worst. -/
def State.windBasis (s : State) (t : Stamp) : WindBasis :=
  let m := s.watch.model
  match s.horizon.slotFor t.hour with
  | some x =>
    { kind := .forecast, speedBand := band m.speed x.meanSpeed,
      humidityClass := band m.humidity x.humidity, sector := some x.sector,
      rainClass := some x.rainClass }
  | none =>
    match s.horizon.freshObservation with
    | some o =>
      { kind := .observed, speedBand := band m.speed o.speed,
        humidityClass := band m.humidity o.humidity, sector := some o.sector, rainClass := none }
    | none =>
      { kind := .worst, speedBand := 3, humidityClass := 0, sector := none, rainClass := none }

/-- The gust figure (02 R39): the fresh observation's, else the current slot's, else unknown. -/
def State.gustFigure (s : State) : Option Nat :=
  match s.horizon.freshObservation with
  | some o => some o.gust
  | none => (s.horizon.slotFor s.clock.hour).map (·.gust)

/-- A cannon's drift-blocked flag after a judging (02 R40). The clear level is the Drift limit minus 15,
0 when that is below 0. -/
def driftFlag (old : Bool) (limit : Nat) (gustLine : Bool) (figure : Option Nat) : Bool :=
  if gustLine then true
  else
    match figure with
    | none => true
    | some g => if limit < g then true else if g ≤ limit - 15 then false else old

/-! ## Geometry -/

/-- Bay `b` lies in the window (01, opening). -/
def inWindow (start length b : Nat) : Bool := decide (start ≤ b) && decide (b < start + length)

/-- Two windows share a bay. -/
def windowsMeet (s₁ n₁ s₂ n₂ : Nat) : Bool :=
  decide (0 < n₁) && decide (0 < n₂) && decide (s₁ < s₂ + n₂) && decide (s₂ < s₁ + n₁)

/-- The cannon covers a window on a bed (01 R1). -/
def Cannon.coversWindow (c : Cannon) (bed : Fin 8) (start length : Nat) : Bool :=
  decide (c.bed = bed) && decide (c.reachStart ≤ start)
    && decide (start + length ≤ c.reachStart + c.reachLength)

/-- The cannon covers a pile (01 R1). -/
def Cannon.coversPile (c : Cannon) (p : Pile) : Bool := c.coversWindow p.bed p.start p.length

/-- A present exclusion on the bed holds the bay (01 R14). -/
def Geometry.excluded (g : Geometry) (bed : Fin 8) (bay : Nat) : Bool :=
  g.exclusions.any fun _ x =>
    match x with
    | some e => decide (e.bed = bed) && inWindow e.start e.length bay
    | none => false

/-! ## Sources -/

/-- Source `x` as a basin: 0 to 4; source 5 is the fresh supply. -/
def asBasin (x : Fin 6) : Option (Fin 5) := if h : x.val < 5 then some ⟨x.val, h⟩ else none

/-- A basin as a source. -/
def asSource (b : Fin 5) : Fin 6 := ⟨b.val, by omega⟩

/-- A basin's State (04 R68). -/
def Basin.state (b : Basin) : SourceState :=
  if b.isolated then .isolated else if b.low then .low
  else if b.settle.isSome then .settling else .ready

/-- The fresh supply's State (04 R67). -/
def Fresh.state (f : Fresh) : SourceState := if f.isolated then .isolated else .ready

/-- A basin's available volume; a negative difference counts as 0 (04 R74). -/
def Basin.available (b : Basin) : Nat := b.level - b.floor - b.reserved

/-- The fresh supply's available volume (04 R74). -/
def Fresh.available (f : Fresh) : Nat := f.today - f.used - f.reserved

/-- A source's State. -/
def Water.state (w : Water) (x : Fin 6) : SourceState :=
  match asBasin x with
  | some b => (w.basins.get b).state
  | none => w.fresh.state

/-- A source's Clarity (04 R66, R67: 0 for the fresh supply). -/
def Water.clarity (w : Water) (x : Fin 6) : Nat :=
  match asBasin x with
  | some b => (w.basins.get b).clarity
  | none => 0

/-- A source is usable for a main that has ended a pass (06 R128): a READY or SETTLING basin, or the
fresh supply not isolated. -/
def Water.usable (w : Water) (x : Fin 6) : Bool :=
  match w.state x with
  | .ready => true
  | .settling => true
  | .low => false
  | .isolated => false

/-! ## Orders -/

/-- The watch part an Urgency stands for; NONE stands for no part (05 R92). -/
def Urgency.want : Urgency → Option Want
  | .none => Option.none | .may => some .may | .need => some .need | .must => some .must

/-- The rank a watch part gives (05 R91). -/
def Want.rank : Want → Nat
  | .may => 1 | .need => 3 | .must => 5

/-- The rank an operator part gives (05 R91). -/
def Priority.rank : Priority → Nat
  | .normal => 2 | .high => 4

/-- An order's rank: the highest of the ranks its parts give (05 R91). -/
def Order.rank (o : Order) : Nat :=
  max ((o.watch.map Want.rank).getD 0) ((o.operator.map Priority.rank).getD 0)

/-- The queued order of a pile. -/
def State.orderOf (s : State) (i : Fin 48) : Option Order := s.queue.find? fun o => o.pile == i

/-- The pile has a queued order. -/
def State.hasOrder (s : State) (i : Fin 48) : Bool := s.queue.any fun o => o.pile == i

/-! ## Mains and passes -/

/-- A main is available: CLOSED or OPEN while the yard is ACTIVE (06 R107). -/
def State.available (s : State) (m : Fin 4) : Bool :=
  decide (s.control.mode = .active)
    && (decide ((s.engine.mains.get m).state = .closed)
      || decide ((s.engine.mains.get m).state = .opened))

/-- Delivered VU of a live pass (06 R119). -/
def Pass.delivered (p : Pass) : Nat := min p.planned (p.flow * p.runningSeconds / 60)

/-- The walk of repeat `r` (06 R113 step 3). -/
def Pass.walk (p : Pass) (r : Nat) : List Nat :=
  if p.alternate && r % 2 == 1 then p.bays.reverse else p.bays

/-- The number of remaining bays of a live pass (06 R114). -/
def Pass.remaining (p : Pass) : Nat :=
  p.rest.length + (p.repeats - 1 - p.cursorRepeat) * p.bays.length

/-- The pass waits and holds no suspend reason (06 R122). -/
def Pass.resumable (p : Pass) : Bool := decide (p.state = .suspended) && !p.wind && !p.machine

/-- The cannon has a live pass (01 R11). -/
def State.cannonLive (s : State) (c : Fin 24) : Bool :=
  s.engine.contexts.any fun _ x => match x with | some p => decide (p.cannon = c) | none => false

/-- The Planned VU of `bays` bays at a Dwell and a Flow, rounded up (06 R113 step 4). -/
def planVolume (bays dwell flow : Nat) : Nat := (bays * dwell * flow + 59) / 60

/-! ## Output pins -/

/-- A pass on the cannon is RUNNING: its valve line is on (06 R107, 07 R138). -/
def Engine.valveOn (e : Engine) (c : Fin 24) : Bool :=
  e.contexts.any fun _ x =>
    match x with
    | some p => decide (p.cannon = c) && decide (p.state = .running)
    | none => false

/-- The main is PRIMING or RUNNING: its pump run line is on (06 R107, 07 R138). -/
def Main.pumpOn (m : Main) : Bool := decide (m.state = .priming) || decide (m.state = .running)

/-- The source-select code: the open source, 7 for none (07 R138). -/
def Main.selectCode (m : Main) : Nat := (m.openSource.map (·.val)).getD 7

/-- The levels the output pins follow (07 R138, 09 R165). -/
def State.pinsFollowed (s : State) : Pins :=
  { valves := Table.tab s.engine.valveOn
    pumps := Table.tab fun m => (s.engine.mains.get m).pumpOn
    selects := Table.tab fun m => (s.engine.mains.get m).selectCode
    attention := s.notices.attention }

end Sys2Proof.Machine
end

