-- ==== Sys2Proof/Machine/Operands.lean ====
section
/-! DEFINITION. Operand forms: how values stand in bytes on the port (10 R173, table 10.1), the field layout
of each record class with each field's width, access and range (10, section 10.5), and the field values of
each live record. -/

namespace Sys2Proof.Machine

/-! ## Bytes and words (10 R173) -/

/-- A quantity in `w` bytes, most significant byte first. -/
def bytesOf (w v : Nat) : List Byte := (List.range w).reverse.map fun k => BitVec.ofNat 8 (v / 256 ^ k)

/-- The unsigned quantity that bytes hold, most significant first. -/
def valueOf (bytes : List Byte) : Nat := bytes.foldl (fun a b => a * 256 + b.toNat) 0

/-- Every byte of a `w`-byte field 0xFF: none, or an absent field. -/
def absentValue (w : Nat) : Nat := 256 ^ w - 1

/-- A field that may be absent. -/
def orAbsent (w : Nat) (v : Option Nat) : Nat := v.getD (absentValue w)

/-- A flag byte. -/
def flagCode (b : Bool) : Nat := if b then 1 else 0

/-- A temperature in one byte, two's complement. -/
def temperatureCode (t : Int) : Nat := (BitVec.ofInt 8 t).toNat

/-- A set of flags, bit k for member k. -/
def setCode {n : Nat} (t : Table n Bool) : Nat :=
  (List.finRange n).foldl (fun a k => if t.get k then a + 2 ^ k.val else a) 0

/-- The members a set of flags names. -/
def flagsOf (n v : Nat) : Table n Bool := Table.tab fun k => v.testBit k.val

/-- The bytes of a reply that repeats from its first byte, as far as they are clocked (08 R153). -/
def stream (reply : List Byte) (clocked : Nat) : List Byte :=
  (List.range clocked).map fun k => reply.getD (k % reply.length) 0

/-- The absent marker (10 R173). -/
def absentMarker : List Byte := [0xEE]

/-! ## Codes (10, table 10.1 and section 10.3) -/

def Urgency.code : Urgency → Nat
  | .none => 0 | .may => 1 | .need => 2 | .must => 3

def Want.code : Want → Nat
  | .may => 1 | .need => 2 | .must => 3

def Basis.code : Basis → Nat
  | .forecast => 0 | .observed => 1 | .worst => 2

def YardMode.code : YardMode → Nat
  | .active => 0 | .held => 1 | .draining => 2 | .drained => 3

def ClockState.code : ClockState → Nat
  | .unset => 0 | .held => 1 | .running => 2

def MainState.code : MainState → Nat
  | .closed => 0 | .opened => 1 | .priming => 2 | .running => 3 | .faulted => 4 | .draining => 5
  | .drained => 6

def PassState.code : PassState → Nat
  | .priming => 1 | .running => 2 | .suspended => 3

def SourceState.code : SourceState → Nat
  | .ready => 0 | .settling => 1 | .low => 2 | .isolated => 3

def FaultCause.code : FaultCause → Nat
  | .noFlow => 7 | .flowLost => 8 | .stray => 9

def CutReason.code : CutReason → Nat
  | .hold => 1 | .drain => 2 | .water => 3 | .excluded => 4 | .retired => 5 | .suspendLimit => 6

def PassEnd.outcomeCode : PassEnd → Nat
  | .full => 0 | .cutShort _ => 1 | .noFlow _ => 2

/-- The end reason: absent for FULL (03 R61). -/
def PassEnd.reasonCode : PassEnd → Nat
  | .full => absentValue 1 | .cutShort r => r.code | .noFlow c => c.code

def Priority.code : Priority → Nat
  | .normal => 0 | .high => 1

def WaitReason.code : WaitReason → Nat
  | .none => 0 | .noCannon => 1 | .wind => 2 | .machine => 3 | .water => 4 | .main => 5

def PrimeKind.code : PrimeKind → Nat
  | .warm => 0 | .cold => 1

def FilterTime.code : FilterTime → Nat
  | .zero => 0 | .quarter => 1 | .one => 2 | .four => 3

def FilterTime.ofCode : Nat → FilterTime
  | 0 => .zero | 1 => .quarter | 2 => .one | _ => .four

def UrgentMode.code : UrgentMode → Nat
  | .each => 0 | .count => 1

def Result.code : Result → Byte
  | .done => 0x00 | .merged => 0x01 | .same => 0x02 | .different => 0x03 | .absent => 0x04
  | .busy => 0x05 | .held => 0x06 | .frost => 0x07 | .state => 0x08 | .clock => 0x09
  | .noSuch => 0x0A | .exists => 0x0B | .timeout => 0x0C | .unknown => 0x0D | .changed => 0x0E
  | .overlap => 0x0F | .uncovered => 0x10 | .covers => 0x11 | .engaged => 0x12 | .fixed => 0x13
  | .closed => 0x14 | .full => 0x15 | .stale => 0x16 | .past => 0x17 | .beyond => 0x18
  | .range => 0x19 | .readonly => 0x1A | .empty => 0x1B

/-- The record class a class byte names, if any. -/
def classOf (b : Byte) : Option RecordClass :=
  match b.toNat with
  | 1 => some .bed | 2 => some .pile | 3 => some .grade | 4 => some .model | 5 => some .cannon
  | 6 => some .exclusion | 7 => some .main | 8 => some .source | 9 => some .slot
  | 10 => some .observation | 11 => some .order | 12 => some .pass | 13 => some .yard
  | _ => none

/-- How many indices a class has (08 R154). -/
def RecordClass.size : RecordClass → Nat
  | .bed => 8 | .pile => 48 | .grade => 8 | .model => 1 | .cannon => 24 | .exclusion => 16
  | .main => 4 | .source => 6 | .slot => 36 | .observation => 1 | .order => 16 | .pass => 8
  | .yard => 1

/-- The class is edited through the staging buffers (08 R154). -/
def RecordClass.stagedClass : RecordClass → Bool
  | .bed | .pile | .grade | .model | .cannon | .exclusion | .main | .source | .yard => true
  | .slot | .observation | .order | .pass => false

/-- The class is retired by RETIRE (08 R154). -/
def RecordClass.retirable : RecordClass → Bool
  | .pile | .cannon | .exclusion | .slot | .observation => true
  | .bed | .grade | .model | .main | .source | .order | .pass | .yard => false

/-! ## Field layouts (10, section 10.5) -/

/-- Who writes a field: the host, the part, or the host at creation alone (PILE Moisture, 01 R5). -/
inductive Access where
  | host | part | creation
deriving DecidableEq, Repr

/-- The values a FILL may give a field, in the field's raw form. -/
inductive Range where
  | between (lo hi : Nat)
  | zeroOr (lo hi : Nat)
  | noneOr (hi : Nat)
deriving DecidableEq, Repr

/-- A raw value lies in a field's own range (10 R175). -/
def Range.holds : Range → Nat → Bool
  | .between lo hi, v => decide (lo ≤ v) && decide (v ≤ hi)
  | .zeroOr lo hi, v => v == 0 || (decide (lo ≤ v) && decide (v ≤ hi))
  | .noneOr hi, v => v == 255 || decide (v ≤ hi)

/-- One field of a record: its number, width in bytes, access and range. -/
structure FieldSpec where
  number : Nat
  width : Nat
  access : Access
  range : Range
deriving DecidableEq, Repr

/-- A host-writable field. -/
def hostField (number width lo hi : Nat) : FieldSpec := ⟨number, width, .host, .between lo hi⟩

/-- A part-maintained field. -/
def partField (number width : Nat) : FieldSpec := ⟨number, width, .part, .between 0 (256 ^ width - 1)⟩

/-- Host-writable fields of one shape under consecutive numbers. -/
def hostFields (first count width lo hi : Nat) : List FieldSpec :=
  (List.range count).map fun k => hostField (first + k) width lo hi

/-- Part-maintained fields of one width under consecutive numbers. -/
def partFields (first count width : Nat) : List FieldSpec :=
  (List.range count).map fun k => partField (first + k) width

/-- A class's fields in the order LOOK streams them. SOURCE index 5 is the fresh supply. -/
def layout : RecordClass → Nat → List FieldSpec
  | .bed, _ =>
    [hostField 1 1 1 160] ++ hostFields 2 16 1 0 3
      ++ [⟨18, 1, .host, .noneOr 4⟩, hostField 19 1 0 100, ⟨20, 1, .host, .zeroOr 8 200⟩,
          partField 21 2, partField 22 1, partField 23 2]
  | .grade, _ =>
    hostFields 1 3 1 0 140 ++ [hostField 4 1 0 3, hostField 5 1 1 8, partField 6 2]
  | .model, _ =>
    hostFields 1 3 2 0 600 ++ hostFields 4 3 1 0 100 ++ hostFields 7 16 1 0 40
      ++ hostFields 23 16 1 0 20
      ++ [hostField 39 1 0 40, hostField 40 1 5 120, hostField 41 1 5 60, partField 42 2]
  | .cannon, _ =>
    [hostField 1 1 0 3, hostField 2 1 0 7, hostField 3 1 0 159, hostField 4 1 1 160,
     hostField 5 1 1 40, hostField 6 2 10 600, hostField 7 1 0 7, hostField 8 1 1 4,
     hostField 9 1 0 1, hostField 10 1 0 1, hostField 11 2 0 400, hostField 12 1 1 60,
     hostField 13 1 0 1, partField 14 2]
  | .exclusion, _ =>
    [hostField 1 1 0 7, hostField 2 1 0 159, hostField 3 1 0 160, partField 4 1, partField 5 2]
  | .main, _ =>
    [hostField 1 1 0 63, hostField 2 1 5 120, hostField 3 2 10 300, hostField 4 1 1 60]
      ++ partFields 5 4 1 ++ [partField 9 2]
  | .pile, _ =>
    [hostField 1 1 0 7, hostField 2 1 0 159, hostField 3 1 1 160, hostField 4 1 0 7,
     ⟨5, 1, .creation, .between 0 100⟩]
      ++ partFields 6 6 1 ++ [partField 12 2] ++ partFields 13 4 1
      ++ [partField 17 2, partField 18 3, partField 19 1, partField 20 1, partField 21 1,
          partField 22 1, partField 23 2, partField 24 2, partField 25 3, partField 26 1,
          partField 27 1, partField 28 2, partField 29 1, partField 30 2]
  | .source, 5 =>
    [hostField 14 2 0 65535, partField 15 2, partField 16 2, partField 7 2, partField 8 1,
     partField 9 1, partField 12 1, partField 13 2]
  | .source, _ =>
    [hostField 1 2 1 60000, hostField 2 2 0 60000, hostField 3 2 0 5000, hostField 4 2 0 720,
     partField 5 1, partField 6 2, partField 7 2, partField 8 1, partField 9 1, partField 10 2,
     partField 11 2, partField 12 1, partField 13 2]
  | .slot, _ =>
    [partField 1 3, partField 2 2, partField 3 1, partField 4 2, partField 5 2, partField 6 1,
     partField 7 1, partField 8 1]
  | .observation, _ =>
    [partField 1 2, partField 2 2, partField 3 1, partField 4 1, partField 5 2, partField 6 3,
     partField 7 1]
  | .order, _ =>
    [partField 1 1, partField 2 1, partField 3 1, partField 4 1, partField 5 2, partField 6 3,
     partField 7 1, partField 8 1]
  | .pass, _ => []
  | .yard, _ =>
    [partField 1 1, partField 2 1, partField 3 2, partField 4 3, hostField 5 2 0 511,
     hostField 6 1 0 1, hostField 7 1 1 48]
      ++ hostFields 8 15 1 0 1 ++ hostFields 23 15 1 0 3 ++ partFields 38 15 1
      ++ [partField 53 1, partField 54 1, partField 55 2]

/-- The bytes of a record's fields, each in its width. -/
def layoutBytes (fields : List FieldSpec) (values : List Nat) : List Byte :=
  (fields.zip values).flatMap fun (f, v) => bytesOf f.width v

/-! ## Field values of the live records, in their layouts' order -/

/-- The records of a table in index order. -/
def Table.list {n : Nat} {α : Type} (t : Table n α) : List α := (List.finRange n).map t.get

/-- The input lines in the order of the YARD record (07 R136). -/
def allLines : List Line :=
  [.machine 0, .machine 1, .machine 2, .machine 3, .machine 4, .machine 5, .machine 6, .machine 7,
   .gust, .rain, .frost, .flow 0, .flow 1, .flow 2, .flow 3]

def bedValues (b : Bed) (passCount : Word16) (present : Bool) : List Nat :=
  [b.length] ++ (Table.list b.exposure).map (·.val)
    ++ [orAbsent 1 (b.collection.map (·.val)), b.returnPercent, b.sweepLimit, passCount.toNat,
        flagCode present, b.revision.toNat]

def gradeValues (g : Grade) : List Nat :=
  [g.may, g.need, g.must, g.clarityLimit, g.deferralLimit, g.revision.toNat]

def modelValues (m : Model) : List Nat :=
  Table.list m.speed ++ Table.list m.humidity ++ (Table.list m.lift).flatMap Table.list
    ++ (Table.list m.dry).flatMap Table.list
    ++ [m.rainGain, m.suspensionLimit, m.observationLife, m.revision.toNat]

def cannonValues (c : Cannon) : List Nat :=
  [c.main.val, c.bed.val, c.reachStart, c.reachLength, c.flow, c.dwell, c.skip, c.repeats,
   flagCode c.reverse, flagCode c.alternate, c.driftLimit, c.gain, flagCode c.enabled,
   c.revision.toNat]

def exclusionValues (e : Exclusion) : List Nat :=
  [e.bed.val, e.start, e.length, flagCode e.fixed, e.revision.toNat]

def mainValues (m : Main) : List Nat :=
  [setCode m.sourceMask, m.warmPrime, m.coldPrime, m.drainTime, m.state.code,
   orAbsent 1 (m.openSource.map (·.val)), orAbsent 1 (m.context.map (·.val)),
   orAbsent 1 (m.fault.map (·.code)), m.revision.toNat]

/-- The Last wetting stamp's fields 17 to 29; all 0xFF while it is absent (10, section 10.5). -/
def wettingValues : Option Wetting → List Nat
  | none =>
    [absentValue 2, absentValue 3, absentValue 1, absentValue 1, absentValue 1, absentValue 1,
     absentValue 2, absentValue 2, absentValue 3, absentValue 1, absentValue 1, absentValue 2,
     absentValue 1]
  | some w =>
    [w.time.day, w.time.second, w.ending.outcomeCode, w.ending.reasonCode, w.cannon.val, w.source.val,
     w.baysDone, w.baysPlanned, w.delivered, w.basis.code, orAbsent 1 (w.sector.map (·.val)),
     orAbsent 2 w.gust, w.clarity]

def pileValues (p : Pile) (l : Living) : List Nat :=
  [p.bed.val, p.start, p.length, p.grade.val, l.moisture, l.urgency.code, l.dryness, l.basis.code,
   l.deferral, flagCode l.escalated, flagCode l.sweepDue, l.bedMark.toNat, flagCode l.engaged,
   flagCode l.carried, flagCode l.unqueued, flagCode l.wetting.isSome]
    ++ wettingValues l.wetting ++ [p.revision.toNat]

def basinValues (b : Basin) : List Nat :=
  [b.capacity, b.floor, b.restoreMargin, b.settleTime, b.baseClarity, b.level, b.reserved, b.clarity,
   b.state.code, b.settle.getD 0, b.spilled, flagCode b.isolated, b.revision.toNat]

def freshValues (f : Fresh) : List Nat :=
  [f.allowance, f.today, f.used, f.reserved, 0, f.state.code, flagCode f.isolated, f.revision.toNat]

def slotValues (x : Slot) : List Nat :=
  [x.hour, x.issue, x.sector.val, x.meanSpeed, x.gust, x.humidity, temperatureCode x.temperature,
   x.rainClass]

def observationValues (o : Observation) : List Nat :=
  [o.speed, o.gust, o.sector.val, o.humidity, o.stamp.day, o.stamp.second, flagCode o.fresh]

def orderValues (o : Order) : List Nat :=
  [o.pile.val, orAbsent 1 (o.watch.map Want.code), orAbsent 1 (o.operator.map Priority.code),
   orAbsent 1 (o.named.map (·.val)), o.entered.day, o.entered.second, o.rank, o.waiting.code]

/-- The YARD record's values (07 R136; 10, section 10.5). -/
def yardValues (s : State) : List Nat :=
  [s.control.mode.code, s.clock.state.code, s.clock.day, s.clock.second, setCode s.notices.enables,
   s.notices.urgentMode.code, s.notices.urgentThreshold]
    ++ allLines.map (fun i => flagCode (s.field.lines.get i).activeHigh)
    ++ allLines.map (fun i => (s.field.lines.get i).filter.code)
    ++ allLines.map (fun i => flagCode (s.field.lines.get i).filtered)
    ++ [orAbsent 1 (s.control.lastEnded.map fun e => e.1.val),
        orAbsent 1 (s.control.lastEnded.map fun e => e.2.outcomeCode), s.control.revision.toNat]

/-- The bytes of a live pass context (10, section 10.5). -/
def passBytes (p : Pass) : List Byte :=
  bytesOf 1 p.state.code ++ bytesOf 1 p.pile.val ++ bytesOf 1 p.cannon.val ++ bytesOf 1 p.main.val
    ++ bytesOf 1 p.source.val ++ bytesOf 1 p.clarity ++ bytesOf 1 p.repeats ++ bytesOf 1 p.bays.length
    ++ p.bays.flatMap (bytesOf 1) ++ bytesOf 1 p.cursorRepeat
    ++ bytesOf 1 (orAbsent 1 p.rest.head?) ++ bytesOf 2 p.cursorSeconds ++ bytesOf 2 p.baysPlanned
    ++ bytesOf 2 p.baysDone ++ bytesOf 3 p.planned ++ bytesOf 3 p.delivered ++ bytesOf 3 p.deducted
    ++ bytesOf 4 p.runningSeconds ++ bytesOf 1 (flagCode p.wind + 2 * flagCode p.machine)
    ++ bytesOf 2 (orAbsent 2 (p.since.map (·.day))) ++ bytesOf 3 (orAbsent 3 (p.since.map (·.second)))
    ++ bytesOf 1 p.prime.code

/-- The field values of the live record of a class and index, or none where it is absent. PASS has no
fixed layout and is not staged. -/
def State.liveValues (s : State) (cls : RecordClass) (i : Nat) : Option (List Nat) :=
  match cls with
  | .bed =>
    let b : Fin 8 := Fin.ofNat 8 i
    some (bedValues (s.geometry.beds.get b) (s.watch.passCount.get b) (s.machinePresent b))
  | .pile =>
    (s.geometry.piles.get (Fin.ofNat 48 i)).map fun p =>
      pileValues p (s.watch.living.get (Fin.ofNat 48 i))
  | .grade => some (gradeValues (s.watch.grades.get (Fin.ofNat 8 i)))
  | .model => some (modelValues s.watch.model)
  | .cannon => (s.geometry.cannons.get (Fin.ofNat 24 i)).map cannonValues
  | .exclusion => (s.geometry.exclusions.get (Fin.ofNat 16 i)).map exclusionValues
  | .main => some (mainValues (s.engine.mains.get (Fin.ofNat 4 i)))
  | .source =>
    match asBasin (Fin.ofNat 6 i) with
    | some b => some (basinValues (s.water.basins.get b))
    | none => some (freshValues s.water.fresh)
  | .slot => (s.horizon.slots.get (Fin.ofNat 36 i)).map slotValues
  | .observation => s.horizon.observation.map observationValues
  | .order => s.queue[i]?.map orderValues
  | .pass => none
  | .yard => some (yardValues s)

/-- The Revision of the live record of a staged class, or none where it is absent. -/
def State.liveRevision (s : State) (cls : RecordClass) (i : Nat) : Option Word16 :=
  match cls with
  | .bed => some (s.geometry.beds.get (Fin.ofNat 8 i)).revision
  | .pile => (s.geometry.piles.get (Fin.ofNat 48 i)).map (·.revision)
  | .grade => some (s.watch.grades.get (Fin.ofNat 8 i)).revision
  | .model => some s.watch.model.revision
  | .cannon => (s.geometry.cannons.get (Fin.ofNat 24 i)).map (·.revision)
  | .exclusion => (s.geometry.exclusions.get (Fin.ofNat 16 i)).map (·.revision)
  | .main => some (s.engine.mains.get (Fin.ofNat 4 i)).revision
  | .source =>
    match asBasin (Fin.ofNat 6 i) with
    | some b => some (s.water.basins.get b).revision
    | none => some s.water.fresh.revision
  | .yard => some s.control.revision
  | .slot | .observation | .order | .pass => none

/-- The values a STAGE takes for an absent position (01 R5, R10, R14); the part-maintained fields of a new
record hold the model's blanks (log 26). -/
def defaultValues : RecordClass → List Nat
  | .pile =>
    pileValues { bed := 0, start := 0, length := 1, grade := 0, revision := 0 }
      { Living.blank with moisture := 50 }
  | .cannon =>
    cannonValues
      { main := 0, bed := 0, reachStart := 0, reachLength := 1, flow := 10, dwell := 60, skip := 0,
        repeats := 1, reverse := false, alternate := false, driftLimit := 100, gain := 20,
        enabled := false, revision := 0 }
  | .exclusion => exclusionValues { bed := 0, start := 0, length := 1, fixed := false, revision := 0 }
  | .bed | .grade | .model | .main | .source | .slot | .observation | .order | .pass | .yard => []

/-- The copy LOOK takes of a record, or none where it is absent. A FREE context is one byte, State FREE
(06 R109; 10, section 10.5). -/
def State.copy (s : State) (cls : RecordClass) (i : Nat) : Option (List Byte) :=
  match cls with
  | .pass =>
    match s.engine.contexts.get (Fin.ofNat 8 i) with
    | some p => some (passBytes p)
    | none => some [0x00]
  | _ => (s.liveValues cls i).map (layoutBytes (layout cls i))

/-! ## Field values to records, for COMMIT -/

/-- The value of field number `n` in a record whose field numbers run from 1. -/
def fieldValue (values : List Nat) (n : Nat) : Nat := values.getD (n - 1) 0

/-- The host-writable fields of BED installed; Revision is the caller's. -/
def Bed.install (b : Bed) (v : List Nat) : Bed :=
  { b with
    length := fieldValue v 1
    exposure := Table.tab fun k => Fin.ofNat 4 (fieldValue v (2 + k.val))
    collection := if fieldValue v 18 < 5 then some (Fin.ofNat 5 (fieldValue v 18)) else none
    returnPercent := fieldValue v 19
    sweepLimit := fieldValue v 20 }

def pileFrom (v : List Nat) (revision : Word16) : Pile :=
  { bed := Fin.ofNat 8 (fieldValue v 1), start := fieldValue v 2, length := fieldValue v 3,
    grade := Fin.ofNat 8 (fieldValue v 4), revision }

def cannonFrom (v : List Nat) (revision : Word16) : Cannon :=
  { main := Fin.ofNat 4 (fieldValue v 1), bed := Fin.ofNat 8 (fieldValue v 2),
    reachStart := fieldValue v 3, reachLength := fieldValue v 4, flow := fieldValue v 5,
    dwell := fieldValue v 6, skip := fieldValue v 7, repeats := fieldValue v 8,
    reverse := fieldValue v 9 == 1, alternate := fieldValue v 10 == 1, driftLimit := fieldValue v 11,
    gain := fieldValue v 12, enabled := fieldValue v 13 == 1, revision }

def exclusionFrom (v : List Nat) (revision : Word16) : Exclusion :=
  { bed := Fin.ofNat 8 (fieldValue v 1), start := fieldValue v 2, length := fieldValue v 3,
    fixed := false, revision }

def gradeFrom (v : List Nat) (revision : Word16) : Grade :=
  { may := fieldValue v 1, need := fieldValue v 2, must := fieldValue v 3,
    clarityLimit := fieldValue v 4, deferralLimit := fieldValue v 5, revision }

def modelFrom (v : List Nat) (revision : Word16) : Model :=
  { speed := Table.tab fun k => fieldValue v (1 + k.val)
    humidity := Table.tab fun k => fieldValue v (4 + k.val)
    lift := Table.tab fun b => Table.tab fun e => fieldValue v (7 + 4 * b.val + e.val)
    dry := Table.tab fun b => Table.tab fun h => fieldValue v (23 + 4 * b.val + h.val)
    rainGain := fieldValue v 39
    suspensionLimit := fieldValue v 40
    observationLife := fieldValue v 41
    revision }

/-- The host-writable fields of MAIN installed. -/
def Main.install (m : Main) (v : List Nat) : Main :=
  { m with
    sourceMask := flagsOf 6 (fieldValue v 1), warmPrime := fieldValue v 2, coldPrime := fieldValue v 3,
    drainTime := fieldValue v 4 }

/-- The host-writable fields of a basin installed. -/
def Basin.install (b : Basin) (v : List Nat) : Basin :=
  { b with
    capacity := fieldValue v 1, floor := fieldValue v 2, restoreMargin := fieldValue v 3,
    settleTime := fieldValue v 4 }

/-- A line's settings as a staged YARD record gives them; `k` is the line's place in the record. -/
def lineSettings (v : List Nat) (k : Nat) : Bool × FilterTime :=
  (fieldValue v (8 + k) == 1, FilterTime.ofCode (fieldValue v (23 + k)))

/-! ## FILL data (08 R157, 10 R175) -/

/-- What a FILL's data holds: whole pairs of field number and value, then nothing, a part of a pair, or
a pair whose field number the layout does not give (its width is then unknown, log 25). -/
inductive FillTail where
  | complete
  | partPair
  | unknownField (number : Nat)
deriving DecidableEq, Repr

/-- The field of a layout with a given number, with its place. -/
def findField (fields : List FieldSpec) (number : Nat) : Option (Nat × FieldSpec) :=
  (fields.zipIdx.find? fun x => x.1.number == number).map fun x => (x.2, x.1)

/-- The pairs of a FILL's data, each as the field's place, the field and the value; `fuel` is the
number of bytes, which is more than the number of pairs. -/
def parsePairs (fields : List FieldSpec) : Nat → List Byte → List (Nat × FieldSpec × Nat) × FillTail
  | _, [] => ([], .complete)
  | 0, _ :: _ => ([], .partPair)
  | fuel + 1, n :: rest =>
    match findField fields n.toNat with
    | none => if rest.isEmpty then ([], .partPair) else ([], .unknownField n.toNat)
    | some (k, f) =>
      if rest.length < f.width then ([], .partPair)
      else
        let (pairs, tail) := parsePairs fields fuel (rest.drop f.width)
        ((k, f, valueOf (rest.take f.width)) :: pairs, tail)

end Sys2Proof.Machine
end

