-- ==== Sys2Proof/Machine/Ops.lean ====
section
/-! DEFINITION. The operations that every block shares: replacing one record of a table, raising a notice,
asking for a dispatch attempt, writing the result triple and the read latch, and bringing the output pins
to the state they follow at the end of a step. -/

namespace Sys2Proof.Machine

/-! ## One record replaced -/

/-- Main `m` replaced by `f` of it. -/
def State.mapMain (s : State) (m : Fin 4) (f : Main → Main) : State :=
  { s with engine := { s.engine with mains := s.engine.mains.modify m f } }

/-- Context `c` set. -/
def State.setContext (s : State) (c : Fin 8) (x : Option Pass) : State :=
  { s with engine := { s.engine with contexts := s.engine.contexts.put c x } }

/-- The living part of pile `i` replaced by `f` of it. -/
def State.mapLiving (s : State) (i : Fin 48) (f : Living → Living) : State :=
  { s with watch := { s.watch with living := s.watch.living.modify i f } }

/-- Basin `b` replaced by `f` of it. -/
def State.mapBasin (s : State) (b : Fin 5) (f : Basin → Basin) : State :=
  { s with water := { s.water with basins := s.water.basins.modify b f } }

/-- The fresh supply replaced by `f` of it. -/
def State.mapFresh (s : State) (f : Fresh → Fresh) : State :=
  { s with water := { s.water with fresh := f s.water.fresh } }

/-- Input line `i` replaced by `f` of it. -/
def State.mapLine (s : State) (i : Line) (f : InputLine → InputLine) : State :=
  { s with field := { s.field with lines := s.field.lines.put i (f (s.field.lines.get i)) } }

/-- The queue replaced. -/
def State.setQueue (s : State) (q : List Order) : State := { s with queue := q }

/-- The work of `f` for each index of a list, in the list's order. -/
def State.forEach {α : Type} (s : State) (items : List α) (f : State → α → State) : State :=
  items.foldl f s

/-! ## Notices (09 R164) -/

/-- A raising: the pending flag is set and the subject written, whatever the enable shows. -/
def State.raise (s : State) (k : NoticeKind) (subject : Nat) : State :=
  { s with
    notices :=
      { s.notices with
        pending := s.notices.pending.put k.place true
        subjects := s.notices.subjects.put k.place subject } }

/-! ## Dispatch attempts asked for (06 R110) -/

/-- An attempt on main `m` is asked for. -/
def State.ask (s : State) (m : Fin 4) : State :=
  { s with engine := { s.engine with asked := s.engine.asked.put m true } }

/-- An attempt on every available main is asked for; one on a main that is not available when it is taken
does nothing. -/
def State.askAll (s : State) : State :=
  { s with engine := { s.engine with asked := Table.fill 4 true } }

/-- `askAll` if the condition holds. -/
def State.askAllIf (s : State) (b : Bool) : State := if b then s.askAll else s

/-! ## The record port (08 R150, R153) -/

/-- The last result triple. -/
def State.answer (s : State) (command : Byte) (result : Result) (index : Byte) : State :=
  { s with port := { s.port with command, result, index } }

/-- What SDO sends after the last parameter byte, and the transaction at an end: SEL is high. -/
def State.send (s : State) (bytes : List Byte) : State :=
  { s with
    port := { s.port with dataOut := bytes, transaction := .idle, selectLeft := selectUnits } }

/-- The read latch takes a reply. -/
def State.latchReply (s : State) (reply : List Byte) : State :=
  { s with port := { s.port with latch := reply } }

/-- The 4-byte status record (08 R152; 10, section 10.4). -/
def State.statusRecord (s : State) : List Byte :=
  [BitVec.ofNat 8 (128 * flagCode s.busy + 32 * s.control.mode.code + 8 * s.clock.state.code
      + 4 * flagCode s.notices.attention),
   s.port.command, s.port.result.code, s.port.index]

/-- `n` bytes of a STATUS clocked: what is left of the repeat in progress, then repeats of `record`, which is
the status record of this moment; with the bytes still to go out of the repeat that is then in progress
(08 R152). -/
def statusBytes (sample record : List Byte) (n : Nat) : List Byte × List Byte :=
  let more := n - sample.length
  (sample.take n ++ stream record more,
   if n ≤ sample.length then sample.drop n
   else if more % 4 = 0 then [] else record.drop (more % 4))

/-- SEL is high: a select that comes has its 1.5 s before it (08 R149). -/
def Port.risen (p : Port) : Port := { p with transaction := .idle, selectLeft := selectUnits }

/-- The deselect that ends the transaction, if one is open: a read that has acted writes the triple now
(08 R150). The deselect of an abandoned one came at a moment not shown, after it was abandoned (log 16). -/
def Port.deselected (p : Port) : Port :=
  match p.transaction with
  | .reading code (some (result, index)) _ _ => { p.risen with command := code, result, index }
  | .reading _ none _ _ => p.risen
  | .streaming _ _ => p.risen
  | .abandoned => { p with transaction := .idle }
  | .idle => p

/-- The transaction in progress ends, because another begins. -/
def State.deselect (s : State) : State := { s with port := s.port.deselected }

/-- The next `n` bytes of a read that has acted: the latch, wrapped, from where the bytes already sent left it,
or zero bytes where it was refused (08 R153). -/
def Port.readBytes (p : Port) (streams : Bool) (n : Nat) : List Byte :=
  if streams then
    (List.range n).map fun k => p.latch.getD ((p.dataOut.length + k) % p.latch.length) 0
  else List.replicate n 0

/-- A read that goes on sends the bytes that the host clocks before the next event; with the last of them
the transaction is at an end (log 16). -/
def Port.streamed (p : Port) (record : List Byte) : Port :=
  match p.transaction with
  | .streaming sample (n :: later) =>
    let q :=
      { p with
        dataOut := p.dataOut ++ (statusBytes sample record n).1
        transaction := .streaming (statusBytes sample record n).2 later }
    if later = [] then q.deselected else q
  | .reading code answer streams (n :: later) =>
    let q :=
      { p with
        dataOut := p.dataOut ++ p.readBytes streams n
        transaction := .reading code answer streams later }
    if later = [] then q.deselected else q
  | .streaming _ [] => p.deselected
  | .reading _ _ _ [] => p.deselected
  | .idle => p
  | .abandoned => p

/-- The port one unit of 50 ms on: what is left of a select's 1.5 s is one less, down to 0 (08 R149). -/
def Port.tick (p : Port) : Port := { p with selectLeft := p.selectLeft - 1 }

/-! ## Output pins (07 R138) -/

/-- The changes of output pins from one setting to another in the order of 07 R138: lines turned off
first, valves before pumps; then the source-select codes; then lines turned on, pumps before valves; then
ATTN (log 23). -/
def pinChanges (old new : Pins) : List OutputChange :=
  ((List.finRange 24).filter fun c => old.valves.get c && !new.valves.get c).map (.valve · false)
    ++ ((List.finRange 4).filter fun m => old.pumps.get m && !new.pumps.get m).map (.pump · false)
    ++ ((List.finRange 4).filter fun m => old.selects.get m != new.selects.get m).map
        (fun m => .select m (new.selects.get m))
    ++ ((List.finRange 4).filter fun m => !old.pumps.get m && new.pumps.get m).map (.pump · true)
    ++ ((List.finRange 24).filter fun c => !old.valves.get c && new.valves.get c).map (.valve · true)
    ++ (if old.attention = new.attention then [] else [.attention new.attention])

/-- The output pins take the levels they follow, and the changes are added to those of the step. Every
operation that moves a main or a live pass ends so: outputs change with the state they follow. -/
def State.follow (s : State) : State :=
  { s with
    field :=
      { s.field with
        pins := s.pinsFollowed
        made := s.field.made ++ pinChanges s.field.pins s.pinsFollowed } }

/-- The end of a step: the output pins follow, the changes of the step are recorded, and a read that goes
on streams. -/
def State.conclude (s : State) : State :=
  { s with
    port := s.port.streamed s.statusRecord
    field :=
      { s.field with
        pins := s.pinsFollowed
        log := s.field.made ++ pinChanges s.field.pins s.pinsFollowed
        made := [] } }

end Sys2Proof.Machine
end

