-- ==== Sys2Proof/Machine/OpsQueue.lean ====
section
/-! DEFINITION. The Order Queue's operations: leaving, joining with displacement, changing a part, offers,
ORDER and WITHDRAW on a queued order (05). -/

namespace Sys2Proof.Machine

/-- The most orders the queue holds (05 R89). -/
def queueSize : Nat := 16

/-- The order of a pile leaves the queue, and Pile Watch clears the pile's Carried (05 R99). -/
def State.dropOrder (s : State) (i : Fin 48) : State :=
  (s.setQueue (s.queue.filter fun o => o.pile != i)).mapLiving i fun l => { l with carried := false }

/-- The order of a pile replaced by `f` of it; no order moves (05 R90). -/
def State.mapOrder (s : State) (i : Fin 48) (f : Order → Order) : State :=
  s.setQueue (s.queue.map fun o => if o.pile = i then f o else o)

/-- An order's parts or name changed, with attempts asked for if its rank changes (05 R100). The pile of an
order never changes. -/
def State.updateOrder (s : State) (o : Order) (f : Order → Order) : State :=
  (s.mapOrder o.pile fun x => { f x with pile := x.pile }).askAllIf
    ((f o).rank != o.rank)

/-- The order that displacement removes for a joining order of rank `r`: among the orders with no operator
part and a rank below `r`, the youngest of the lowest rank (05 R93). -/
def State.displaceable (s : State) (r : Nat) : Option Order :=
  s.queue.foldl
    (fun best o =>
      if o.operator.isNone && decide (o.rank < r) then
        match best with
        | some b => if o.rank ≤ b.rank then some o else some b
        | none => some o
      else best)
    none

/-- A joining order at the tail: Pile Watch clears the pile's Unqueued, and attempts are asked for
(05 R45, R95, R100). -/
def State.appendOrder (s : State) (o : Order) : State :=
  ((s.setQueue (s.queue ++ [o])).mapLiving o.pile fun l => { l with unqueued := false }).askAll

/-- An order without waiting reason as it joins now (05 R89). -/
def State.newOrder (s : State) (i : Fin 48) (watch : Option Want) (operator : Option Priority)
    (named : Option (Fin 24)) : Order :=
  { pile := i, watch, operator, named, entered := s.clock.now, waiting := .none }

/-- An order for a pile that has none joins, displacing another if the queue is full; none if nothing can
be displaced (05 R92, R93). -/
def State.join (s : State) (o : Order) : Option State :=
  if s.queue.length < queueSize then some (s.appendOrder o)
  else
    match s.displaceable o.rank with
    | some d =>
      some (((s.dropOrder d.pile).mapLiving d.pile fun l => { l with unqueued := true }).appendOrder o)
    | none => none

/-- An offer from Pile Watch (05 R92, R93). -/
def State.offer (s : State) (i : Fin 48) (u : Urgency) : State :=
  match s.orderOf i, u.want with
  | some o, some w => s.updateOrder o fun x => { x with watch := some w }
  | some o, none =>
    if o.watch.isNone then s
    else if o.operator.isNone then s.dropOrder i
    else s.updateOrder o fun x => { x with watch := none }
  | none, none => s
  | none, some w =>
    match s.join (s.newOrder i (some w) none none) with
    | some t => t
    | none => s.mapLiving i fun l => { l with unqueued := true }

/-- The operator part of a merge: a HIGH is not lowered (05 R96). -/
def mergePriority (standing : Option Priority) (given : Priority) : Priority :=
  match standing with
  | some .high => .high
  | some .normal => given
  | none => given

/-- ORDER merging into a queued order (05 R96); attempts are asked for if the rank or the named cannon
changes (05 R100). -/
def State.mergeOrder (s : State) (o : Order) (priority : Priority) (named : Option (Fin 24)) : State :=
  (s.updateOrder o fun x => { x with operator := some (mergePriority x.operator priority), named }).askAllIf
    (o.named != named)

/-- WITHDRAW of the operator part, and of the named cannon with it (05 R97). -/
def State.withdrawOrder (s : State) (o : Order) : State :=
  if o.watch.isNone then s.dropOrder o.pile
  else s.updateOrder o fun x => { x with operator := none, named := none }

/-- Named cannons cleared on the orders that `bad` finds (05 R98). -/
def State.clearNames (s : State) (bad : Order → Bool) : State :=
  s.setQueue (s.queue.map fun o => if bad o then { o with named := none } else o)

/-- DRAIN empties the queue: every order leaves with its report (05 R99). -/
def State.emptyQueue (s : State) : State :=
  s.forEach (s.queue.map (·.pile)) State.dropOrder

end Sys2Proof.Machine
end

