-- ==== Sys2Proof/Machine/OpsWater.lean ====
section
/-! DEFINITION. The Water Table's operations: the low test, reservation, deduction, release, additions with
overflow, settling, and the choice of a source (04). -/

namespace Sys2Proof.Machine

/-! ## The low condition (04 R69) -/

/-- The low condition as the low test leaves it. -/
def Basin.lowAfter (b : Basin) : Bool :=
  if b.low then !decide (b.floor + b.restoreMargin ≤ b.level)
  else decide (b.level < b.floor) || decide (b.level < b.floor + b.reserved)

/-- The low test on a basin; entry raises WATER_LOW. -/
def State.lowTest (s : State) (b : Fin 5) : State :=
  let x := s.water.basins.get b
  let t := s.mapBasin b fun y => { y with low := y.lowAfter }
  if !x.low && x.lowAfter then t.raise .waterLow b.val else t

/-! ## Settling and additions (04 R79 to R82) -/

/-- The settle timer started afresh. A Settle time of 0 expires at once (04 R80). -/
def Basin.startSettle (b : Basin) : Basin :=
  if b.settleTime = 0 then { b with clarity := b.baseClarity, settle := .none }
  else { b with settle := some (60 * b.settleTime) }

/-- Turbid water has come in: Clarity becomes at least 2 and the settle timer starts (04 R79, R82). -/
def Basin.stir (b : Basin) : Basin := ({ b with clarity := max b.clarity 2 } : Basin).startSettle

/-- The part of an addition that a basin cannot hold (04 R81). -/
def Basin.excess (b : Basin) (v : Nat) : Nat := b.level + v - b.capacity

/-- An addition to a basin's Level, with overflow (04 R81). -/
def State.addLevel (s : State) (b : Fin 5) (v : Nat) : State :=
  let x := s.water.basins.get b
  if x.level + v ≤ x.capacity then s.mapBasin b fun y => { y with level := y.level + v }
  else
    (s.mapBasin b fun y =>
      { y with level := y.capacity, spilled := min 65535 (y.spilled + y.excess v) }).raise .spill b.val

/-! ## Reservation, deduction, release (04 R70 to R72) -/

/-- A source's Reserved changed. -/
def State.mapReserved (s : State) (x : Fin 6) (f : Nat → Nat) : State :=
  match asBasin x with
  | some b => s.mapBasin b fun y => { y with reserved := f y.reserved }
  | none => s.mapFresh fun y => { y with reserved := f y.reserved }

/-- Planned VU reserved at a source (04 R70). -/
def State.reserve (s : State) (x : Fin 6) (v : Nat) : State := s.mapReserved x (· + v)

/-- A deduction of an amount at a source (04 R71). -/
def State.deduct (s : State) (x : Fin 6) (d : Nat) : State :=
  match asBasin x with
  | some b => s.mapBasin b fun y => { y with level := y.level - d, reserved := y.reserved - d }
  | none => s.mapFresh fun y => { y with used := y.used + d, reserved := y.reserved - d }

/-- The source can serve passes: a READY basin, or the fresh supply not isolated (04 R78). -/
def Water.serves (w : Water) (x : Fin 6) : Bool := decide (w.state x = .ready)

/-- A release at a source; one of more than 0 at a source that can serve passes asks for attempts
(04 R72, R78). -/
def State.release (s : State) (x : Fin 6) (v : Nat) : State :=
  let t := s.mapReserved x (· - v)
  t.askAllIf (decide (0 < v) && t.water.serves x)

/-- The low test on the basin that `x` is, unless it is the basin whose passes a GAUGE is cutting
(04 R73 step 4, R83). -/
def State.lowTestUnless (s : State) (exempt : Option (Fin 5)) (x : Fin 6) : State :=
  match asBasin x with
  | some b => if exempt = some b then s else s.lowTest b
  | none => s

/-- The basin to which the runoff of a pass on pile `i` goes, and how much of it (04 R79). -/
def State.runoff (s : State) (i : Fin 48) (delivered : Nat) : Option (Fin 5 × Nat) :=
  match s.geometry.piles.get i with
  | none => none
  | some p =>
    let bed := s.geometry.beds.get p.bed
    let v := delivered * bed.returnPercent / 100
    match bed.collection with
    | some b => if 0 < v then some (b, v) else none
    | none => none

/-- Runoff into a basin: the addition, then the stir (04 R79). -/
def State.addRunoff (s : State) (b : Fin 5) (v : Nat) : State := (s.addLevel b v).mapBasin b Basin.stir

/-- The settlement of a pass end (04 R73). The report of its step 5 asks for attempts on every main, which
the end itself asks for in any case (06 R110). -/
def State.settle (s : State) (exempt : Option (Fin 5)) (p : Pass) (delivered : Nat) : State :=
  let drawn := delivered - p.deducted
  let s := s.deduct p.source drawn
  let s := s.release p.source (p.planned - delivered)
  match s.runoff p.pile delivered with
  | none => if 0 < drawn then s.lowTestUnless exempt p.source else s
  | some (b, v) =>
    let s := s.addRunoff b v
    let s := if 0 < drawn && asBasin p.source != some b then s.lowTestUnless exempt p.source else s
    s.lowTestUnless exempt (asSource b)

/-! ## Reports (04 R78) -/

/-- A change at a basin is reported if it leaves the basin READY with its State or its available volume
risen. -/
def State.reportRise (s : State) (b : Fin 5) (before : Basin) : State :=
  let x := s.water.basins.get b
  s.askAllIf
    (decide (x.state = .ready)
      && (decide (before.state ≠ .ready) || decide (before.available < x.available)))

/-- A basin that has become READY is reported. -/
def State.reportReady (s : State) (b : Fin 5) (before : Basin) : State :=
  s.askAllIf
    (decide ((s.water.basins.get b).state = .ready) && decide (before.state ≠ .ready))

/-! ## The choice of source (04 R75 to R77) -/

/-- Rain of class 2 or 3 is forecast from the current hour to the current hour plus 5 (04 R76). -/
def State.rainComing (s : State) : Bool :=
  (List.range 6).any fun k =>
    match s.horizon.slotFor (s.clock.hour + k) with
    | some x => decide (2 ≤ x.rainClass)
    | none => false

/-- A basin is admissible for a choice request (04 R75). -/
def State.basinAdmissible (s : State) (m : Fin 4) (clarityLimit volume : Nat) (b : Fin 5) : Bool :=
  let x := s.water.basins.get b
  (s.engine.mains.get m).sourceMask.get (asSource b) && decide (x.state = .ready)
    && decide (x.clarity ≤ clarityLimit) && decide (volume ≤ x.available)

/-- The fresh supply is admissible for a choice request (04 R75, R76). -/
def State.freshAdmissible (s : State) (m : Fin 4) (rank volume : Nat) : Bool :=
  (s.engine.mains.get m).sourceMask.get 5 && !s.water.fresh.isolated
    && decide (volume ≤ s.water.fresh.available) && !(decide (rank = 1) && s.rainComing)

/-- The admissible basin with the greatest available volume, the lowest index on a tie (04 R77 step 2). -/
def State.bestBasin (s : State) (m : Fin 4) (clarityLimit volume : Nat) : Option (Fin 5) :=
  (List.finRange 5).foldl
    (fun best b =>
      if s.basinAdmissible m clarityLimit volume b then
        match best with
        | some x =>
          if (s.water.basins.get x).available < (s.water.basins.get b).available then some b else some x
        | none => some b
      else best)
    none

/-- Main `m`'s open source, if it is an admissible basin (04 R77 step 1). -/
def State.openBasin (s : State) (m : Fin 4) (clarityLimit volume : Nat) : Option (Fin 5) :=
  match (s.engine.mains.get m).openSource with
  | some x =>
    match asBasin x with
    | some b => if s.basinAdmissible m clarityLimit volume b then some b else none
    | none => none
  | none => none

/-- The answer to a choice request (04 R77). -/
def State.chooseSource (s : State) (m : Fin 4) (clarityLimit rank volume : Nat) : Option (Fin 6) :=
  match s.openBasin m clarityLimit volume with
  | some b => some (asSource b)
  | none =>
    match s.bestBasin m clarityLimit volume with
    | some b => some (asSource b)
    | none => if s.freshAdmissible m rank volume then some 5 else none

end Sys2Proof.Machine
end

