-- ==== Sys2Proof/Machine/OpsWatch.lean ====
section
/-! DEFINITION. Pile Watch's operations: one pile's evaluation, at an assessment or without drying, the offer
rule, the MUST count, and the pass-end report with its sweep-due test (03). -/

namespace Sys2Proof.Machine

/-! ## Dryness and urgency -/

/-- The exposure of a bed under a basis; 3 where no sector is known (03 R51). -/
def exposureOf (bed : Bed) (sector : Option (Fin 16)) : Fin 4 :=
  match sector with
  | some k => bed.exposure.get k
  | none => 3

/-- Effective dryness (03 R51). -/
def drynessOf (m : Model) (bed : Bed) (w : WindBasis) (moisture : Nat) : Nat :=
  100 - moisture + (m.lift.get w.speedBand).get (exposureOf bed w.sector)

/-- Urgency from dryness and the grade's thresholds (03 R52 step 4). -/
def Grade.urgency (g : Grade) (dry : Nat) : Urgency :=
  if g.must ≤ dry then .must else if g.need ≤ dry then .need else if g.may ≤ dry then .may else .none

/-- Rain demotion: MAY becomes NONE under a forecast of rain class 2 or 3 (03 R52 step 5). -/
def demote (w : WindBasis) (u : Urgency) : Urgency :=
  if u = .may && decide (w.kind = .forecast) && decide (2 ≤ w.rainClass.getD 0) then .none else u

/-- The floors of an escalated and of a sweep-due pile (03 R54). -/
def floorUrgency (escalated sweepDue : Bool) (u : Urgency) : Urgency :=
  if escalated then .must
  else if sweepDue && (decide (u = .none) || decide (u = .may)) then .need
  else u

/-- Moisture after the drying and the rain of an assessment (03 R50). -/
def assessedMoisture (m : Model) (w : WindBasis) (rain : Bool) (moisture : Nat) : Nat :=
  let dried := moisture - (m.dry.get w.speedBand).get w.humidityClass
  if rain then min 100 (dried + m.rainGain) else dried

/-- The living part as steps 3 to 8 of an evaluation leave it. `counts` says that the deferral count of an
assessment is due: its Carried is set and it has a queued order (03 R51 to R55, R59; Unqueued by R45). -/
def Living.evaluated (l : Living) (m : Model) (bed : Bed) (g : Grade) (w : WindBasis)
    (counts : Bool) : Living :=
  let dry := drynessOf m bed w l.moisture
  let u := demote w (g.urgency dry)
  let deferral := if counts && decide (u = .need) && decide (l.deferral < 8) then l.deferral + 1
    else l.deferral
  let escalated := l.escalated || decide (g.deferralLimit ≤ deferral)
  let urgency := floorUrgency escalated l.sweepDue u
  { l with
    urgency, dryness := dry, basis := w.kind, deferral, escalated
    unqueued := l.unqueued && !decide (urgency = .none) }

/-! ## The MUST count and URGENT (03 R56, 09 R166) -/

/-- An entry into MUST is counted and reported; a departure is counted. -/
def State.countMust (s : State) (i : Fin 48) (before after : Urgency) : State :=
  if before ≠ .must ∧ after = .must then
    let n := s.watch.mustCount + 1
    let t := { s with watch := { s.watch with mustCount := n } }
    match s.notices.urgentMode with
    | .each => t.raise .urgent i.val
    | .count => if n = s.notices.urgentThreshold then t.raise .urgent i.val else t
  else if before = .must ∧ after ≠ .must then
    { s with watch := { s.watch with mustCount := s.watch.mustCount - 1 } }
  else s

/-! ## The offer rule (03 R57) -/

/-- The offer rule, but for the pass end of a retired pile, for which no offer is asked. -/
def State.offerRule (s : State) (i : Fin 48) : State :=
  if (s.watch.living.get i).engaged then s
  else
    match s.control.mode with
    | .active => s.offer i (s.watch.living.get i).urgency
    | .held => s.offer i (s.watch.living.get i).urgency
    | .draining => s
    | .drained => s

/-! ## Evaluations (03 R49 to R60) -/

/-- Steps 3 to 10 of an evaluation of pile `i` under a basis. `counts` is as in `Living.evaluated`;
`offers` is false only at the pass end of a retired pile. An absent pile is not evaluated. -/
def State.evaluate (s : State) (i : Fin 48) (w : WindBasis) (counts offers : Bool) : State :=
  match s.geometry.piles.get i with
  | none => s
  | some p =>
    let before := (s.watch.living.get i).urgency
    let s := s.mapLiving i fun l =>
      l.evaluated s.watch.model (s.geometry.beds.get p.bed) (s.watch.grades.get p.grade) w counts
    let s := if w.kind = .forecast then s else s.raise .forecastGap i.val
    let s := s.countMust i before (s.watch.living.get i).urgency
    if offers then s.offerRule i else s

/-- A re-evaluation without drying at the present time (03 R59). -/
def State.reevaluate (s : State) (i : Fin 48) (offers : Bool) : State :=
  s.evaluate i (s.windBasis s.clock.now) false offers

/-- Re-evaluations of the piles that `p` finds, in ascending index (03 R47, R60). -/
def State.reevaluateWhere (s : State) (p : Pile → Bool) : State :=
  s.forEach (List.finRange 48) fun t i =>
    match t.geometry.piles.get i with
    | some x => if p x then t.reevaluate i true else t
    | none => t

/-- One pile's assessment (03 R50 to R56): moisture, then the evaluation, then Carried. -/
def State.assessPile (s : State) (w : WindBasis) (rain : Bool) (i : Fin 48) : State :=
  if (s.geometry.piles.get i).isNone then s
  else
    let l := s.watch.living.get i
    let counts := l.carried && s.hasOrder i
    let s := s.mapLiving i fun l =>
      { l with moisture := assessedMoisture s.watch.model w rain l.moisture }
    let s := s.evaluate i w counts true
    s.mapLiving i fun l => { l with carried := s.hasOrder i }

/-- The assessment of time `t` (03 R49). -/
def State.assess (s : State) (t : Stamp) : State :=
  let w := s.windBasis t
  let rain := s.field.lines.rain.filtered
  s.forEach (List.finRange 48) fun u i => u.assessPile w rain i

/-! ## Pass end (03 R61 to R64) -/

/-- What the Pass Engine reports of a pass that ends (06 R127 step 6). -/
structure EndReport where
  pile : Fin 48
  cannon : Fin 24
  source : Fin 6
  ending : PassEnd
  baysDone : Nat
  baysPlanned : Nat
  delivered : Nat
  clarity : Nat

/-- The Last wetting stamp of a report (03 R61). -/
def State.wettingOf (s : State) (r : EndReport) : Wetting :=
  let w := s.windBasis s.clock.now
  { time := s.clock.now, ending := r.ending, cannon := r.cannon, source := r.source,
    baysDone := r.baysDone, baysPlanned := r.baysPlanned, delivered := r.delivered,
    basis := w.kind, sector := w.sector, gust := s.engine.gust, clarity := r.clarity }

/-- The Gain of the pass's cannon as it stands (03 R62). -/
def State.gainOf (s : State) (c : Fin 24) : Nat :=
  match s.geometry.cannons.get c with
  | some x => x.gain
  | none => 0

/-- The second step of a pass end where bays were done: the credit, the counters, the bed's Pass count and
the Bed mark (03 R62). -/
def State.creditPass (s : State) (r : EndReport) (bed : Fin 8) : State :=
  let n := s.watch.passCount.get bed + 1
  let s := s.mapLiving r.pile fun l =>
    { l with
      moisture := min 100 (l.moisture + s.gainOf r.cannon * r.baysDone / r.baysPlanned)
      deferral := 0, escalated := false, sweepDue := false, bedMark := n }
  { s with watch := { s.watch with passCount := s.watch.passCount.put bed n } }

/-- A pile is found due by the sweep-due test (03 R63). -/
def State.sweepFindsDue (s : State) (bed : Fin 8) (i : Fin 48) : Bool :=
  let limit := (s.geometry.beds.get bed).sweepLimit
  decide (limit ≠ 0)
    && decide (limit ≤ (s.watch.passCount.get bed - (s.watch.living.get i).bedMark).toNat)

/-- A pile found due is marked and raised, and offered (03 R63). -/
def State.markSweepDue (s : State) (i : Fin 48) : State :=
  (s.mapLiving i fun l =>
    { l with sweepDue := true, urgency := floorUrgency false true l.urgency }).offerRule i

/-- The sweep-due test on every other present pile of the bed, ascending (03 R63). -/
def State.sweepTest (s : State) (bed : Fin 8) (wetted : Fin 48) : State :=
  s.forEach (List.finRange 48) fun t i =>
    match t.geometry.piles.get i with
    | some p =>
      if p.bed = bed ∧ i ≠ wetted ∧ t.sweepFindsDue bed i = true
          ∧ (t.watch.living.get i).sweepDue = false
      then t.markSweepDue i
      else t
    | none => t

/-- The pass-end report at Pile Watch (03 R61 to R64). `offers` is false for the end that RETIRE of the pile
makes (01 R9). -/
def State.takeEndReport (s : State) (r : EndReport) (offers : Bool) : State :=
  match s.geometry.piles.get r.pile with
  | none => s
  | some p =>
    let s := s.mapLiving r.pile fun l => { l with wetting := some (s.wettingOf r), engaged := false }
    let s := if 0 < r.baysDone then (s.creditPass r p.bed).sweepTest p.bed r.pile else s
    s.reevaluate r.pile offers

end Sys2Proof.Machine
end

