-- ==== Sys2Proof/Machine/OpsPass.lean ====
section
/-! DEFINITION. The Pass Engine's operations: plans, the judging of orders, pass starts and resumes, priming
and running, suspension, faults, the end of a pass, trims, and dispatch attempts (06; 05 R101 to R103). -/

namespace Sys2Proof.Machine

/-! ## Plans (06 R113) -/

/-- The bay list of steps 1 and 2 of 06 R113: the steps over the pile's window, from the other end if
Reverse is set, without the bays of present exclusions. -/
def planBays (g : Geometry) (p : Pile) (skip : Nat) (reverse : Bool) : List Nat :=
  let step := skip + 1
  let count := (p.length + skip) / step
  ((List.range count).map fun j =>
      if reverse then p.start + p.length - 1 - j * step else p.start + j * step).filter
    fun b => !g.excluded p.bed b

/-- The bay list of a cannon on a pile. -/
def Cannon.bays (c : Cannon) (g : Geometry) (p : Pile) : List Nat := planBays g p c.skip c.reverse

/-- Bays planned for a cannon on a pile (06 R113 step 4). -/
def Cannon.baysPlanned (c : Cannon) (g : Geometry) (p : Pile) : Nat := (c.bays g p).length * c.repeats

/-- Planned VU of a cannon on a pile. -/
def Cannon.plannedVolume (c : Cannon) (g : Geometry) (p : Pile) : Nat :=
  planVolume (c.baysPlanned g p) c.dwell c.flow

/-! ## The judging of an order (05 R101, 06 R112) -/

/-- Cannon `k` is a usable cannon of the order, on whatever main (05 R101). -/
def State.usable (s : State) (o : Order) (p : Pile) (k : Fin 24) : Bool :=
  match s.geometry.cannons.get k with
  | some c =>
    c.enabled && c.coversPile p && (o.named.isNone || o.named == some k)
      && decide (0 < (c.bays s.geometry p).length)
  | none => false

/-- Cannon `k` is on main `m`. -/
def State.onMain (s : State) (m : Fin 4) (k : Fin 24) : Bool :=
  match s.geometry.cannons.get k with
  | some c => decide (c.main = m)
  | none => false

/-- The cannon the Pass Engine would take among the eligible ones: the most Bays planned, the lowest index
on a tie (06 R112). -/
def State.bestCannon (s : State) (p : Pile) (eligible : List (Fin 24)) : Option (Fin 24 × Cannon) :=
  eligible.foldl
    (fun best k =>
      match s.geometry.cannons.get k with
      | none => best
      | some c =>
        match best with
        | some (_, b) =>
          if b.baysPlanned s.geometry p < c.baysPlanned s.geometry p then some (k, c) else best
        | none => some (k, c))
    none

/-- How a request judges one order. -/
inductive Judgement where
  | noCannon
  | elsewhere
  | machine
  | wind
  | water
  | candidate (cannon : Fin 24) (source : Fin 6)
deriving DecidableEq, Repr

/-- The judgement of an order for a request from main `m`: the first test of 05 R101 that fails. -/
def State.judge (s : State) (m : Fin 4) (o : Order) : Judgement :=
  match s.geometry.piles.get o.pile with
  | none => .noCannon
  | some p =>
    let usable := (List.finRange 24).filter (s.usable o p)
    if usable.isEmpty then .noCannon
    else
      let here := usable.filter (s.onMain m)
      if here.isEmpty then .elsewhere
      else if s.machinePresent p.bed then .machine
      else
        match s.bestCannon p (here.filter fun k => !s.engine.blocked.get k) with
        | none => .wind
        | some (k, c) =>
          match s.chooseSource m (s.watch.grades.get p.grade).clarityLimit o.rank
              (c.plannedVolume s.geometry p) with
          | none => .water
          | some x => .candidate k x

/-- The Waiting reason a judgement records on an order that is not taken (05 R101). -/
def Judgement.reason (j : Judgement) (standing : WaitReason) : WaitReason :=
  match j with
  | .noCannon => .noCannon
  | .elsewhere => standing
  | .machine => .machine
  | .wind => .wind
  | .water => .water
  | .candidate _ _ => .main

/-- A candidate of a request: an order with its cannon and its chosen source. -/
structure Candidate where
  order : Order
  cannon : Fin 24
  source : Fin 6
deriving DecidableEq, Repr

/-- The candidates for main `m` in position order (05 R101). -/
def State.candidates (s : State) (m : Fin 4) : List Candidate :=
  s.queue.filterMap fun o =>
    match s.judge m o with
    | .candidate k x => some ⟨o, k, x⟩
    | _ => none

/-- The selection among candidates: the highest rank, then those on the main's open source, then the
oldest (05 R102). -/
def selectCandidate (cs : List Candidate) (openSource : Option (Fin 6)) : Option Candidate :=
  let top := cs.foldl (fun a c => max a c.order.rank) 0
  let best := cs.filter fun c => c.order.rank == top
  match best.find? fun c => some c.source == openSource with
  | some c => some c
  | none => best.head?

/-- The Waiting reasons of a request recorded, and UNSERVED raised for each order whose reason becomes
NO_CANNON, in position order (05 R101, R103). -/
def State.recordReasons (s : State) (m : Fin 4) : State :=
  (s.setQueue (s.queue.map fun o => { o with waiting := (s.judge m o).reason o.waiting })).forEach
    (s.queue.filter fun o => decide (s.judge m o = .noCannon) && decide (o.waiting ≠ .noCannon))
    fun t o => t.raise .unserved o.pile.val

/-- The order of a pile is taken: it leaves the queue and the pile becomes engaged (05 R102, 03 R44). -/
def State.takeOrder (s : State) (i : Fin 48) : State :=
  (s.dropOrder i).mapLiving i fun l => { l with engaged := true, carried := false, unqueued := false }

/-! ## Faults and mains (06 R125, R128) -/

/-- A main with no source open, no pass and a given State. -/
def Main.shut (m : Main) (st : MainState) : Main :=
  { m with state := st, openSource := none, context := none }

/-- All four mains are FAULTED. -/
def Engine.allFaulted (e : Engine) : Bool := e.mains.all fun _ m => decide (m.state = .faulted)

/-- A main enters FAULTED: MAIN_FAULT is raised, and ALL_FAULTED set if every main is then FAULTED
(06 R125, 09 R164). -/
def State.faultMain (s : State) (m : Fin 4) (cause : FaultCause) : State :=
  let t := (s.mapMain m fun x => { x.shut .faulted with fault := some cause }).raise .mainFault m.val
  { t with
    notices := { t.notices with allFaulted := t.notices.allFaulted || t.engine.allFaulted } }

/-- A main's open source is one a main may keep open (06 R128). -/
def State.openUsable (s : State) (m : Fin 4) : Bool :=
  match (s.engine.mains.get m).openSource with
  | some x => s.water.usable x
  | none => false

/-- The main of an ended pass (06 R128). -/
def State.mainAfterEnd (s : State) (p : Pass) (e : PassEnd) : State :=
  match e with
  | .noFlow cause => s.faultMain p.main cause
  | _ =>
    if p.state = .suspended then
      if (s.engine.mains.get p.main).state = .opened ∧ s.openUsable p.main = false then
        s.mapMain p.main fun x => x.shut .closed
      else s
    else if s.water.usable p.source then
      s.mapMain p.main fun x => { x with state := .opened, openSource := some p.source, context := none }
    else s.mapMain p.main fun x => x.shut .closed

/-! ## The end of a pass (06 R127) -/

/-- The pass-end report of a pass. -/
def Pass.report (p : Pass) (e : PassEnd) (delivered : Nat) : EndReport :=
  { pile := p.pile, cannon := p.cannon, source := p.source, ending := e, baysDone := p.baysDone,
    baysPlanned := p.baysPlanned, delivered, clarity := p.clarity }

/-- Delivered VU at an end: the whole plan for FULL (06 R119). -/
def Pass.finalDelivered (p : Pass) (e : PassEnd) : Nat :=
  match e with
  | .full => p.planned
  | _ => p.delivered

/-- PASS_ENDED raised and the YARD record's Last ended pass written (06 R127 step 7). -/
def State.recordEnd (s : State) (i : Fin 48) (e : PassEnd) : State :=
  let t := s.raise .passEnded i.val
  { t with control := { t.control with lastEnded := some (i, e) } }

/-- The end of the pass in context `c`, steps 1 to 7 of 06 R127, with the attempts of step 8 asked for. The
timers go with the context. A FREE context has no pass to end (06 R129). -/
def State.endPass (s : State) (exempt : Option (Fin 5)) (c : Fin 8) (e : PassEnd)
    (offers : Bool) : State :=
  match s.engine.contexts.get c with
  | none => s
  | some p =>
    let delivered := p.finalDelivered e
    (((((s.settle exempt p delivered).mainAfterEnd p e).setContext c none).takeEndReport
      (p.report e delivered) offers).recordEnd p.pile e).askAll.follow

/-! ## Starting, resuming, priming (06 R115 to R117, R123) -/

/-- Main `m`'s flow confirm line is active. -/
def State.flowActive (s : State) (m : Fin 4) : Bool := (s.field.lines.flow.get m).filtered

/-- The kind of a prime of main `m` on a source (06 R115 step 3, R123 step 2). -/
def State.primeKind (s : State) (m : Fin 4) (x : Fin 6) : PrimeKind :=
  if (s.engine.mains.get m).state = .opened ∧ (s.engine.mains.get m).openSource = some x then .warm
  else .cold

/-- The seconds of a prime (06 R106). -/
def Main.primeTime (m : Main) : PrimeKind → Nat
  | .warm => m.warmPrime
  | .cold => m.coldPrime

/-- Steps 3 to 5 of a start, and 2 to 4 of a resume: the prime kind, the source selected, the stray-flow
test, and the prime (06 R115, R116, R123). -/
def State.prime (s : State) (exempt : Option (Fin 5)) (c : Fin 8) (p : Pass) : State :=
  let kind := s.primeKind p.main p.source
  let seconds := (s.engine.mains.get p.main).primeTime kind
  let s := (s.mapMain p.main fun x => { x with openSource := some p.source }).setContext c
    (some { p with prime := kind })
  if s.flowActive p.main then s.follow.endPass exempt c (.noFlow .stray) true
  else
    ((s.mapMain p.main fun x => { x with state := .priming, context := some c }).setContext c
      (some { p with prime := kind, state := .priming, primeTimer := some seconds })).follow

/-- The context of a new pass as step 1 of 06 R115 fills it, with the clarity that step 2 returns. -/
def newPass (g : Geometry) (pile : Fin 48) (p : Pile) (cannon : Fin 24) (k : Cannon) (m : Fin 4)
    (source : Fin 6) (clarity : Nat) : Pass :=
  { state := .priming, pile, cannon, main := m, source, clarity, bays := k.bays g p,
    repeats := k.repeats, alternate := k.alternate, dwell := k.dwell, flow := k.flow,
    cursorRepeat := 0, rest := k.bays g p, cursorSeconds := 0, baysPlanned := k.baysPlanned g p,
    baysDone := 0, planned := k.plannedVolume g p, deducted := 0, runningSeconds := 0,
    wind := false, machine := false, since := none, suspension := 0, prime := .cold,
    primeTimer := none, dwellTimer := none, limitTimer := none }

/-- A pass started on main `m` in context `c` for a taken candidate (06 R115). -/
def State.startPass (s : State) (exempt : Option (Fin 5)) (c : Fin 8) (m : Fin 4)
    (x : Candidate) : State :=
  match s.geometry.piles.get x.order.pile, s.geometry.cannons.get x.cannon with
  | some p, some k =>
    let q := newPass s.geometry x.order.pile p x.cannon k m x.source (s.water.clarity x.source)
    (s.reserve x.source q.planned).prime exempt c q
  | _, _ => s

/-- The resumable pass in context `c` resumed (06 R123). -/
def State.resumePass (s : State) (exempt : Option (Fin 5)) (c : Fin 8) (p : Pass) : State :=
  s.prime exempt c { p with limitTimer := none, since := none }

/-! ## Running (06 R117, R118) -/

/-- The cursor after a bay has left it: the next bay of the present walk, else the first of the next
repeat's, with 0 seconds (06 R114). `rest` is what remains of the present walk. -/
def Pass.moveCursor (p : Pass) (rest : List Nat) : Pass :=
  if rest.isEmpty && decide (p.cursorRepeat + 1 < p.repeats) then
    { p with cursorRepeat := p.cursorRepeat + 1, rest := p.walk (p.cursorRepeat + 1), cursorSeconds := 0 }
  else { p with rest, cursorSeconds := 0 }

/-- The bay in progress is finished: it is counted, and the cursor moves on, or the pass ends FULL
(06 R118). -/
def State.finishBay (s : State) (exempt : Option (Fin 5)) (c : Fin 8) (p : Pass) : State :=
  let q := ({ p with baysDone := p.baysDone + 1 } : Pass).moveCursor p.rest.tail
  if q.rest.isEmpty then (s.setContext c (some q)).endPass exempt c .full true
  else s.setContext c (some { q with dwellTimer := some q.dwell })

/-- The flow confirm line of main `m` has become active: a PRIMING main runs (06 R117, R120). -/
def State.confirmFlow (s : State) (m : Fin 4) : State :=
  let x := s.engine.mains.get m
  if x.state = .priming then
    match x.context with
    | none => s
    | some c =>
      match s.engine.contexts.get c with
      | none => s
      | some p =>
        let s := s.mapMain m fun y => { y with state := .running }
        let q := { p with state := .running, primeTimer := none }
        let left := p.dwell - p.cursorSeconds
        if left = 0 then (s.setContext c (some q)).follow.finishBay none c q
        else (s.setContext c (some { q with dwellTimer := some left })).follow
  else s

/-- The flow confirm line of main `m` has become inactive: a RUNNING main has lost its flow (06 R120). -/
def State.loseFlow (s : State) (m : Fin 4) : State :=
  let x := s.engine.mains.get m
  if x.state = .running then
    match x.context with
    | none => s
    | some c => s.endPass none c (.noFlow .flowLost) true
  else s

/-! ## Suspension (06 R121, R122) -/

/-- The pile's bed, for a pass. -/
def State.bedOf (s : State) (i : Fin 48) : Option (Fin 8) := (s.geometry.piles.get i).map (·.bed)

/-- A machine is present on the pass's bed. -/
def State.machineOn (s : State) (p : Pass) : Bool :=
  match s.bedOf p.pile with
  | some b => s.machinePresent b
  | none => false

/-- A PRIMING or RUNNING pass as its suspension leaves it (06 R121, R124). -/
def State.suspended (s : State) (p : Pass) : Pass :=
  { p with
    state := .suspended, wind := s.engine.blocked.get p.cannon, machine := s.machineOn p,
    since := some s.clock.now, suspension := s.engine.suspensions, deducted := p.delivered,
    primeTimer := none, dwellTimer := none, limitTimer := some (60 * s.watch.model.suspensionLimit) }

/-- A suspension counted (log 21). -/
def State.countSuspension (s : State) : State :=
  { s with engine := { s.engine with suspensions := s.engine.suspensions + 1 } }

/-- A PRIMING or RUNNING pass is suspended (06 R121). -/
def State.suspendPass (s : State) (c : Fin 8) (p : Pass) : State :=
  let drawn := p.delivered - p.deducted
  let t := s.mapMain p.main fun x =>
    { x with state := .opened, openSource := some p.source, context := none }
  let t := (t.setContext c (some (s.suspended p))).countSuspension.deduct p.source drawn
  ((if 0 < drawn then t.lowTestUnless none p.source else t).ask p.main).follow

/-- The WIND reason of a SUSPENDED pass follows the cannon's flag; a pass that becomes resumable asks for an
attempt on its main (06 R122). -/
def State.setWind (s : State) (c : Fin 8) (p : Pass) (held : Bool) : State :=
  let q := { p with wind := held }
  let s := s.setContext c (some q)
  if p.wind && q.resumable then s.ask p.main else s

/-- The MACHINE reason of a SUSPENDED pass follows its bed's machine line (06 R122). -/
def State.setMachine (s : State) (c : Fin 8) (p : Pass) (held : Bool) : State :=
  let q := { p with machine := held }
  let s := s.setContext c (some q)
  if p.machine && q.resumable then s.ask p.main else s

/-! ## Trims (06 R130) -/

/-- The plan of a pass without the bays of a window, and its accounts recomputed. -/
def Pass.trimmed (p : Pass) (start length : Nat) : Pass :=
  let keep := fun b => !inWindow start length b
  let rest := p.rest.filter keep
  let bayEnds := match p.rest with
    | b :: _ => inWindow start length b
    | [] => false
  let q : Pass := { p with bays := p.bays.filter keep }
  let q : Pass :=
    if rest.isEmpty then
      if q.bays.isEmpty then { q with rest := [], cursorSeconds := 0 } else q.moveCursor []
    else { q with rest, cursorSeconds := if bayEnds then 0 else p.cursorSeconds }
  let left := if q.rest.isEmpty then 0 else q.remaining
  { q with
    baysPlanned := p.baysDone + left
    planned := max (planVolume (p.baysDone + left) p.dwell p.flow) p.delivered
    dwellTimer :=
      if p.state = .running ∧ bayEnds = true then (if q.rest.isEmpty then none else some p.dwell)
      else p.dwellTimer }

/-- The remaining bays of a pass include a bay of the window. -/
def Pass.meetsWindow (p : Pass) (start length : Nat) : Bool :=
  p.rest.any (inWindow start length)
    || (decide (p.cursorRepeat + 1 < p.repeats) && p.bays.any (inWindow start length))

end Sys2Proof.Machine
end

