-- ==== Sys2Proof/Machine/OpsDispatch.lean ====
section
/-! DEFINITION. Dispatch attempts (06 R110, R111), the attempts made at the end of an event, and the events
that end or change several passes in ascending context order (06 R130 to R132). -/

namespace Sys2Proof.Machine

/-! ## One attempt (06 R111) -/

/-- The resumable pass of main `m` whose suspension the Pass Engine took first (06 R111 step 1). -/
def State.firstResumable (s : State) (m : Fin 4) : Option (Fin 8 × Pass) :=
  (List.finRange 8).foldl
    (fun best c =>
      match s.engine.contexts.get c with
      | none => best
      | some p =>
        if p.resumable && decide (p.main = m) then
          match best with
          | some (_, q) => if p.suspension < q.suspension then some (c, p) else best
          | none => some (c, p)
        else best)
    none

/-- The lowest FREE context (06 R111 step 2). -/
def State.freeContext (s : State) : Option (Fin 8) :=
  (List.finRange 8).find? fun c => (s.engine.contexts.get c).isNone

/-- The request to the Order Queue and the start (06 R111 steps 3 and 4). -/
def State.requestAndStart (s : State) (exempt : Option (Fin 5)) (m : Fin 4) (c : Fin 8) : State :=
  match selectCandidate (s.candidates m) (s.engine.mains.get m).openSource with
  | none => s.recordReasons m
  | some x => ((s.recordReasons m).takeOrder x.order.pile).startPass exempt c m x

/-- A dispatch attempt on main `m`; it does nothing where `m` is not available. -/
def State.attempt (s : State) (exempt : Option (Fin 5)) (m : Fin 4) : State :=
  if s.available m then
    match s.firstResumable m with
    | some (c, p) => s.resumePass exempt c p
    | none =>
      match s.freeContext with
      | none => s
      | some c => s.requestAndStart exempt m c
  else s

/-! ## The attempts of an event (06 R110; log 6) -/

/-- The main whose attempt comes next: the head of `turns` if it is asked for, else the lowest that is. -/
def Engine.nextAsked (e : Engine) : Option (Fin 4) :=
  match e.turns.find? (fun _ => true) with
  | some m => if e.asked.get m then some m else (List.finRange 4).find? e.asked.get
  | none => (List.finRange 4).find? e.asked.get

/-- The mark of main `m` cleared and one turn consumed. -/
def State.takeTurn (s : State) (m : Fin 4) : State :=
  { s with
    engine := { s.engine with asked := s.engine.asked.put m false, turns := s.engine.turns.tail } }

/-- The attempts asked for, one after another, until none is. `fuel` bounds their number. -/
def State.runAttemptsFor (exempt : Option (Fin 5)) : Nat → State → State
  | 0, s => s
  | fuel + 1, s =>
    match s.engine.nextAsked with
    | none => s
    | some m => ((s.takeTurn m).attempt exempt m).runAttemptsFor exempt fuel

/-- How many attempts one event can call for: 4 asked for, and 5 more for each main that a stray flow may
take out of service. -/
def attemptBound : Nat := 24

/-- The attempts of an event, made when it is complete. -/
def State.runAttempts (s : State) (exempt : Option (Fin 5)) : State :=
  State.runAttemptsFor exempt attemptBound s

/-! ## Ends of several passes (06 R127, R131, R132) -/

/-- The contexts in order. -/
def allContexts : List (Fin 8) := List.finRange 8

/-- Every live pass that `p` finds ends with `e`, in ascending context order, each with the attempts of its
own end. -/
def State.endWhere (s : State) (exempt : Option (Fin 5)) (p : Pass → Bool) (e : PassEnd) : State :=
  s.forEach allContexts fun t c =>
    match t.engine.contexts.get c with
    | some q => if p q then (t.endPass exempt c e true).runAttempts exempt else t
    | none => t

/-- Every live pass that draws from source `x`. -/
def Pass.draws (x : Fin 6) (p : Pass) : Bool := decide (p.source = x)

/-- The Pass Engine's part of a change to HELD (06 R132). -/
def State.holdPasses (s : State) : State :=
  (s.endWhere none (fun _ => true) (.cutShort .hold)).forEach (List.finRange 4) fun t m =>
    if (t.engine.mains.get m).state = .faulted then t else t.mapMain m fun x => x.shut .closed

/-- The Pass Engine's part of a change to DRAINING (06 R132). -/
def State.drainPasses (s : State) : State :=
  (s.endWhere none (fun _ => true) (.cutShort .drain)).forEach (List.finRange 4) fun t m =>
    t.mapMain m fun x => { x.shut .draining with fault := none }

/-- A source closed on every OPEN main that holds it (06 R131). -/
def State.closeSource (s : State) (x : Fin 6) : State :=
  s.forEach (List.finRange 4) fun t m =>
    if (t.engine.mains.get m).state = .opened ∧ (t.engine.mains.get m).openSource = some x then
      (t.mapMain m fun y => y.shut .closed).follow
    else t

/-- One pass trimmed for a new exclusion, with its end if no bay is left (06 R130). -/
def State.trimPass (s : State) (c : Fin 8) (p : Pass) (start length : Nat) : State :=
  let q := p.trimmed start length
  let s := (s.setContext c (some q)).release p.source (p.planned - q.planned)
  if q.rest.isEmpty then (s.endPass none c (.cutShort .excluded) true).runAttempts none else s

/-- The trims of the live passes on a bed for a new exclusion's window (06 R130). -/
def State.trimPasses (s : State) (bed : Fin 8) (start length : Nat) : State :=
  s.forEach allContexts fun t c =>
    match t.engine.contexts.get c with
    | some p =>
      if t.bedOf p.pile = some bed ∧ p.meetsWindow start length = true then t.trimPass c p start length
      else t
    | none => t

end Sys2Proof.Machine
end

