-- ==== Sys2Proof/Machine/OpsWeather.lean ====
section
/-! DEFINITION. The drift re-evaluation (02 R39 to R41), the delivery of filtered line changes (07 R134,
R135, R141), the alignment of the horizon (02 R31, R32) and the day rollover at the Water Table
(04 R88). -/

namespace Sys2Proof.Machine

/-! ## Drift (02 R39 to R41; 06 R121, R122) -/

/-- Every present cannon's flag judged against the figure and line state last handed; no flag is held for
an absent cannon. -/
def State.judgedFlags (s : State) : Table 24 Bool :=
  Table.tab fun k =>
    match s.geometry.cannons.get k with
    | some c => driftFlag (s.engine.blocked.get k) c.driftLimit s.engine.gustLine s.engine.gust
    | none => false

/-- What the flag of the pass's cannon calls for at the pass in context `c`, after a judging
(06 R121, R122). -/
def State.followFlag (s : State) (c : Fin 8) (p : Pass) : State :=
  match p.state with
  | .suspended => s.setWind c p (s.engine.blocked.get p.cannon)
  | .priming => if s.engine.blocked.get p.cannon then s.suspendPass c p else s
  | .running => if s.engine.blocked.get p.cannon then s.suspendPass c p else s

/-- The consequences of a judging on the live passes that `concerned` finds, in ascending context
order. -/
def State.followFlags (s : State) (concerned : Pass → Bool) : State :=
  s.forEach allContexts fun t c =>
    match t.engine.contexts.get c with
    | some p => if concerned p then t.followFlag c p else t
    | none => t

/-- The flags replaced; attempts on every main are asked for if a flag clears (06 R110). -/
def State.setFlags (s : State) (flags : Table 24 Bool) : State :=
  ({ s with engine := { s.engine with blocked := flags } }).askAllIf
    (s.engine.blocked.any fun k b => b && !flags.get k)

/-- The gust figure formed and handed to the Pass Engine with the GUST line's state (02 R39). -/
def State.handGust (s : State) : State :=
  let figure := s.gustFigure
  let t := { s with
    engine := { s.engine with gust := figure, gustLine := s.field.lines.gust.filtered } }
  if figure.isNone then t.raise .windBlind 0 else t

/-- A drift re-evaluation (02 R41): all flags are judged before any consequence. -/
def State.driftReevaluate (s : State) : State :=
  let t := s.handGust
  (t.setFlags t.judgedFlags).followFlags fun _ => true

/-- The flag of one cannon judged at its COMMIT with the figure and line state last handed, and its
consequences (01 R12, 02 R40). A new cannon's flag is set where the judging leaves it unchanged. -/
def State.judgeCannon (s : State) (k : Fin 24) (c : Cannon) (isNew : Bool) : State :=
  let flag := driftFlag (isNew || s.engine.blocked.get k) c.driftLimit s.engine.gustLine s.engine.gust
  (s.setFlags (s.engine.blocked.put k flag)).followFlags fun p => decide (p.cannon = k)

/-! ## Filtered line changes (07 R135) -/

/-- Bed `b`'s machine line has changed; Machine state follows the filtered line (log 20). -/
def State.machineChanged (s : State) (b : Fin 8) (present : Bool) : State :=
  (s.forEach allContexts fun t c =>
    match t.engine.contexts.get c with
    | none => t
    | some p =>
      if t.bedOf p.pile = some b then
        match p.state with
        | .suspended => t.setMachine c p present
        | .priming => if present then t.suspendPass c p else t
        | .running => if present then t.suspendPass c p else t
      else t).askAllIf !present

/-- The yard mode changed. -/
def State.setMode (s : State) (m : YardMode) : State := { s with control := { s.control with mode := m } }

/-- The change from ACTIVE to HELD, by HOLD or by the frost line (07 R140, R141). -/
def State.holdYard (s : State) : State := (s.setMode .held).holdPasses

/-- FROST has become ACTIVE (07 R141). -/
def State.frostHold (s : State) : State :=
  if s.control.mode = .active then s.holdYard.raise .mode 0 else s

/-- A filtered change of a line delivered to its owners, with the attempts it calls for (07 R135). -/
def State.deliver (s : State) (i : Line) (active : Bool) : State :=
  let s := s.mapLine i fun l => { l with filtered := active }
  let s :=
    match i with
    | .machine b => s.machineChanged b active
    | .gust => s.driftReevaluate
    | .rain => s
    | .frost => if active then s.frostHold else s
    | .flow m => if active then s.confirmFlow m else s.loseFlow m
  s.runAttempts none

/-- The state a line reads is taken as its filtered state, and delivered if it differs (07 R134, R137). -/
def State.takeLine (s : State) (i : Line) : State :=
  let l := s.field.lines.get i
  if l.reads = l.filtered then s else s.deliver i l.reads

/-- The end of line `i`'s filter time: its qualifying timer stops and the state it reads is taken
(07 R134). -/
def State.qualified (s : State) (i : Line) : State :=
  (s.mapLine i fun x => { x with qualify := none }).takeLine i

/-- A qualifying timer that has run out is taken before a further raw change of its line: a change that lasts
exactly the filter time is delivered (07 R134; log 3). -/
def State.takeQualified (s : State) (i : Line) : State :=
  if (s.field.lines.get i).qualify = some 0 then s.qualified i else s

/-- A raw change at a pin (07 R134). While a re-take timer runs it starts no qualifying timer (07 R137). -/
def State.rawChange (s : State) (i : Line) (high : Bool) : State :=
  if (s.field.lines.get i).raw = high then s
  else
    let s := s.takeQualified i
    let l := s.field.lines.get i
    let s := s.mapLine i fun x => { x with raw := high }
    if l.retake.isSome then s
    else if (high == l.activeHigh) = l.filtered then s.mapLine i fun x => { x with qualify := none }
    else if l.filter = .zero then s.takeLine i
    else s.mapLine i fun x => { x with qualify := some l.filter.units }

/-- A line whose settings a YARD COMMIT changes (07 R137). With a filter time of 0 the re-take is made at
once. -/
def State.changeSettings (s : State) (i : Line) (activeHigh : Bool) (filter : FilterTime) : State :=
  let l := s.field.lines.get i
  if l.activeHigh = activeHigh ∧ l.filter = filter then s
  else
    let s := s.mapLine i fun x =>
      { x with
        activeHigh, filter, qualify := none
        retake := if filter = .zero then none else some filter.units }
    if filter = .zero then s.takeLine i else s

/-! ## Clock boundaries -/

/-- The slots outside the horizon of the clock's current hour become absent (02 R31, R32). -/
def State.alignHorizon (s : State) : State :=
  { s with
    horizon :=
      { s.horizon with
        slots := Table.tab fun k =>
          match s.horizon.slots.get k with
          | some x => if s.clock.hour ≤ x.hour ∧ x.hour ≤ s.clock.hour + 35 then some x else none
          | none => none } }

/-- The fresh supply at a day rollover (04 R88 steps 1 and 2). -/
def Fresh.rollover (f : Fresh) : Fresh :=
  { f with used := 0, today := max f.allowance f.reserved }

/-- The day rollover at the Water Table (04 R88). -/
def State.rolloverDay (s : State) : State :=
  let f := s.water.fresh
  (s.mapFresh Fresh.rollover).askAllIf (decide (f.available < f.rollover.available) && !f.isolated)

/-- The effect of an hour rollover (02 R31). -/
def State.rolloverHour (s : State) : State := s.alignHorizon.driftReevaluate

end Sys2Proof.Machine
end

