-- ==== Sys2Proof/Machine/OpsCommand.lean ====
section
/-! DEFINITION. The frame of every step: how a host command, a read command and an event are taken whole, with
BUSY, the result triple, the reply and the dispatch attempts (08 R148 to R153), and the reset
(09 R171). -/

namespace Sys2Proof.Machine

/-- What the triple takes at the end of a command: a result and an index, or nothing, where the command
leaves the triple to a write end or to a reset (08 R150, R162). -/
abbrev Answer := Option (Result × Byte)

/-- The triple written with an answer. -/
def State.answerWith (s : State) (code : Byte) (a : Answer) : State :=
  match a with
  | some (r, i) => s.answer code r i
  | none => s

/-- The end of a host command whose own work has left `s`: its attempts, the end of the transaction (and of
one before it that was still open), the triple, and the output pins (08 R148, R150). -/
def State.commandEnd (s : State) (code : Byte) (a : Answer) : State :=
  (((s.runAttempts none).deselect.send []).answerWith code a).conclude

/-- A host command refused BUSY: no effect but the triple (08 R151). -/
def State.refuseBusy (s : State) (code index : Byte) : State :=
  ((s.send []).answer code .busy index).conclude

/-- A host command that acts at deselect. An unpowered or reset part takes none (logs 11, 12); a BUSY port
refuses it (08 R151); else its work is taken whole, and then the triple is written (08 R148, R150). -/
def State.hostCommand (s : State) (code busyIndex : Byte) (act : State → State × Answer) : State :=
  if s.live then
    if s.busy then s.refuseBusy code busyIndex else (act s).1.commandEnd code (act s).2
  else s.conclude

/-- What a read command answers: a reply for the read latch or none, and the result with its index. -/
structure Reading where
  reply : Option (List Byte)
  result : Result
  index : Byte

/-- A select that fell `held` units before this moment, but not before SEL can last have been high, has the rest
of its 1.5 s left (08 R149; log 16). -/
def Port.heldFor (p : Port) (held : Nat) : Port :=
  { p with selectLeft := max p.selectLeft (selectUnits - held) }

/-- A select that fell `held` units before this moment has lasted more than 1.5 s (08 R149). It has lasted no
longer than since SEL was last high, so none has before that count is out (log 16). -/
def Port.outlasted (p : Port) (held : Nat) : Bool := decide (p.selectLeft = 0) && decide (selectUnits < held)

/-- A transaction abandoned: the triple shows the timeout, streaming stops, and the latch and what has been
sent stay (08 R149). SEL rises after this moment. -/
def State.abandon (s : State) (code : Byte) : State :=
  { s with
    port :=
      { s.port with
        command := code, result := .timeout, index := 0
        transaction := .abandoned, selectLeft := selectUnits } }

/-- The command code in the timeout's triple of a read that never came to act. NOTICES and IDENT act as their
command byte completes (08 R148), so at the timeout it was not complete, and the triple shows none (08 R149). -/
def lateCode (code : Byte) : Byte := if code = Code.notices ∨ code = Code.ident then Code.none else code

/-- A read comes to the moment at which it acts, and the read before it has ended. One whose select has lasted
more than 1.5 s was abandoned before that moment, BUSY or not: it has no effect and sends nothing (08 R149,
R151). -/
def State.readSelect (s : State) (code : Byte) (held : Nat) (act : State → State) : State :=
  let t := s.deselect
  if t.port.outlasted held then (t.send []).abandon (lateCode code) else act t

/-- A transaction that goes on, with no byte sent yet. -/
def State.openPort (s : State) (held : Nat) (transaction : TransactionState) : State :=
  { s with port := { s.port.heldFor held with dataOut := [], transaction } }

/-- A read that has acted, with what its deselect will write. -/
def State.startRead (s : State) (code : Byte) (a : Answer) (streams : Bool)
    (clocked : Clocking) : State :=
  s.openPort clocked.held (.reading code a streams clocked.counts)

/-- A read command (LOOK, LOCATE, NOTICES, IDENT) acts, unless it was abandoned before: a formed reply goes into the read latch and streams with
wrap; a refused command leaves the latch and streams zero bytes (08 R153). The triple is written at deselect,
but at once where the read is refused BUSY (08 R150, R151). -/
def State.openRead (s : State) (code busyIndex : Byte) (clocked : Clocking)
    (form : State → Reading) : State :=
  s.readSelect code clocked.held fun t =>
    if s.busy then (t.answer code .busy busyIndex).startRead code none false clocked
    else
      match (form s).reply with
      | some reply =>
        (t.latchReply reply).startRead code (some ((form s).result, (form s).index)) true clocked
      | none => t.startRead code (some ((form s).result, (form s).index)) false clocked

/-- The command code of the read that goes on, if one does. -/
def Port.readCode (p : Port) : Option Byte :=
  match p.transaction with
  | .reading code _ _ _ => some code
  | .streaming _ _ => some Code.status
  | .idle => none
  | .abandoned => none

/-- The command code of the read whose select has lasted 1.5 s, if one has (08 R149). -/
def Port.timedOut (p : Port) : Option Byte := if p.selectLeft = 0 then p.readCode else none

/-- A step whose work on the port is `act`; an unpowered or reset part does none (logs 11, 12). -/
def State.portStep (s : State) (act : State → State) : State :=
  if s.live then (act s).conclude else s.conclude

/-- The end of an event whose own work has left `s`: its attempts and the output pins. -/
def State.eventEnd (s : State) : State := (s.runAttempts none).conclude

/-- An event of a timer, a line or the clock, taken whole with its attempts. -/
def State.event (s : State) (act : State → State) : State :=
  if s.live then (act s).eventEnd else s.conclude

/-- A byte parameter as an index of one of `n` records, if it is in range (10 R174). -/
def index? (n : Nat) (b : Byte) : Option (Fin n) :=
  if h : b.toNat < n then some ⟨b.toNat, h⟩ else none

/-! ## Resets (09 R171, R172) -/

/-- A state whose outputs go to their reset values from the levels the pins had. -/
def State.resetTo (s t : State) : State :=
  { t with field := { t.field with log := pinChanges s.field.pins t.field.pins } }

/-- The initialisation as a reset begins it: 50 ms, where the supply is present and RSTN is high. -/
def initialising (powered resetLow : Bool) : Option Nat :=
  if powered && !resetLow then some 1 else none

/-- The part reset whole by the supply or by RSTN; the clock and the horizon go too (02 R22, R28, R34). -/
def State.resetWhole (s : State) (powered resetLow : Bool) : State :=
  s.resetTo (State.afterReset s.pending Clock.reset Horizon.reset s.field.lines s.store
    { powered, resetLow, initialising := initialising powered resetLow, phase := 0 } s.engine.turns)

/-- The part reset by the RESET command, which keeps the clock and the horizon (09 R172). -/
def State.resetCommand (s : State) : State :=
  s.resetTo (State.afterReset s.pending s.clock s.horizon s.field.lines s.store
    { s.startup with initialising := some 1 } s.engine.turns)

end Sys2Proof.Machine
end

