-- ==== Sys2Proof/Machine/FieldEvents.lean ====
section
/-! DEFINITION. The events of the input lines: raw changes, qualifying timers and re-take timers (07 R134,
R137). -/

namespace Sys2Proof.Machine

/-- A change of the level at a pin. A part without its supply or held in reset takes no event, but the pin
has its new level (logs 11, 12). -/
def execRawLineChange (line : Line) (high : Bool) (s : State) : Host.Outcome State Fault Refusal :=
  .next
    (if s.live then (s.rawChange line high).eventEnd
    else (s.mapLine line fun x => { x with raw := high }).conclude)

/-- The qualifying timer's expiry: the filtered state takes the new value. None happens where the timer has
not run out (log 3). -/
def execQualifyingTimerExpiry (line : Line) (s : State) : Host.Outcome State Fault Refusal :=
  .next (s.event fun t =>
    if (t.field.lines.get line).qualify = some 0 then t.qualified line else t)

/-- The re-take timer's expiry: the raw level is read under the present active level. None happens where the
timer has not run out (log 3). -/
def execReTakeTimerExpiry (line : Line) (s : State) : Host.Outcome State Fault Refusal :=
  .next (s.event fun t =>
    if (t.field.lines.get line).retake = some 0 then
      (t.mapLine line fun x => { x with retake := none }).takeLine line
    else t)

end Sys2Proof.Machine
end

