-- ==== Sys2Proof/Machine/Modes.lean ====
section
/-! DEFINITION. CLEAR (06 R126), HOLD, DRAIN and RESUME (07 R140, R142, R144, R145) and the drain timers
(07 R143). -/

namespace Sys2Proof.Machine

/-! ## CLEAR -/

def State.clear (s : State) (main : Byte) : State × Answer :=
  match index? 4 main with
  | none => (s, some (.range, main))
  | some m =>
    if (s.engine.mains.get m).state = .faulted then
      ((s.mapMain m fun x => { x with state := .closed, fault := none }).ask m, some (.done, main))
    else (s, some (.state, main))

def execClear (main : Byte) (s : State) : Host.Outcome State Fault Refusal :=
  .next (s.hostCommand Code.clear main fun t => t.clear main)

/-! ## HOLD -/

def State.hold (s : State) : State × Answer :=
  match s.control.mode with
  | .active => (s.holdYard, some (.done, 0))
  | .held => (s, some (.done, 0))
  | .draining => (s, some (.state, 0))
  | .drained => (s, some (.done, 0))

def execHold (s : State) : Host.Outcome State Fault Refusal :=
  .next (s.hostCommand Code.hold 0 State.hold)

/-! ## DRAIN -/

/-- Each main's drain timer started with its Drain time (07 R143). -/
def State.startDrainTimers (s : State) : State :=
  { s with
    control :=
      { s.control with
        drainTimers := Table.tab fun m => some (60 * (s.engine.mains.get m).drainTime) } }

/-- The effect of a DRAIN in ACTIVE or HELD (07 R142). -/
def State.drainYard (s : State) : State :=
  (((s.setMode .draining).drainPasses).startDrainTimers).emptyQueue

def State.drain (s : State) : State × Answer :=
  match s.control.mode with
  | .active => (s.drainYard, some (.done, 0))
  | .held => (s.drainYard, some (.done, 0))
  | .draining => (s, some (.done, 0))
  | .drained => (s, some (.done, 0))

def execDrain (s : State) : Host.Outcome State Fault Refusal :=
  .next (s.hostCommand Code.drain 0 State.drain)

/-! ## RESUME -/

/-- The effect of a RESUME from HELD (07 R144). -/
def State.resumeHeld (s : State) : State := (s.setMode .active).askAll

/-- Every main CLOSED, with Fault cause none (06 R132). -/
def State.closeMains (s : State) : State :=
  s.forEach (List.finRange 4) fun t m => t.mapMain m fun x => { x.shut .closed with fault := none }

/-- The effect of a RESUME from DRAINED (07 R145). -/
def State.resumeDrained (s : State) : State :=
  (((s.setMode .active).closeMains).reevaluateWhere fun _ => true).askAll

def State.resume (s : State) : State × Answer :=
  match s.control.mode with
  | .draining => (s, some (.busy, 0))
  | .active => (s, some (.done, 0))
  | .held => if s.field.lines.frost.filtered then (s, some (.frost, 0)) else (s.resumeHeld, some (.done, 0))
  | .drained =>
    if s.field.lines.frost.filtered then (s, some (.frost, 0)) else (s.resumeDrained, some (.done, 0))

def execResume (s : State) : Host.Outcome State Fault Refusal :=
  .next (s.hostCommand Code.resume 0 State.resume)

/-! ## Drain timers -/

/-- Every main is DRAINED. -/
def Engine.allDrained (e : Engine) : Bool := e.mains.all fun _ m => decide (m.state = .drained)

/-- The effect of a drain timer's expiry; MODE is raised where the fourth main is drained. -/
def State.drained (s : State) (m : Fin 4) : State :=
  let s := { s with control := { s.control with drainTimers := s.control.drainTimers.put m none } }
  let s := s.mapMain m fun x => { x with state := .drained }
  if s.engine.allDrained then (s.setMode .drained).raise .mode 0 else s

/-- The drain timer's expiry; none happens where the timer has not run out (log 3). -/
def execDrainTimerExpiry (m : Fin 4) (s : State) : Host.Outcome State Fault Refusal :=
  .next (s.event fun t => if t.control.drainTimers.get m = some 0 then t.drained m else t)

end Sys2Proof.Machine
end

