-- ==== Sys2Proof/Machine/Orders.lean ====
section
/-! DEFINITION. ORDER and WITHDRAW (05 R94 to R97). -/

namespace Sys2Proof.Machine

/-- The priority a byte stands for (10, table 10.1). -/
def priorityOf (b : Byte) : Option Priority :=
  match b.toNat with
  | 0 => some .normal
  | 1 => some .high
  | _ => none

/-- The cannon parameter of ORDER: none, an index, or a value out of range (10 R174). -/
def cannonParameter (b : Byte) : Option (Option (Fin 24)) :=
  if b = 0xFF then some none
  else
    match index? 24 b with
    | some k => some (some k)
    | none => none

/-- A named cannon is absent or does not cover the pile (05 R94 test 5). -/
def State.uncovers (s : State) (named : Option (Fin 24)) (p : Pile) : Bool :=
  match named with
  | none => false
  | some k =>
    match s.geometry.cannons.get k with
    | some c => !c.coversPile p
    | none => true

/-- ORDER applied to a pile that passes tests 1 to 5 (05 R95, R96). -/
def State.placeOrder (s : State) (i : Fin 48) (r : Priority) (named : Option (Fin 24)) :
    State × Result :=
  match s.orderOf i with
  | some o => (s.mergeOrder o r named, .merged)
  | none =>
    match s.join (s.newOrder i none (some r) named) with
    | some t => (t, .done)
    | none => (s, .full)

/-- The tests of ORDER on decoded parameters, from test 3 on (05 R94). -/
def State.orderPile (s : State) (i : Fin 48) (r : Priority) (named : Option (Fin 24)) :
    State × Result :=
  match s.geometry.piles.get i with
  | none => (s, .noSuch)
  | some p =>
    if (s.watch.living.get i).engaged then (s, .engaged)
    else if s.uncovers named p then (s, .uncovered)
    else s.placeOrder i r named

/-- The yard is DRAINING or DRAINED. -/
def State.draining (s : State) : Bool :=
  decide (s.control.mode = .draining) || decide (s.control.mode = .drained)

def State.order (s : State) (pile priority cannon : Byte) : State × Answer :=
  if s.draining then (s, some (.held, pile))
  else
    match index? 48 pile, priorityOf priority, cannonParameter cannon with
    | some i, some r, some named => ((s.orderPile i r named).1, some ((s.orderPile i r named).2, pile))
    | _, _, _ => (s, some (.range, 0))

def execOrder (pile priority cannon : Byte) (s : State) : Host.Outcome State Fault Refusal :=
  .next (s.hostCommand Code.order pile fun t => t.order pile priority cannon)

def State.withdraw (s : State) (pile : Byte) : State × Answer :=
  match index? 48 pile with
  | none => (s, some (.range, 0))
  | some i =>
    match s.orderOf i with
    | none => (s, some (.noSuch, pile))
    | some o =>
      if o.operator.isNone then (s, some (.noSuch, pile)) else (s.withdrawOrder o, some (.done, pile))

def execWithdraw (pile : Byte) (s : State) : Host.Outcome State Fault Refusal :=
  .next (s.hostCommand Code.withdraw pile fun t => t.withdraw pile)

end Sys2Proof.Machine
end

