-- ==== Sys2Proof/Machine/Passes.lean ====
section
/-! DEFINITION. The timers of live passes: prime, bay dwell and suspension limit (06 R117, R118, R124). -/

namespace Sys2Proof.Machine

/-- The work `f` of a timer of the pass in context `c` that has run out; an expiry bound for an earlier pass,
or for a count that has been started afresh, does nothing (06 R129, R130; log 3). -/
def State.passTimer (s : State) (c : Fin 8) (timer : Pass → Option Nat) (f : State → Pass → State) :
    State :=
  match s.engine.contexts.get c with
  | some p => if timer p = some 0 then f s p else s
  | none => s

/-- The prime timer's expiry: no flow came, so the main faults NO_FLOW (06 R117). -/
def execPrimeTimerExpiry (c : Fin 8) (s : State) : Host.Outcome State Fault Refusal :=
  .next (s.event fun t =>
    t.passTimer c Pass.primeTimer fun u _ => u.endPass none c (.noFlow .noFlow) true)

/-- The bay dwell timer's expiry: the bay in progress is finished (06 R118). -/
def execBayDwellExpiry (c : Fin 8) (s : State) : Host.Outcome State Fault Refusal :=
  .next (s.event fun t => t.passTimer c Pass.dwellTimer fun u p => u.finishBay none c p)

/-- The suspension-limit timer's expiry (06 R124). -/
def execSuspensionLimitExpiry (c : Fin 8) (s : State) : Host.Outcome State Fault Refusal :=
  .next (s.event fun t =>
    t.passTimer c Pass.limitTimer fun u _ => u.endPass none c (.cutShort .suspendLimit) true)

end Sys2Proof.Machine
end

