-- ==== Sys2Proof/Machine/Port.lean ====
section
/-! DEFINITION. The read commands STATUS, LOOK, LOCATE, NOTICES and IDENT, and the framing cases of the
Record Port (08 R147, R149, R152, R153; 01 R21; 09 R167, R169). -/

namespace Sys2Proof.Machine

/-! ## STATUS (08 R152; 10, section 10.4) -/

/-- A STATUS begun, with the bytes that the host will clock now and after each event to come. -/
def State.beginStatus (s : State) (clocked : Clocking) : State :=
  s.readSelect Code.status clocked.held fun t => t.openPort clocked.held (.streaming [] clocked.counts)

/-- STATUS: taken even while BUSY; it changes nothing but what SDO sends. Each repeat of its record is sampled
as its first byte goes out: the first at once, those after an event at the end of that event's step. -/
def execStatus (clocked : Clocking) (s : State) : Host.Outcome State Fault Refusal :=
  .next (s.portStep fun t => t.beginStatus clocked)

/-! ## LOOK (08 R153, R154) -/

/-- The reply to a LOOK of a class and index in range: a copy, or the absent marker. -/
def State.lookAt (s : State) (cls : RecordClass) (index : Byte) : Reading :=
  match s.copy cls index.toNat with
  | some bytes => { reply := some bytes, result := .done, index }
  | none => { reply := some absentMarker, result := .absent, index }

/-- The tests of LOOK and its reply. -/
def State.look (s : State) (cls index : Byte) : Reading :=
  match classOf cls with
  | none => { reply := none, result := .range, index := 0 }
  | some k =>
    if index.toNat < k.size then s.lookAt k index else { reply := none, result := .range, index }

/-- LOOK acts. -/
def State.openLook (s : State) (cls index : Byte) (clocked : Clocking) : State :=
  s.openRead Code.look index clocked fun t => t.look cls index

def execLook (cls index : Byte) (clocked : Clocking) (s : State) :
    Host.Outcome State Fault Refusal :=
  .next (s.portStep fun t => t.openLook cls index clocked)

/-! ## LOCATE (01 R21; 10, section 10.6) -/

/-- The pile whose window holds a bay, through the bed's window index. -/
def Geometry.pileAt (g : Geometry) (bed : Fin 8) (bay : Nat) : Option (Fin 48) :=
  (g.index.get bed).find? fun i =>
    match g.piles.get i with
    | some p => decide (p.bed = bed) && inWindow p.start p.length bay
    | none => false

/-- A present fixed exclusion on the bed holds the bay. -/
def Geometry.fixedAt (g : Geometry) (bed : Fin 8) (bay : Nat) : Bool :=
  g.exclusions.any fun _ x =>
    match x with
    | some e => decide (e.bed = bed) && inWindow e.start e.length bay && e.fixed
    | none => false

/-- The present cannons on the bed whose reach holds the bay, ascending. -/
def Geometry.cannonsAt (g : Geometry) (bed : Fin 8) (bay : Nat) : List (Fin 24) :=
  (List.finRange 24).filter fun k =>
    match g.cannons.get k with
    | some c => decide (c.bed = bed) && inWindow c.reachStart c.reachLength bay
    | none => false

/-- The bytes of the reply to LOCATE. -/
def Geometry.locateReply (g : Geometry) (bed : Fin 8) (bay : Nat) : List Byte :=
  let cannons := g.cannonsAt bed bay
  [BitVec.ofNat 8 (orAbsent 1 ((g.pileAt bed bay).map (·.val))),
   BitVec.ofNat 8 (flagCode (g.excluded bed bay) + 2 * flagCode (g.fixedAt bed bay)),
   BitVec.ofNat 8 cannons.length] ++ cannons.map fun k => BitVec.ofNat 8 k.val

def State.locate (s : State) (bed bay : Byte) : Reading :=
  match index? 8 bed with
  | some b =>
    if bay.toNat < 160 then
      { reply := some (s.geometry.locateReply b bay.toNat), result := .done, index := bed }
    else { reply := none, result := .range, index := bed }
  | none => { reply := none, result := .range, index := bed }

/-- LOCATE acts. -/
def State.openLocate (s : State) (bed bay : Byte) (clocked : Clocking) : State :=
  s.openRead Code.locate bed clocked fun t => t.locate bed bay

def execLocate (bed bay : Byte) (clocked : Clocking) (s : State) :
    Host.Outcome State Fault Refusal :=
  .next (s.portStep fun t => t.openLocate bed bay clocked)

/-! ## NOTICES (09 R167; 10, section 10.6) -/

/-- The bytes of the reply to NOTICES. -/
def State.noticesReply (s : State) : List Byte :=
  bytesOf 2 (setCode s.notices.pending) ++ bytesOf 1 (flagCode s.notices.allFaulted)
    ++ (Table.list s.notices.subjects).flatMap (bytesOf 1) ++ bytesOf 1 s.watch.mustCount

/-- NOTICES acts. -/
def State.openNotices (s : State) (clocked : Clocking) : State :=
  s.openRead Code.notices 0 clocked fun t =>
    { reply := some t.noticesReply, result := .done, index := 0 }

def execNotices (clocked : Clocking) (s : State) : Host.Outcome State Fault Refusal :=
  .next (s.portStep fun t => t.openNotices clocked)

/-! ## IDENT (09 R169; 10, section 10.6) -/

/-- The fixed exclusions present. -/
def Geometry.fixedCount (g : Geometry) : Nat :=
  ((List.finRange 16).filter fun i =>
    match g.exclusions.get i with
    | some e => e.fixed
    | none => false).length

/-- Sixteen zero bytes: the site tag while it is not written (09 R169). -/
def blankTag : List Byte := List.replicate 16 0

/-- The bytes of the reply to IDENT. -/
def State.identReply (s : State) : List Byte :=
  bytesOf 2 0x5918 ++ bytesOf 1 (0x41 + Config.revisionLetter.val) ++ bytesOf 8 s.store.unitNumber.toNat
    ++ bytesOf 1 (flagCode s.store.closed) ++ bytesOf 1 s.geometry.fixedCount
    ++ bytesOf 1 (flagCode s.store.tag.isSome) ++ s.store.tag.getD blankTag

/-- IDENT acts. -/
def State.openIdent (s : State) (clocked : Clocking) : State :=
  s.openRead Code.ident 0 clocked fun t =>
    { reply := some t.identReply, result := .done, index := 0 }

def execIdent (clocked : Clocking) (s : State) : Host.Outcome State Fault Refusal :=
  .next (s.portStep fun t => t.openIdent clocked)

/-! ## Framing (08 R147, R149) -/

/-- A framing refusal: no effect but the triple, also while BUSY (log 15). -/
def State.framing (s : State) (code : Byte) (result : Result) (index : Byte) : State :=
  s.portStep fun t => (t.send []).answer code result index

/-- A command byte that names no command is refused UNKNOWN; the triple names no command (log 14). -/
def execUnknownCommand (_code : Byte) (s : State) : Host.Outcome State Fault Refusal :=
  .next (s.framing Code.none .unknown 0)

/-- A command whose parameters stop short, or a CLOCK with no sub-operation, is refused RANGE. -/
def execShortParameterDeselect (code : Byte) (_params : List Byte) (s : State) :
    Host.Outcome State Fault Refusal :=
  .next (s.framing code .range 0)

/-- The host goes on with the select after the bytes it has clocked. -/
def goesOn (c : Clocking) : Clocking := { c with counts := c.counts ++ [0] }

/-- A transaction whose bytes were received with no event among them, as its timeout finds it: a read whose
parameter bytes were in has acted, and has streamed against the bytes after them; any other command has not
acted (08 R148, R149; log 28). -/
def State.receive (s : State) (received : List Byte) : State :=
  let t :=
    match decodeTransaction received with
    | some (.status clocked) => s.beginStatus (goesOn clocked)
    | some (.look cls index clocked) => s.openLook cls index (goesOn clocked)
    | some (.locate bed bay clocked) => s.openLocate bed bay (goesOn clocked)
    | some (.notices clocked) => s.openNotices (goesOn clocked)
    | some (.ident clocked) => s.openIdent (goesOn clocked)
    | _ => s.send []
  { t with port := t.port.streamed t.statusRecord }

/-- The command code in a timeout's triple: the command byte received, none where it was not complete or
names no command (08 R149, R150). -/
def timeoutCode (received : List Byte) : Byte :=
  match received with
  | [] => Code.none
  | code :: _ => if code ∈ Code.all then code else Code.none

/-- The work of a timeout: of the read that goes on, where one does, and else of the transaction whose bytes were
`received` (08 R149; log 28). -/
def State.timeOut (s : State) (received : List Byte) : State :=
  match s.port.readCode with
  | some code => s.abandon code
  | none => (s.receive received).abandon (timeoutCode received)

/-- The timeout of the transaction in progress. No select has lasted 1.5 s before the count is out, and until then
there is no timeout (08 R149; log 3). -/
def execTransactionTimeout (received : List Byte) (s : State) : Host.Outcome State Fault Refusal :=
  .next (s.portStep fun t => if t.port.selectLeft = 0 then t.timeOut received else t)

end Sys2Proof.Machine
end

