-- ==== Sys2Proof/Machine/Sources.lean ====
section
/-! DEFINITION. INFLOW, GAUGE, ISOLATE, RESTORE and the settle timer (04 R80, R82, R83, R85, R86). -/

namespace Sys2Proof.Machine

/-! ## INFLOW (04 R82) -/

/-- The kind of an INFLOW: true is RUNOFF (10, table 10.1). -/
def inflowKind (b : Byte) : Option Bool :=
  match b.toNat with
  | 0 => some false
  | 1 => some true
  | _ => none

/-- The effect of an accepted INFLOW; a rise is reported whatever its kind (log 17). -/
def State.takeInflow (s : State) (b : Fin 5) (v : Nat) (turbid : Bool) : State :=
  let before := s.water.basins.get b
  let s := s.addLevel b v
  let s := if turbid then s.mapBasin b Basin.stir else s
  (s.lowTest b).reportRise b before

def State.inflow (s : State) (source : Byte) (volume : Word16) (kind : Byte) : State × Answer :=
  match index? 5 source with
  | none => (s, some (.range, source))
  | some b =>
    if 60000 < volume.toNat then (s, some (.range, source))
    else
      match inflowKind kind with
      | none => (s, some (.range, source))
      | some turbid => (s.takeInflow b volume.toNat turbid, some (.done, source))

def execInflow (source : Byte) (volume : Word16) (kind : Byte) (s : State) :
    Host.Outcome State Fault Refusal :=
  .next (s.hostCommand Code.inflow source fun t => t.inflow source volume kind)

/-! ## GAUGE (04 R83) -/

/-- Step 1: the baseline of each live pass on the basin moved to what it has delivered. -/
def State.moveBaselines (s : State) (b : Fin 5) : State :=
  s.forEach allContexts fun t c =>
    match t.engine.contexts.get c with
    | some p =>
      if p.draws (asSource b) then
        (t.mapBasin b fun y => { y with reserved := y.reserved - (p.delivered - p.deducted) }).setContext c
          (some { p with deducted := p.delivered })
      else t
    | none => t

/-- Step 4: the passes on a basin that the gauge has brought low are cut, and one low test follows; a basin
that this test takes from LOW to READY is reported (04 R78). -/
def State.cutLow (s : State) (b : Fin 5) : State :=
  let t := s.endWhere (some b) (Pass.draws (asSource b)) (.cutShort .water)
  (t.lowTest b).reportReady b (t.water.basins.get b)

/-- The effect of an accepted GAUGE. Step 5 compares with the basin before the GAUGE; a basin that the cut
took to LOW and back to READY has been reported at that change (log 30). -/
def State.takeGauge (s : State) (b : Fin 5) (level clarity : Nat) : State :=
  let before := s.water.basins.get b
  let s := (s.moveBaselines b).mapBasin b fun y =>
    { y with level, baseClarity := clarity, clarity }
  let s := s.lowTest b
  let s := if !before.low && (s.water.basins.get b).low then s.cutLow b else s
  s.reportRise b before

def State.gauge (s : State) (source : Byte) (level : Word16) (clarity : Byte) : State × Answer :=
  match index? 5 source with
  | none => (s, some (.range, source))
  | some b =>
    if (s.water.basins.get b).capacity < level.toNat ∨ 3 < clarity.toNat then
      (s, some (.range, source))
    else (s.takeGauge b level.toNat clarity.toNat, some (.done, source))

def execGauge (source : Byte) (level : Word16) (clarity : Byte) (s : State) :
    Host.Outcome State Fault Refusal :=
  .next (s.hostCommand Code.gauge source fun t => t.gauge source level clarity)

/-! ## ISOLATE and RESTORE (04 R85, R86) -/

/-- A source's Isolated flag. -/
def Water.isIsolated (w : Water) (x : Fin 6) : Bool :=
  match asBasin x with
  | some b => (w.basins.get b).isolated
  | none => w.fresh.isolated

/-- A source's Isolated flag written. -/
def State.setIsolated (s : State) (x : Fin 6) (v : Bool) : State :=
  match asBasin x with
  | some b => s.mapBasin b fun y => { y with isolated := v }
  | none => s.mapFresh fun y => { y with isolated := v }

/-- The effect of an ISOLATE of a source in service (04 R85). -/
def State.isolateSource (s : State) (x : Fin 6) : State :=
  ((s.setIsolated x true).endWhere none (Pass.draws x) (.cutShort .water)).closeSource x

def State.isolate (s : State) (source : Byte) : State × Answer :=
  match index? 6 source with
  | none => (s, some (.range, source))
  | some x =>
    (if s.water.isIsolated x then s else s.isolateSource x, some (.done, source))

def execIsolate (source : Byte) (s : State) : Host.Outcome State Fault Refusal :=
  .next (s.hostCommand Code.isolate source fun t => t.isolate source)

/-- The effect of a RESTORE of an isolated source (04 R86): it is reported if it can then serve passes. -/
def State.restoreSource (s : State) (x : Fin 6) : State :=
  let t := s.setIsolated x false
  t.askAllIf (t.water.serves x)

def State.restore (s : State) (source : Byte) : State × Answer :=
  match index? 6 source with
  | none => (s, some (.range, source))
  | some x =>
    (if s.water.isIsolated x then s.restoreSource x else s, some (.done, source))

def execRestore (source : Byte) (s : State) : Host.Outcome State Fault Refusal :=
  .next (s.hostCommand Code.restore source fun t => t.restore source)

/-! ## The settle timer (04 R80) -/

/-- The effect of a settle expiry: Clarity returns to Base clarity. -/
def State.settled (s : State) (b : Fin 5) : State :=
  let before := s.water.basins.get b
  (s.mapBasin b fun y => { y with clarity := y.baseClarity, settle := none }).reportReady b before

/-- The settle timer's expiry; none happens where the timer has not run out (log 3). -/
def execSettleTimerExpiry (b : Fin 5) (s : State) : Host.Outcome State Fault Refusal :=
  .next (s.event fun t => if (t.water.basins.get b).settle = some 0 then t.settled b else t)

end Sys2Proof.Machine
end

