-- ==== Sys2Proof/Machine/Staging.lean ====
section
/-! DEFINITION. The Staging Unit's commands STAGE, FILL, MATCH and COMMIT with the class checks and
consequences of each class, and RETIRE with those of each class (08 R155 to R161; 01, 02, 03, 04, 06, 07
and 09 for the classes). -/

namespace Sys2Proof.Machine

/-- A staging buffer replaced. -/
def State.setBuffer (s : State) (b : Fin 2) (x : Option Staged) : State :=
  { s with staging := s.staging.put b x }

/-! ## STAGE (08 R156) -/

/-- The buffer a STAGE makes of a staged class and an index in its range. -/
def State.stagedOf (s : State) (cls : RecordClass) (i : Nat) : Staged :=
  let values := (s.liveValues cls i).getD (defaultValues cls)
  { cls, index := i, base := s.liveRevision cls i, lost := false, values,
    written := values.map fun _ => false }

def State.stage (s : State) (buffer cls index : Byte) : State × Answer :=
  match index? 2 buffer with
  | none => (s, some (.range, 0))
  | some b =>
    match classOf cls with
    | none => (s, some (.range, index))
    | some k =>
      if k.stagedClass && decide (index.toNat < k.size) then
        (s.setBuffer b (some (s.stagedOf k index.toNat)), some (.done, index))
      else (s, some (.range, index))

def execStage (buffer cls index : Byte) (s : State) : Host.Outcome State Fault Refusal :=
  .next (s.hostCommand Code.stage index fun t => t.stage buffer cls index)

/-! ## FILL (08 R157) -/

/-- Why a pair of a FILL fails, if it does (08 R157 tests 5 and 6). -/
def pairFault (base : Option Word16) (f : FieldSpec) (value : Nat) : Option Result :=
  match f.access with
  | .part => some .readonly
  | .creation =>
    if base.isSome then some .readonly else if f.range.holds value then none else some .range
  | .host => if f.range.holds value then none else some .range

/-- The first pair that fails, with its field number, which is the triple's index. -/
def firstPairFault (base : Option Word16) (pairs : List (Nat × FieldSpec × Nat)) :
    Option (Result × Byte) :=
  pairs.findSome? fun x => (pairFault base x.2.1 x.2.2).map fun r => (r, BitVec.ofNat 8 x.2.1.number)

/-- The pairs of a FILL applied in order. -/
def Staged.apply (b : Staged) (pairs : List (Nat × FieldSpec × Nat)) : Staged :=
  pairs.foldl
    (fun b x => { b with values := b.values.set x.1 x.2.2, written := b.written.set x.1 true }) b

/-- A FILL of a STAGED buffer: the buffer it leaves, and the answer. A number with nothing after it, or a
value that stops short, fails test 3 before any pair is judged; after a number the layout does not give no
further pair can be found (10 R175, log 25). -/
def Staged.fill (b : Staged) (buffer : Byte) (data : List Byte) : Staged × Answer :=
  let parsed := parsePairs (layout b.cls b.index) data.length data
  match parsed.2 with
  | .partPair => (b, some (.range, 0))
  | .complete =>
    match firstPairFault b.base parsed.1 with
    | some r => (b, some r)
    | none => (b.apply parsed.1, some (.done, buffer))
  | .unknownField n =>
    match firstPairFault b.base parsed.1 with
    | some r => (b, some r)
    | none => (b, some (.range, BitVec.ofNat 8 n))

def State.fillBuffer (s : State) (buffer : Byte) (data : List Byte) : State × Answer :=
  match index? 2 buffer with
  | none => (s, some (.range, 0))
  | some k =>
    match s.staging.get k with
    | none => (s, some (.empty, buffer))
    | some b => (s.setBuffer k (some (b.fill buffer data).1), (b.fill buffer data).2)

/-- A FILL. Without a buffer byte it names neither buffer 0 nor buffer 1 (log 15). -/
def State.fill (s : State) (buffer : Option Byte) (data : List Byte) : State × Answer :=
  match buffer with
  | some b => s.fillBuffer b data
  | none => (s, some (.range, 0))

def execFill (buffer : Option Byte) (data : List Byte) (s : State) : Host.Outcome State Fault Refusal :=
  .next (s.hostCommand Code.fill 0 fun t => t.fill buffer data)

/-! ## MATCH (08 R158) -/

/-- Every written field of a buffer equals the live record's. -/
def Staged.agrees (b : Staged) (live : List Nat) : Bool :=
  ((b.values.zip live).zip b.written).all fun x => !x.2 || x.1.1 == x.1.2

/-- The index of a staged buffer, as the triple shows it. -/
def Staged.shownIndex (b : Staged) : Byte := BitVec.ofNat 8 b.index

/-- The index a buffer command shows: the staged index, 0 where there is none (log 13). -/
def State.bufferIndex (s : State) (buffer : Byte) : Byte :=
  match index? 2 buffer with
  | none => 0
  | some k =>
    match s.staging.get k with
    | some b => b.shownIndex
    | none => 0

def State.matchWith (s : State) (buffer : Byte) : Result × Byte :=
  match index? 2 buffer with
  | none => (.range, 0)
  | some k =>
    match s.staging.get k with
    | none => (.empty, 0)
    | some b =>
      match s.liveValues b.cls b.index with
      | none => (.absent, b.shownIndex)
      | some live => (if b.agrees live then .same else .different, b.shownIndex)

def execMatch (buffer : Byte) (s : State) : Host.Outcome State Fault Refusal :=
  .next (s.hostCommand Code.matchBuffer (s.bufferIndex buffer) fun t => (t, some (t.matchWith buffer)))

/-! ## COMMIT: the class checks and consequences -/

/-- The Revision a COMMIT gives: 0 to a new record, one more to a present one (08 R159). -/
def nextRevision (old : Option Word16) : Word16 :=
  match old with
  | some r => r + 1
  | none => 0

/-- What a class's owner makes of a COMMIT: a refusal, or the state with the record installed and its
consequences handed on. -/
abbrev Installed := Result ⊕ State

/-! ### BED (01 R4) -/

/-- Every window on a bed ends at or before bay `n`. -/
def Geometry.endsWithin (g : Geometry) (bed : Fin 8) (n : Nat) : Bool :=
  (g.piles.all fun _ x =>
      match x with
      | some p => !decide (p.bed = bed) || decide (p.start + p.length ≤ n)
      | none => true)
    && (g.cannons.all fun _ x =>
      match x with
      | some c => !decide (c.bed = bed) || decide (c.reachStart + c.reachLength ≤ n)
      | none => true)
    && (g.exclusions.all fun _ x =>
      match x with
      | some e => !decide (e.bed = bed) || decide (e.start + e.length ≤ n)
      | none => true)

def State.commitBed (s : State) (i : Fin 8) (v : List Nat) : Installed :=
  if s.geometry.endsWithin i (fieldValue v 1) then
    .inr { s with
      geometry :=
        { s.geometry with
          beds := s.geometry.beds.modify i fun b =>
            { b.install v with revision := b.revision + 1 } } }
  else .inl .range

/-! ### PILE (01 R6 to R8) -/

/-- A pile other than `i` on the staged bed has a bay in the staged window. -/
def Geometry.overlaps (g : Geometry) (i : Fin 48) (x : Pile) : Bool :=
  g.piles.any fun j y =>
    match y with
    | some p =>
      decide (j ≠ i) && decide (p.bed = x.bed) && windowsMeet p.start p.length x.start x.length
    | none => false

/-- Some present cannon covers the pile. -/
def Geometry.covered (g : Geometry) (x : Pile) : Bool :=
  g.cannons.any fun _ y =>
    match y with
    | some c => c.coversPile x
    | none => false

/-- The staged geometry is the live one's. -/
def Pile.sameWindow (a b : Pile) : Bool :=
  decide (a.bed = b.bed) && decide (a.start = b.start) && decide (a.length = b.length)

/-- The tests of a PILE COMMIT (01 R7). -/
def State.pileTest (s : State) (i : Fin 48) (x : Pile) : Option Result :=
  if (s.geometry.beds.get x.bed).length < x.start + x.length then some .range
  else if s.geometry.overlaps i x then some .overlap
  else if !s.geometry.covered x then some .uncovered
  else
    match s.geometry.piles.get i with
    | some old => if (s.watch.living.get i).engaged && !old.sameWindow x then some .engaged else none
    | none => none

/-- The list of a bed's index with pile `i` inserted at the place its Start bay gives (01 R6). -/
def Geometry.insertIndex (g : Geometry) (i : Fin 48) (start : Nat) (l : List (Fin 48)) : List (Fin 48) :=
  let before := fun j =>
    match g.piles.get j with
    | some p => decide (p.start < start)
    | none => false
  l.takeWhile before ++ [i] ++ l.dropWhile before

/-- The window indexes without pile `i`. -/
def Geometry.unindexed (g : Geometry) (i : Fin 48) : Table 8 (List (Fin 48)) :=
  Table.tab fun b => (g.index.get b).filter (· != i)

/-- A pile's geometry installed, with its entry in its bed's window index (01 R6). -/
def Geometry.placePile (g : Geometry) (i : Fin 48) (x : Pile) : Geometry :=
  { g with
    piles := g.piles.put i (some x)
    index := (g.unindexed i).modify x.bed (g.insertIndex i x.start) }

/-- The living part at a PILE COMMIT, before the evaluation (03 R43; 01 R8 step 1). -/
def Living.atCommit (l : Living) (old : Option Pile) (x : Pile) (moisture : Nat) (count : Word16) :
    Living :=
  match old with
  | none => { Living.blank with moisture, bedMark := count }
  | some p => if p.bed = x.bed then l else { l with bedMark := count }

/-- The named cannon of an order does not cover its pile, or is absent (05 R98). -/
def State.nameFalse (s : State) (o : Order) : Bool :=
  match o.named with
  | none => false
  | some k =>
    match s.geometry.cannons.get k, s.geometry.piles.get o.pile with
    | some c, some p => !c.coversPile p
    | _, _ => true

/-- A PILE COMMIT installed and handed on (01 R8). -/
def State.installPile (s : State) (i : Fin 48) (x : Pile) (moisture : Nat) : State :=
  let old := s.geometry.piles.get i
  let s := { s with geometry := s.geometry.placePile i x }
  let s := s.mapLiving i fun l => l.atCommit old x moisture (s.watch.passCount.get x.bed)
  let s := s.reevaluate i true
  (s.clearNames fun o => decide (o.pile = i) && s.nameFalse o).askAll

def State.commitPile (s : State) (i : Fin 48) (v : List Nat) : Installed :=
  let x := pileFrom v (nextRevision ((s.geometry.piles.get i).map (·.revision)))
  match s.pileTest i x with
  | some r => .inl r
  | none => .inr (s.installPile i x (fieldValue v 5))

/-! ### GRADE and MODEL (03 R46, R47; 02 R37) -/

def State.commitGrade (s : State) (i : Fin 8) (v : List Nat) : Installed :=
  let g := gradeFrom v ((s.watch.grades.get i).revision + 1)
  if g.may < g.need ∧ g.need < g.must ∧ g.must ≤ 140 then
    .inr (({ s with watch := { s.watch with grades := s.watch.grades.put i g } }).reevaluateWhere
      fun p => decide (p.grade = i))
  else .inl .range

/-- A table of thresholds is strictly ascending. -/
def ascending (t : Table 3 Nat) : Bool := decide (t.get 0 < t.get 1) && decide (t.get 1 < t.get 2)

def State.commitModel (s : State) (v : List Nat) : Installed :=
  let m := modelFrom v (s.watch.model.revision + 1)
  if ascending m.speed && ascending m.humidity then
    .inr { s with watch := { s.watch with model := m } }
  else .inl .range

/-! ### CANNON (01 R11, R12) -/

/-- The fields that a cannon with a live pass may not have changed are the same (01 R11 test 2). -/
def Cannon.samePlan (a b : Cannon) : Bool :=
  decide (a.main = b.main) && decide (a.bed = b.bed) && decide (a.reachStart = b.reachStart)
    && decide (a.reachLength = b.reachLength) && decide (a.flow = b.flow) && decide (a.dwell = b.dwell)
    && decide (a.skip = b.skip) && decide (a.repeats = b.repeats) && decide (a.reverse = b.reverse)
    && decide (a.alternate = b.alternate)

/-- Every present pile is covered by some present cannon (01 R1). -/
def Geometry.allCovered (g : Geometry) : Bool :=
  g.piles.all fun _ x =>
    match x with
    | some p => g.covered p
    | none => true

/-- The geometry with one cannon position changed. -/
def Geometry.putCannon (g : Geometry) (i : Fin 24) (c : Option Cannon) : Geometry :=
  { g with cannons := g.cannons.put i c }

/-- The tests of a CANNON COMMIT (01 R11). -/
def State.cannonTest (s : State) (i : Fin 24) (c : Cannon) : Option Result :=
  if (s.geometry.beds.get c.bed).length < c.reachStart + c.reachLength then some .range
  else if s.cannonLive i
      && !(match s.geometry.cannons.get i with
        | some old => old.samePlan c
        | none => true)
    then some .engaged
  else if !(s.geometry.putCannon i (some c)).allCovered then some .covers
  else none

/-- A CANNON COMMIT installed and handed on (01 R12). -/
def State.installCannon (s : State) (i : Fin 24) (c : Cannon) : State :=
  let isNew := (s.geometry.cannons.get i).isNone
  let s := { s with geometry := s.geometry.putCannon i (some c) }
  let s := s.judgeCannon i c isNew
  (s.clearNames fun o => decide (o.named = some i) && s.nameFalse o).askAll

def State.commitCannon (s : State) (i : Fin 24) (v : List Nat) : Installed :=
  let c := cannonFrom v (nextRevision ((s.geometry.cannons.get i).map (·.revision)))
  match s.cannonTest i c with
  | some r => .inl r
  | none => .inr (s.installCannon i c)

/-! ### EXCLUSION (01 R15, R16) -/

/-- The exclusion at a position is fixed. -/
def Geometry.isFixed (g : Geometry) (i : Fin 16) : Bool :=
  match g.exclusions.get i with
  | some e => e.fixed
  | none => false

/-- The tests of an EXCLUSION COMMIT (01 R15). -/
def State.exclusionTest (s : State) (i : Fin 16) (e : Exclusion) : Option Result :=
  if s.geometry.isFixed i then some .fixed
  else if e.length < 1 then some .range
  else if (s.geometry.beds.get e.bed).length < e.start + e.length then some .range
  else none

/-- An exclusion position changed. -/
def State.setExclusion (s : State) (i : Fin 16) (e : Option Exclusion) : State :=
  { s with geometry := { s.geometry with exclusions := s.geometry.exclusions.put i e } }

def State.commitExclusion (s : State) (i : Fin 16) (v : List Nat) : Installed :=
  let e := exclusionFrom v (nextRevision ((s.geometry.exclusions.get i).map (·.revision)))
  match s.exclusionTest i e with
  | some r => .inl r
  | none => .inr ((s.setExclusion i (some e)).trimPasses e.bed e.start e.length)

/-! ### MAIN (06 R108) -/

/-- A live pass has this main as its Main. -/
def State.mainServes (s : State) (m : Fin 4) : Bool :=
  s.engine.contexts.any fun _ x =>
    match x with
    | some p => decide (p.main = m)
    | none => false

/-- An OPEN main whose open source its mask does not hold is closed. -/
def Main.closeUnmasked (m : Main) : Main :=
  match m.openSource with
  | some x => if m.state = .opened ∧ m.sourceMask.get x = false then m.shut .closed else m
  | none => m

def State.commitMain (s : State) (m : Fin 4) (v : List Nat) : Installed :=
  if s.mainServes m && decide (flagsOf 6 (fieldValue v 1) ≠ (s.engine.mains.get m).sourceMask) then
    .inl .engaged
  else
    .inr ((s.mapMain m fun x =>
      ({ x.install v with revision := x.revision + 1 } : Main).closeUnmasked).follow.ask m)

/-! ### SOURCE (04 R87) -/

/-- The tests of a SOURCE COMMIT of a basin. -/
def Basin.commitTest (b : Basin) (v : List Nat) : Option Result :=
  if fieldValue v 1 < b.level then some .range
  else if fieldValue v 1 < fieldValue v 2 then some .range
  else if 0 < b.reserved ∧ b.level < fieldValue v 2 + b.reserved then some .range
  else none

def State.commitBasin (s : State) (i : Fin 5) (v : List Nat) : Installed :=
  let b := s.water.basins.get i
  match b.commitTest v with
  | some r => .inl r
  | none =>
    .inr (((s.mapBasin i fun b => { b.install v with revision := b.revision + 1 }).lowTest i).reportRise i b)

/-- The Allowance of a staged fresh supply, the first field of its layout (10, section 10.5). -/
def State.commitFresh (s : State) (v : List Nat) : Installed :=
  .inr (s.mapFresh fun f => { f with allowance := fieldValue v 1, revision := f.revision + 1 })

def State.commitSource (s : State) (i : Fin 6) (v : List Nat) : Installed :=
  match asBasin i with
  | some b => s.commitBasin b v
  | none => s.commitFresh v

/-! ### YARD (07 R136, R137; 09 R165) -/

/-- The notice fields of a staged YARD record. -/
def Notices.install (n : Notices) (v : List Nat) : Notices :=
  { n with
    enables := flagsOf 9 (fieldValue v 5)
    urgentMode := if fieldValue v 6 = 0 then .each else .count
    urgentThreshold := fieldValue v 7 }

/-- The notice fields and the Revision first, then each line's settings in the record's order, each with
the event its re-take may deliver (log 27). -/
def State.commitYard (s : State) (v : List Nat) : Installed :=
  let t := { s with
    notices := s.notices.install v
    control := { s.control with revision := s.control.revision + 1 } }
  .inr (t.follow.forEach allLines.zipIdx fun u x =>
    u.changeSettings x.1 (lineSettings v x.2).1 (lineSettings v x.2).2)

/-! ### COMMIT (08 R159) -/

/-- Test 6 and the install, by class. -/
def State.installRecord (s : State) (b : Staged) : Installed :=
  match b.cls with
  | .bed => s.commitBed (Fin.ofNat 8 b.index) b.values
  | .pile => s.commitPile (Fin.ofNat 48 b.index) b.values
  | .grade => s.commitGrade (Fin.ofNat 8 b.index) b.values
  | .model => s.commitModel b.values
  | .cannon => s.commitCannon (Fin.ofNat 24 b.index) b.values
  | .exclusion => s.commitExclusion (Fin.ofNat 16 b.index) b.values
  | .main => s.commitMain (Fin.ofNat 4 b.index) b.values
  | .source => s.commitSource (Fin.ofNat 6 b.index) b.values
  | .yard => s.commitYard b.values
  | .slot | .observation | .order | .pass => .inl .range

/-- Tests 3 to 5 of a COMMIT: the base against the live record. -/
def State.stagingTest (s : State) (b : Staged) : Option Result :=
  let live := s.liveRevision b.cls b.index
  match b.base with
  | some r =>
    if live.isNone || b.lost then some .noSuch else if live ≠ some r then some .changed else none
  | none => if b.lost then some .noSuch else if live.isSome then some .exists else none

def State.commit (s : State) (buffer : Byte) : State × Answer :=
  match index? 2 buffer with
  | none => (s, some (.range, 0))
  | some k =>
    match s.staging.get k with
    | none => (s, some (.empty, 0))
    | some b =>
      match s.stagingTest b with
      | some r => (s, some (r, b.shownIndex))
      | none =>
        match s.installRecord b with
        | .inl r => (s, some (r, b.shownIndex))
        | .inr t => (t.setBuffer k none, some (.done, b.shownIndex))

def execCommit (buffer : Byte) (s : State) : Host.Outcome State Fault Refusal :=
  .next (s.hostCommand Code.commit (s.bufferIndex buffer) fun t => t.commit buffer)

/-! ## RETIRE (08 R160, R161) -/

/-- Base lost set in the buffers staged from a record that is now absent (08 R160). -/
def State.loseBases (s : State) (cls : RecordClass) (i : Nat) : State :=
  { s with
    staging := Table.tab fun k =>
      (s.staging.get k).map fun b =>
        if b.cls = cls ∧ b.index = i ∧ b.base.isSome = true then { b with lost := true } else b }

/-- The context of a pile's live pass. -/
def State.contextOf (s : State) (i : Fin 48) : Option (Fin 8) :=
  (List.finRange 8).find? fun c =>
    match s.engine.contexts.get c with
    | some p => decide (p.pile = i)
    | none => false

/-- The MUST count without a pile that is discarded (03 R56). -/
def State.discardMust (s : State) (i : Fin 48) : State :=
  s.countMust i (s.watch.living.get i).urgency .none

/-- RETIRE of a present pile (01 R9): its pass is cut with no offer for the pile, its order leaves, and the
position becomes absent. -/
def State.retirePile (s : State) (i : Fin 48) : State :=
  let s := match s.contextOf i with
    | some c => s.endPass none c (.cutShort .retired) false
    | none => s
  let s := if s.hasOrder i then s.dropOrder i else s
  let s := s.discardMust i
  let s := { s with
    geometry := { s.geometry with piles := s.geometry.piles.put i none, index := s.geometry.unindexed i } }
  (s.mapLiving i fun _ => Living.blank).loseBases .pile i.val

/-- RETIRE of a present cannon (01 R13). -/
def State.retireCannon (s : State) (i : Fin 24) : Installed :=
  if s.cannonLive i then .inl .engaged
  else if !(s.geometry.putCannon i none).allCovered then .inl .covers
  else
    let s := { s with geometry := s.geometry.putCannon i none }
    let s := { s with engine := { s.engine with blocked := s.engine.blocked.put i false } }
    .inr ((s.clearNames fun o => decide (o.named = some i)).askAll.loseBases .cannon i.val)

/-- RETIRE of a present exclusion (01 R17). -/
def State.retireExclusion (s : State) (i : Fin 16) : Installed :=
  if s.geometry.isFixed i then .inl .fixed
  else .inr ((s.setExclusion i none).askAll.loseBases .exclusion i.val)

/-- RETIRE of a present slot (02 R30). -/
def State.retireSlot (s : State) (i : Fin 36) (x : Slot) : State :=
  let t := { s with horizon := { s.horizon with slots := s.horizon.slots.put i none } }
  if x.hour = s.clock.hour then t.driftReevaluate else t

/-- RETIRE of a present observation (02 R36). -/
def State.retireObservation (s : State) (o : Observation) : State :=
  let t := { s with horizon := { s.horizon with observation := none, life := none } }
  if o.fresh then t.driftReevaluate else t

/-- RETIRE of a record of a class and an index in range. -/
def State.retireRecord (s : State) (cls : RecordClass) (i : Nat) : Installed :=
  match cls with
  | .pile =>
    if (s.geometry.piles.get (Fin.ofNat 48 i)).isSome then .inr (s.retirePile (Fin.ofNat 48 i))
    else .inl .noSuch
  | .cannon =>
    if (s.geometry.cannons.get (Fin.ofNat 24 i)).isSome then s.retireCannon (Fin.ofNat 24 i)
    else .inl .noSuch
  | .exclusion =>
    if (s.geometry.exclusions.get (Fin.ofNat 16 i)).isSome then s.retireExclusion (Fin.ofNat 16 i)
    else .inl .noSuch
  | .slot =>
    match s.horizon.slots.get (Fin.ofNat 36 i) with
    | some x => .inr (s.retireSlot (Fin.ofNat 36 i) x)
    | none => .inl .noSuch
  | .observation =>
    match s.horizon.observation with
    | some o => .inr (s.retireObservation o)
    | none => .inl .noSuch
  | .bed | .grade | .model | .main | .source | .order | .pass | .yard => .inl .range

def State.retire (s : State) (cls index : Byte) : State × Answer :=
  match classOf cls with
  | none => (s, some (.range, 0))
  | some k =>
    if !k.retirable then (s, some (.range, 0))
    else if k.size ≤ index.toNat then (s, some (.range, index))
    else
      match s.retireRecord k index.toNat with
      | .inl r => (s, some (r, index))
      | .inr t => (t, some (.done, index))

def execRetire (cls index : Byte) (s : State) : Host.Outcome State Fault Refusal :=
  .next (s.hostCommand Code.retire index fun t => t.retire cls index)

end Sys2Proof.Machine
end

