-- ==== Sys2Proof/Machine/Supply.lean ====
section
/-! DEFINITION. ACKNOWLEDGE (09 R168), the nonvolatile writes FIX, CLOSE and TAG with their ends (01 R18, R20;
09 R170), RESET, the supply and RSTN, and the end of the initialisation (09 R171, R172; 01 R19). -/

namespace Sys2Proof.Machine

/-! ## ACKNOWLEDGE -/

/-- The kinds that a mask names cleared, with ALL_FAULTED for MAIN_FAULT. -/
def Notices.acknowledge (n : Notices) (named : Table 9 Bool) : Notices :=
  { n with
    pending := Table.tab fun k => n.pending.get k && !named.get k
    allFaulted := n.allFaulted && !named.get NoticeKind.mainFault.place }

/-- Spilled set to 0 in every basin. -/
def State.clearSpilled (s : State) : State :=
  { s with
    water :=
      { s.water with
        basins := Table.tab fun b => { s.water.basins.get b with spilled := 0 } } }

def State.acknowledge (s : State) (mask : Word16) : State × Answer :=
  if 511 < mask.toNat then (s, some (.range, 0))
  else
    let named := flagsOf 9 mask.toNat
    let t := { s with notices := s.notices.acknowledge named }
    (if named.get NoticeKind.spill.place then t.clearSpilled else t, some (.done, 0))

def execAcknowledge (mask : Word16) (s : State) : Host.Outcome State Fault Refusal :=
  .next (s.hostCommand Code.acknowledge 0 fun t => t.acknowledge mask)

/-! ## Nonvolatile writes -/

/-- A nonvolatile write begun: the port is BUSY until its end (log 24). The triple is left to the end. -/
def State.beginWrite (s : State) (w : StoreWrite) : State :=
  { s with store := { s.store with write := some w } }

/-- The tests of FIX (01 R18). -/
def State.fix (s : State) (exclusion : Byte) : State × Answer :=
  match index? 16 exclusion with
  | none => (s, some (.range, exclusion))
  | some i =>
    match s.geometry.exclusions.get i with
    | none => (s, some (.noSuch, exclusion))
    | some e =>
      if s.store.closed then (s, some (.closed, exclusion))
      else if e.fixed then (s, some (.done, exclusion))
      else (s.beginWrite (.fix i), none)

def execFix (exclusion : Byte) (s : State) : Host.Outcome State Fault Refusal :=
  .next (s.hostCommand Code.fix exclusion fun t => t.fix exclusion)

def State.closeStore (s : State) : State × Answer :=
  if s.store.closed then (s, some (.done, 0)) else (s.beginWrite .close, none)

def execClose (s : State) : Host.Outcome State Fault Refusal :=
  .next (s.hostCommand Code.close 0 State.closeStore)

/-- The sixteen bytes of a tag: those received in order, 0 for those missing (09 R170). -/
def tagBytes (data : List Byte) : List Byte := (data ++ zeroBytes 16).take 16

def State.tag (s : State) (data : List Byte) : State × Answer :=
  if s.store.tag.isSome then (s, some (.closed, 0)) else (s.beginWrite (.tag (tagBytes data)), none)

def execTag (data : List Byte) (s : State) : Host.Outcome State Fault Refusal :=
  .next (s.hostCommand Code.tag 0 fun t => t.tag data)

/-- The store with its write taken away. -/
def Store.written (n : Store) : Store := { n with write := none }

/-- The end of a FIX: the entry stands, the exclusion is fixed, and its Revision moves on (01 R18). -/
def State.endFix (s : State) (i : Fin 16) : State :=
  match s.geometry.exclusions.get i with
  | none => { s with store := s.store.written }
  | some e =>
    { s with
      store :=
        { s.store.written with
          entries := s.store.entries.put i (some { bed := e.bed, start := e.start, length := e.length }) }
      geometry :=
        { s.geometry with
          exclusions :=
            s.geometry.exclusions.put i (some { e with fixed := true, revision := e.revision + 1 }) } }

/-- The end of a write of FIX; none happens where no such write is in progress. -/
def execFixWriteEnd (s : State) : Host.Outcome State Fault Refusal :=
  .next (s.event fun t =>
    match t.store.write with
    | some (.fix i) => (t.endFix i).answer Code.fix .done (BitVec.ofNat 8 i.val)
    | _ => t)

/-- The end of a write of CLOSE (01 R20). -/
def execCloseWriteEnd (s : State) : Host.Outcome State Fault Refusal :=
  .next (s.event fun t =>
    match t.store.write with
    | some .close =>
      ({ t with store := { t.store.written with closed := true } }).answer Code.close .done 0
    | _ => t)

/-- The end of a write of TAG: the tag and Tag written together (09 R170). -/
def execTagWriteEnd (s : State) : Host.Outcome State Fault Refusal :=
  .next (s.event fun t =>
    match t.store.write with
    | some (.tag bytes) =>
      ({ t with store := { t.store.written with tag := some bytes } }).answer Code.tag .done 0
    | _ => t)

/-! ## Resets -/

/-- RESET: refused BUSY while the port is BUSY; else the part is reset but for the clock and the horizon,
and the initialisation begins (08 R162, 09 R172). -/
def execReset (s : State) : Host.Outcome State Fault Refusal :=
  .next
    (if s.live then
      if s.busy then s.refuseBusy Code.reset 0 else s.resetCommand
    else s.conclude)

/-- Power has reached the part (09 R171). -/
def execPowerOn (s : State) : Host.Outcome State Fault Refusal :=
  .next (s.resetWhole true s.startup.resetLow)

/-- RSTN has fallen: the part is reset whole, and a write in progress is lost (09 R171, 01 R19). -/
def execResetLine (s : State) : Host.Outcome State Fault Refusal :=
  .next (s.resetWhole s.startup.powered true)

/-- RSTN has risen: the initialisation begins where the supply is present (09 R171). -/
def execResetLineRelease (s : State) : Host.Outcome State Fault Refusal :=
  .next
    ((if s.startup.resetLow then
        { s with
          startup :=
            { s.startup with
              resetLow := false, initialising := initialising s.startup.powered false } }
      else s).conclude)

/-- The supply is lost: the part stops, and a write in progress is lost (01 R19; log 11). -/
def execPowerLoss (s : State) : Host.Outcome State Fault Refusal :=
  .next (s.resetWhole false s.startup.resetLow)

/-- The end of the initialisation: a drift re-evaluation, and the port leaves BUSY (09 R171). None happens
where its 50 ms have not passed (log 3). -/
def execInitialisationEnd (s : State) : Host.Outcome State Fault Refusal :=
  .next (s.event fun t =>
    if t.startup.initialising = some 0 then
      ({ t with startup := { t.startup with initialising := none } }).driftReevaluate
    else t)

end Sys2Proof.Machine
end

