-- ==== Sys2Proof/Machine/Weather.lean ====
section
/-! DEFINITION. The Yard Clock and the Forecast Horizon: CLOCK HOLD, SET and RUN, FORECAST, OBSERVE, and the
events of the running clock and of the observation's life (02; the assessment of 03 and the day rollover
of 04 as the clock raises them). -/

namespace Sys2Proof.Machine

/-! ## CLOCK (02 R24 to R26) -/

/-- The clock replaced. -/
def State.setClock (s : State) (c : Clock) : State := { s with clock := c }

def State.clockHold (s : State) : State × Answer :=
  match s.clock.state with
  | .running =>
    (s.setClock { s.clock with state := .held, heldFrom := some s.clock.day, advanceDue := false },
      some (.done, 0))
  | .held => (s, some (.done, 0))
  | .unset => (s, some (.state, 0))

def execClockHold (s : State) : Host.Outcome State Fault Refusal :=
  .next (s.hostCommand Code.clock 0 State.clockHold)

/-- The effect of an accepted CLOCK SET (02 R25). -/
def State.setTime (s : State) (day second : Nat) : State :=
  ((s.setClock { s.clock with state := .held, day, second }).alignHorizon).driftReevaluate

def State.clockSet (s : State) (day : Word16) (second : Word24) : State × Answer :=
  if s.clock.state = .running then (s, some (.state, 0))
  else if 86399 < second.toNat then (s, some (.range, 0))
  else (s.setTime day.toNat second.toNat, some (.done, 0))

def execClockSet (day : Word16) (second : Word24) (s : State) : Host.Outcome State Fault Refusal :=
  .next (s.hostCommand Code.clock 0 fun t => t.clockSet day second)

def State.clockRun (s : State) : State × Answer :=
  match s.clock.state with
  | .running => (s, some (.done, 0))
  | .unset => (s, some (.clock, 0))
  | .held =>
    let t := s.setClock { s.clock with state := .running, heldFrom := none, fraction := 0 }
    (if s.clock.heldFrom = some s.clock.day then t else t.rolloverDay, some (.done, 0))

def execClockRun (s : State) : Host.Outcome State Fault Refusal :=
  .next (s.hostCommand Code.clock 0 State.clockRun)

/-! ## FORECAST (02 R29) -/

/-- A slot's position (02 R28). -/
def slotPosition (hour : Nat) : Fin 36 := Fin.ofNat 36 hour

/-- Test 5 of FORECAST: the ranges of the values but the hour. -/
def slotInRange (x : Slot) (sector : Nat) : Bool :=
  decide (sector ≤ 15) && decide (x.meanSpeed ≤ 600) && decide (x.gust ≤ 600)
    && decide (x.humidity ≤ 100) && decide (-40 ≤ x.temperature) && decide (x.temperature ≤ 60)
    && decide (x.rainClass ≤ 3)

/-- The first failing test of FORECAST but the clock's. -/
def State.forecastTest (s : State) (x : Slot) (sector : Nat) : Option Result :=
  if x.hour < s.clock.hour then some .past
  else if s.clock.hour + 35 < x.hour ∨ 1572863 < x.hour then some .beyond
  else
    match s.horizon.slotFor x.hour with
    | some old =>
      if x.issue ≤ old.issue then some .stale
      else if slotInRange x sector then none else some .range
    | none => if slotInRange x sector then none else some .range

/-- The effect of an accepted FORECAST. -/
def State.installSlot (s : State) (x : Slot) : State :=
  let t := { s with
    horizon := { s.horizon with slots := s.horizon.slots.put (slotPosition x.hour) (some x) } }
  if x.hour = s.clock.hour then t.driftReevaluate else t

/-- The position as the triple shows it. -/
def shownPosition (hour : Nat) : Byte := BitVec.ofNat 8 (hour % 36)

def State.forecast (s : State) (x : Slot) (sector : Nat) : State × Answer :=
  if s.clock.state = .unset then (s, some (.clock, 0))
  else
    match s.forecastTest x sector with
    | some r => (s, some (r, shownPosition x.hour))
    | none => (s.installSlot x, some (.done, shownPosition x.hour))

def execForecast (hour : Word24) (issue : Word16) (sector : Byte) (meanSpeed gust : Word16)
    (humidity temperature rainClass : Byte) (s : State) : Host.Outcome State Fault Refusal :=
  .next (s.hostCommand Code.forecast (shownPosition hour.toNat) fun t =>
    t.forecast
      { hour := hour.toNat, issue := issue.toNat, sector := Fin.ofNat 16 sector.toNat,
        meanSpeed := meanSpeed.toNat, gust := gust.toNat, humidity := humidity.toNat,
        temperature := temperature.toInt, rainClass := rainClass.toNat } sector.toNat)

/-! ## OBSERVE (02 R34) -/

/-- The effect of an accepted OBSERVE: installed, fresh, the life timer started afresh, and a drift
re-evaluation. -/
def State.installObservation (s : State) (o : Observation) : State :=
  ({ s with
    horizon :=
      { s.horizon with
        observation := some o, life := some (60 * s.watch.model.observationLife) } }).driftReevaluate

def State.observe (s : State) (speed gust sector humidity : Nat) : State × Answer :=
  if 600 < speed ∨ 600 < gust ∨ 15 < sector ∨ 100 < humidity then (s, some (.range, 0))
  else
    (s.installObservation
      { speed, gust, sector := Fin.ofNat 16 sector, humidity, stamp := s.clock.now, fresh := true },
      some (.done, 0))

def execObserve (speed gust : Word16) (sector humidity : Byte) (s : State) :
    Host.Outcome State Fault Refusal :=
  .next (s.hostCommand Code.observe 0 fun t =>
    t.observe speed.toNat gust.toNat sector.toNat humidity.toNat)

/-! ## The running clock (02 R23, R31; 03 R49; 04 R88) -/

/-- The clock one second on, with the events of a boundary raised (02 R23; log 4). -/
def Clock.advanced (c : Clock) : Clock :=
  let wraps := decide (86399 ≤ c.second)
  let second := if wraps then 0 else c.second + 1
  let day := if wraps then (c.day + 1) % 65536 else c.day
  { c with
    day, second, advanceDue := false
    assessmentRaised := if second % 900 = 0 then some ⟨day, second⟩ else c.assessmentRaised
    hourRaised := c.hourRaised || decide (second % 3600 = 0)
    dayRaised := c.dayRaised || decide (second = 0) }

/-- An advance of the clock; only a RUNNING clock that owes one advances (log 3). -/
def execYardClockAdvance (s : State) : Host.Outcome State Fault Refusal :=
  .next (s.event fun t =>
    if t.clock.state = .running ∧ t.clock.advanceDue = true then t.setClock t.clock.advanced else t)

/-- The assessment that the clock has raised (03 R49). -/
def execAssessment (s : State) : Host.Outcome State Fault Refusal :=
  .next (s.event fun t =>
    match t.clock.assessmentRaised with
    | some time => (t.setClock { t.clock with assessmentRaised := none }).assess time
    | none => t)

/-- The hour rollover that the clock has raised (02 R31). -/
def execHourRollover (s : State) : Host.Outcome State Fault Refusal :=
  .next (s.event fun t =>
    if t.clock.hourRaised then (t.setClock { t.clock with hourRaised := false }).rolloverHour else t)

/-- The day rollover that the clock has raised (04 R88). -/
def execDayRollover (s : State) : Host.Outcome State Fault Refusal :=
  .next (s.event fun t =>
    if t.clock.dayRaised then (t.setClock { t.clock with dayRaised := false }).rolloverDay else t)

/-- The observation with Fresh clear. -/
def Observation.staled (o : Observation) : Observation := { o with fresh := false }

/-- The observation's life is over (02 R35). -/
def State.expireObservation (s : State) : State :=
  ({ s with
    horizon :=
      { s.horizon with
        observation := s.horizon.observation.map Observation.staled
        life := none } }).driftReevaluate

/-- The observation life timer's expiry; none happens where the timer has not run out (log 3). -/
def execObservationLifeExpiry (s : State) : Host.Outcome State Fault Refusal :=
  .next (s.event fun t => if t.horizon.life = some 0 then t.expireObservation else t)

end Sys2Proof.Machine
end

