-- ==== Sys2Proof/Machine/Dispatch.lean ====
section
/-! DEFINITION. The effect of each command: one arm, one meaning. -/

namespace Sys2Proof.Machine

def exec (i : Instr) (s : State) : Host.Outcome State Fault Refusal :=
  match i with
  | .status clocked => Sys2Proof.Machine.execStatus clocked s
  | .look cls index clocked => Sys2Proof.Machine.execLook cls index clocked s
  | .locate bed bay clocked => Sys2Proof.Machine.execLocate bed bay clocked s
  | .notices clocked => Sys2Proof.Machine.execNotices clocked s
  | .ident clocked => Sys2Proof.Machine.execIdent clocked s
  | .stage buffer cls index => Sys2Proof.Machine.execStage buffer cls index s
  | .fill buffer data => Sys2Proof.Machine.execFill buffer data s
  | .matchBuffer buffer => Sys2Proof.Machine.execMatch buffer s
  | .commit buffer => Sys2Proof.Machine.execCommit buffer s
  | .retire cls index => Sys2Proof.Machine.execRetire cls index s
  | .clockHold => Sys2Proof.Machine.execClockHold s
  | .clockSet day second => Sys2Proof.Machine.execClockSet day second s
  | .clockRun => Sys2Proof.Machine.execClockRun s
  | .forecast hour issue sector meanSpeed gust humidity temperature rainClass => Sys2Proof.Machine.execForecast hour issue sector meanSpeed gust humidity temperature rainClass s
  | .observe speed gust sector humidity => Sys2Proof.Machine.execObserve speed gust sector humidity s
  | .order pile priority cannon => Sys2Proof.Machine.execOrder pile priority cannon s
  | .withdraw pile => Sys2Proof.Machine.execWithdraw pile s
  | .inflow source volume kind => Sys2Proof.Machine.execInflow source volume kind s
  | .gauge source level clarity => Sys2Proof.Machine.execGauge source level clarity s
  | .isolate source => Sys2Proof.Machine.execIsolate source s
  | .restore source => Sys2Proof.Machine.execRestore source s
  | .clear main => Sys2Proof.Machine.execClear main s
  | .hold => Sys2Proof.Machine.execHold s
  | .drain => Sys2Proof.Machine.execDrain s
  | .resume => Sys2Proof.Machine.execResume s
  | .acknowledge mask => Sys2Proof.Machine.execAcknowledge mask s
  | .fix exclusion => Sys2Proof.Machine.execFix exclusion s
  | .close => Sys2Proof.Machine.execClose s
  | .tag data => Sys2Proof.Machine.execTag data s
  | .reset => Sys2Proof.Machine.execReset s
  | .unknownCommand code => Sys2Proof.Machine.execUnknownCommand code s
  | .shortParameterDeselect code params => Sys2Proof.Machine.execShortParameterDeselect code params s
  | .transactionTimeout received => Sys2Proof.Machine.execTransactionTimeout received s
  | .fixWriteEnd => Sys2Proof.Machine.execFixWriteEnd s
  | .closeWriteEnd => Sys2Proof.Machine.execCloseWriteEnd s
  | .tagWriteEnd => Sys2Proof.Machine.execTagWriteEnd s
  | .powerOn => Sys2Proof.Machine.execPowerOn s
  | .resetLine => Sys2Proof.Machine.execResetLine s
  | .initialisationEnd => Sys2Proof.Machine.execInitialisationEnd s
  | .yardClockAdvance => Sys2Proof.Machine.execYardClockAdvance s
  | .assessment => Sys2Proof.Machine.execAssessment s
  | .hourRollover => Sys2Proof.Machine.execHourRollover s
  | .dayRollover => Sys2Proof.Machine.execDayRollover s
  | .observationLifeExpiry => Sys2Proof.Machine.execObservationLifeExpiry s
  | .settleTimerExpiry basin => Sys2Proof.Machine.execSettleTimerExpiry basin s
  | .primeTimerExpiry context => Sys2Proof.Machine.execPrimeTimerExpiry context s
  | .bayDwellExpiry context => Sys2Proof.Machine.execBayDwellExpiry context s
  | .suspensionLimitExpiry context => Sys2Proof.Machine.execSuspensionLimitExpiry context s
  | .drainTimerExpiry main => Sys2Proof.Machine.execDrainTimerExpiry main s
  | .rawLineChange line high => Sys2Proof.Machine.execRawLineChange line high s
  | .qualifyingTimerExpiry line => Sys2Proof.Machine.execQualifyingTimerExpiry line s
  | .reTakeTimerExpiry line => Sys2Proof.Machine.execReTakeTimerExpiry line s
  | .resetLineRelease => Sys2Proof.Machine.execResetLineRelease s
  | .powerLoss => Sys2Proof.Machine.execPowerLoss s

end Sys2Proof.Machine
end

