-- ==== Sys2Proof/Machine/OpsTime.lean ====
section
/-! DEFINITION. What the part's own time base does while no command waits (log 2): the event that is due is
put in the queue, one at a time; where none is due, one unit of 50 ms passes. -/

namespace Sys2Proof.Machine

/-! ## One unit, one second -/

/-- A running count one less; it stays at 0 until its event is taken. -/
def countDown (t : Option Nat) : Option Nat := t.map (· - 1)

/-- A line's timers one unit of 50 ms on. -/
def InputLine.tick (l : InputLine) : InputLine :=
  { l with qualify := countDown l.qualify, retake := countDown l.retake }

/-- Every line's timers one unit on. -/
def Lines.tick (l : Lines) : Lines :=
  { machine := Table.tab fun b => (l.machine.get b).tick
    gust := l.gust.tick
    rain := l.rain.tick
    frost := l.frost.tick
    flow := Table.tab fun m => (l.flow.get m).tick }

/-- A live pass one second on (06 R118, R119). -/
def Pass.second (p : Pass) : Pass :=
  let q := { p with
    primeTimer := countDown p.primeTimer, dwellTimer := countDown p.dwellTimer,
    limitTimer := countDown p.limitTimer }
  if p.state = .running then
    { q with runningSeconds := p.runningSeconds + 1, cursorSeconds := p.cursorSeconds + 1 }
  else q

/-- One second of the part's seconds base: the elapsed-time timers and the running passes (02 R27). -/
def State.second (s : State) : State :=
  { s with
    horizon := { s.horizon with life := countDown s.horizon.life }
    engine :=
      { s.engine with contexts := Table.tab fun c => (s.engine.contexts.get c).map Pass.second }
    water :=
      { s.water with
        basins := Table.tab fun b =>
          { s.water.basins.get b with settle := countDown (s.water.basins.get b).settle } }
    control :=
      { s.control with
        drainTimers := Table.tab fun m => countDown (s.control.drainTimers.get m) } }

/-- The clock one unit of 50 ms on: a RUNNING clock owes an advance at each second from CLOCK RUN on
(02 R23, R26). -/
def Clock.unit (c : Clock) : Clock :=
  match c.state with
  | .running =>
    if c.fraction + 1 < 20 then { c with fraction := c.fraction + 1 }
    else { c with fraction := 0, advanceDue := true }
  | .held => c
  | .unset => c

/-- One unit of 50 ms. -/
def State.unit (s : State) : State :=
  let t := { s with
    port := s.port.tick
    clock := s.clock.unit
    field := { s.field with lines := s.field.lines.tick }
    startup :=
      { s.startup with
        initialising := countDown s.startup.initialising
        phase := (s.startup.phase + 1) % 20 } }
  if t.startup.phase = 0 then t.second else t

/-! ## The event that is due (log 5) -/

/-- The end of the write in progress. -/
def writeEnd (w : StoreWrite) : Instr :=
  match w with
  | .fix _ => .fixWriteEnd
  | .close => .closeWriteEnd
  | .tag _ => .tagWriteEnd

/-- The first command of a list that some test finds due. -/
def firstThat {α : Type} (items : List α) (isDue : α → Bool) (f : α → Instr) : Option Instr :=
  (items.find? isDue).map f

/-- A pass timer of context `c` has run out. -/
def State.passDue (s : State) (timer : Pass → Option Nat) (c : Fin 8) : Bool :=
  match s.engine.contexts.get c with
  | some p => decide (timer p = some 0)
  | none => false

/-- The events that are due, each kind in index order. -/
def State.dueEvents (s : State) : List (Option Instr) :=
  [ if s.clock.advanceDue then some .yardClockAdvance else none,
    if s.clock.hourRaised then some .hourRollover else none,
    if s.clock.assessmentRaised.isSome then some .assessment else none,
    if s.clock.dayRaised then some .dayRollover else none,
    if s.horizon.life = some 0 then some .observationLifeExpiry else none,
    firstThat (List.finRange 5) (fun b => decide ((s.water.basins.get b).settle = some 0))
      .settleTimerExpiry,
    firstThat allContexts (s.passDue Pass.primeTimer) .primeTimerExpiry,
    firstThat allContexts (s.passDue Pass.dwellTimer) .bayDwellExpiry,
    firstThat allContexts (s.passDue Pass.limitTimer) .suspensionLimitExpiry,
    firstThat (List.finRange 4) (fun m => decide (s.control.drainTimers.get m = some 0))
      .drainTimerExpiry,
    firstThat allLines (fun i => decide ((s.field.lines.get i).qualify = some 0))
      .qualifyingTimerExpiry,
    firstThat allLines (fun i => decide ((s.field.lines.get i).retake = some 0)) .reTakeTimerExpiry,
    s.store.write.map writeEnd,
    if s.startup.initialising = some 0 then some .initialisationEnd else none,
    s.port.timedOut.map fun code => .transactionTimeout [code] ]

/-- The event that comes next. -/
def State.due (s : State) : Option Instr := s.dueEvents.findSome? id

/-- What the part does while no command waits. A part without its supply, or held in reset, idles. -/
def State.idle (s : State) : State :=
  if s.live then
    match s.due with
    | some c => { s with pending := [c] }
    | none => s.unit.conclude
  else s.conclude

end Sys2Proof.Machine
end

