-- ==== Sys2Proof/WellFormed.lean ====
section
/-! DEFINITION. Which commands are well-formed: the two framing rows carry bytes that really are no command, or
really stop short, and a FILL with no buffer byte carries no data (08 R147). Every other operand takes every
value of its width: values out of range are refused by the part itself (10 R174). -/

namespace Sys2Proof

/-- A framing row stands for what its name says, and a FILL's data follows its buffer byte. -/
def Instr.wellFormed : Instr → Bool
  | .unknownCommand code => !decide (code ∈ Code.all)
  | .fill buffer data => buffer.isSome || data.isEmpty
  | .shortParameterDeselect code params => decide (code ∈ Code.all) && paramsShort code params
  | _ => true

end Sys2Proof
end

