-- ==== Sys2Proof/Safety.lean ====
section
/-! DEFINITION. The conditions that statements about the part are made under, the laws of the device that its
steps keep, and the part of the state that dispatch attempts and pass ends leave alone. -/

namespace Sys2Proof.Machine

/-! ## Conditions of a command -/

/-- The part takes host commands and is not BUSY (08 R151; 09 R171). -/
def State.Accepts (s : State) : Prop := s.live = true ∧ s.busy = false

/-- The select of a read, which fell `held` units of 50 ms before it acts, has lasted no more than 1.5 s: no more
by what the read says, or by what has passed since SEL was last high (08 R149; log 16). -/
def State.SelectInTime (s : State) (held : Nat) : Prop := held ≤ 30 ∨ s.port.deselected.selectLeft ≠ 0

/-- No timer, second or unit has run out: the part's time base has no event to give. -/
def State.NothingDue (s : State) : Prop := s.due = none

/-! ## FILL -/

/-- A FILL may write the field into a buffer with this base (08 R157 test 5). -/
def FieldSpec.writable (f : FieldSpec) (base : Option Word16) : Bool :=
  match f.access with
  | .host => true
  | .part => false
  | .creation => base.isNone

/-- A pair passes the tests of its field: writable, and the value in the field's own range. -/
def FieldSpec.takes (f : FieldSpec) (base : Option Word16) (value : Nat) : Prop :=
  f.writable base = true ∧ f.range.holds value = true

/-! ## What attempts and pass ends leave alone -/

/-- The parts of the state that no dispatch attempt and no pass end changes. -/
structure Frame where
  pending : List Instr
  port : Port
  staging : Table 2 (Option Staged)
  geometry : Geometry
  clock : Clock
  horizon : Horizon
  grades : Table 8 Grade
  model : Model
  blocked : Table 24 Bool
  gust : Option Nat
  gustLine : Bool
  lines : Lines
  log : List OutputChange
  mode : YardMode
  drainTimers : Table 4 (Option Nat)
  yardRevision : Word16
  enables : Table 9 Bool
  urgentMode : UrgentMode
  urgentThreshold : Nat
  store : Store
  startup : Startup
deriving DecidableEq

/-- The frame of a state. -/
def State.frame (s : State) : Frame :=
  { pending := s.pending, port := s.port, staging := s.staging, geometry := s.geometry,
    clock := s.clock, horizon := s.horizon, grades := s.watch.grades, model := s.watch.model,
    blocked := s.engine.blocked, gust := s.engine.gust, gustLine := s.engine.gustLine,
    lines := s.field.lines, log := s.field.log, mode := s.control.mode,
    drainTimers := s.control.drainTimers, yardRevision := s.control.revision,
    enables := s.notices.enables, urgentMode := s.notices.urgentMode,
    urgentThreshold := s.notices.urgentThreshold, store := s.store, startup := s.startup }

/-! ## Laws of the device -/

/-- The output pins show what they follow (07 R138, 09 R165). -/
def State.PinsFollow (s : State) : Prop := s.field.pins = s.pinsFollowed

/-- No dispatch attempt is left unmade (06 R110). -/
def State.NoneAsked (s : State) : Prop := ∀ m, s.engine.asked.get m = false

/-- At most 16 orders, at most one for each pile, each with a part (05 R89, R90). -/
def State.QueueLaw (s : State) : Prop :=
  s.queue.length ≤ 16 ∧ (s.queue.map (·.pile)).Nodup
    ∧ ∀ o ∈ s.queue, o.watch.isSome = true ∨ o.operator.isSome = true

/-- No pass is live. -/
def State.NoPass (s : State) : Prop := ∀ c, s.engine.contexts.get c = none

/-- What each yard mode allows (07 R139, R143; 05 R90): no live pass outside ACTIVE; in DRAINING and DRAINED
every main DRAINING or DRAINED and an empty queue; a drain timer runs for each DRAINING main and no
other. -/
def State.ModeLaw (s : State) : Prop :=
  match s.control.mode with
  | .active => (∀ m, s.control.drainTimers.get m = none)
      ∧ ∀ m, (s.engine.mains.get m).state ≠ .draining ∧ (s.engine.mains.get m).state ≠ .drained
  | .held => s.NoPass ∧ (∀ m, s.control.drainTimers.get m = none)
      ∧ ∀ m, (s.engine.mains.get m).state ≠ .draining ∧ (s.engine.mains.get m).state ≠ .drained
  | .draining => s.NoPass ∧ s.queue = []
      ∧ ∀ m, ((s.engine.mains.get m).state = .draining ∧ (s.control.drainTimers.get m).isSome = true)
        ∨ ((s.engine.mains.get m).state = .drained ∧ s.control.drainTimers.get m = none)
  | .drained => s.NoPass ∧ s.queue = []
      ∧ ∀ m, (s.engine.mains.get m).state = .drained ∧ s.control.drainTimers.get m = none

/-- A fixed exclusion is present exactly where the Nonvolatile Store holds an entry, with its window
(01 R18, R19). -/
def State.FixedLaw (s : State) : Prop :=
  ∀ i, match s.store.entries.get i with
    | some n => ∃ e, s.geometry.exclusions.get i = some e ∧ e.fixed = true ∧ e.bed = n.bed
        ∧ e.start = n.start ∧ e.length = n.length
    | none => s.geometry.isFixed i = false

/-- No entry is being written once the closed flag is set (01 R18, R20). -/
def State.ClosedLaw (s : State) : Prop :=
  s.store.closed = true → ∀ i, s.store.write ≠ some (.fix i)

/-- The clock's value is a time of day, and an UNSET clock holds day 0, second 0 (02 R22). -/
def State.ClockLaw (s : State) : Prop :=
  s.clock.day < 65536 ∧ s.clock.second < 86400
    ∧ (s.clock.state = .unset → s.clock.day = 0 ∧ s.clock.second = 0 ∧ s.clock.hourRaised = false)

/-- A slot stands at its hour's position, within 35 hours of the current hour unless the rollover of that
hour has still to be taken, and none stands while the clock is UNSET (02 R28). -/
def State.HorizonLaw (s : State) : Prop :=
  s.ClockLaw ∧ ∀ k x, s.horizon.slots.get k = some x →
    slotPosition x.hour = k ∧ s.clock.state ≠ .unset
      ∧ (s.clock.hourRaised = false → s.clock.hour ≤ x.hour ∧ x.hour ≤ s.clock.hour + 35)

/-- No two present piles on one bed share a bay (01 R1). -/
def Geometry.Disjoint (g : Geometry) : Prop :=
  ∀ i j p q, i ≠ j → g.piles.get i = some p → g.piles.get j = some q → p.bed = q.bed →
    windowsMeet p.start p.length q.start q.length = false

/-- Every present window lies within its bed's Length (01 R1). -/
def Geometry.Extents (g : Geometry) : Prop :=
  (∀ i p, g.piles.get i = some p → p.start + p.length ≤ (g.beds.get p.bed).length)
    ∧ (∀ i c, g.cannons.get i = some c → c.reachStart + c.reachLength ≤ (g.beds.get c.bed).length)
    ∧ ∀ i e, g.exclusions.get i = some e → e.start + e.length ≤ (g.beds.get e.bed).length

/-- Every present pile is covered by some present cannon (01 R1). -/
def Geometry.Covered (g : Geometry) : Prop :=
  ∀ i p, g.piles.get i = some p → ∃ k c, g.cannons.get k = some c ∧ c.coversPile p = true

/-- Each bed's window index lists exactly the present piles on the bed, once each, in ascending Start bay
(01 R6). -/
def Geometry.Indexed (g : Geometry) : Prop :=
  (∀ b i, i ∈ g.index.get b ↔ ∃ p, g.piles.get i = some p ∧ p.bed = b)
    ∧ ∀ b, (g.index.get b).Nodup
      ∧ (g.index.get b).Pairwise fun i j =>
          ∀ p q, g.piles.get i = some p → g.piles.get j = some q → p.start ≤ q.start

/-- No bed is longer than 160 bays, live, staged or in the entries that a reset brings back (01 R2,
R19). -/
def State.LengthLaw (s : State) : Prop :=
  (∀ b, (s.geometry.beds.get b).length ≤ 160)
    ∧ (∀ k x, s.staging.get k = some x → x.cls = .bed → fieldValue x.values 1 ≤ 160)
    ∧ ∀ i n, s.store.entries.get i = some n → n.start + n.length ≤ 160

/-- The three placement laws (01 R1), the window indexes (01 R6), and the bounds on lengths that keep the laws
through a reset. -/
def State.PlacementLaw (s : State) : Prop :=
  s.geometry.Disjoint ∧ s.geometry.Extents ∧ s.geometry.Covered ∧ s.geometry.Indexed ∧ s.LengthLaw

/-- A sweep-due pile has Urgency NEED or MUST, and an escalated pile MUST (03 R54). -/
def State.UrgencyLaw (s : State) : Prop :=
  ∀ i, let l := s.watch.living.get i
    (l.escalated = true → l.urgency = .must)
      ∧ (l.sweepDue = true → l.urgency = .need ∨ l.urgency = .must)

/-- How many piles are at MUST; an absent pile's living part is at NONE. -/
def State.pilesAtMust (s : State) : Nat :=
  ((List.finRange 48).filter fun i => decide ((s.watch.living.get i).urgency = .must)).length

/-- The MUST count is the number of present piles whose Urgency is MUST (03 R56). -/
def State.MustLaw (s : State) : Prop :=
  s.watch.mustCount = s.pilesAtMust
    ∧ ∀ i, s.geometry.piles.get i = none → (s.watch.living.get i).urgency = .none

/-- Each main shows what its State allows (06 R107): a PRIMING or RUNNING main serves one pass, in that
state, on that pass's source; an OPEN main holds a source and serves none; any other holds neither. A
PRIMING or RUNNING pass is the one its main serves, and only a PRIMING pass has a prime timer running. -/
def State.MainLaw (s : State) : Prop :=
  (∀ m, let x := s.engine.mains.get m
    match x.state with
    | .priming => ∃ c p, x.context = some c ∧ s.engine.contexts.get c = some p
        ∧ p.state = .priming ∧ p.main = m ∧ x.openSource = some p.source
    | .running => ∃ c p, x.context = some c ∧ s.engine.contexts.get c = some p
        ∧ p.state = .running ∧ p.main = m ∧ x.openSource = some p.source
    | .opened => x.openSource.isSome = true ∧ x.context = none
    | _ => x.openSource = none ∧ x.context = none)
  ∧ (∀ c p, s.engine.contexts.get c = some p → p.state ≠ .suspended →
      (s.engine.mains.get p.main).context = some c
        ∧ ((s.engine.mains.get p.main).state = .priming
          ∨ (s.engine.mains.get p.main).state = .running))
  ∧ ∀ c p, s.engine.contexts.get c = some p → p.primeTimer.isSome = true → p.state = .priming

/-- Each live pass is on a present pile that it alone engages, and an engaged pile has a live pass and no
order (03 R44, 05 R90). -/
def State.EngagedLaw (s : State) : Prop :=
  (∀ c p, s.engine.contexts.get c = some p →
      (s.geometry.piles.get p.pile).isSome = true ∧ (s.watch.living.get p.pile).engaged = true)
    ∧ (∀ c d p q, s.engine.contexts.get c = some p → s.engine.contexts.get d = some q →
      p.pile = q.pile → c = d)
    ∧ (∀ i, (s.watch.living.get i).engaged = true →
      ∃ c p, s.engine.contexts.get c = some p ∧ p.pile = i)
    ∧ ∀ i, (s.watch.living.get i).engaged = true → s.hasOrder i = false

/-- The volume that the live passes drawing from a source still hold of it (04 R70). -/
def State.heldAt (s : State) (x : Fin 6) : Nat :=
  ((List.finRange 8).map fun c =>
    match s.engine.contexts.get c with
    | some p => if p.source = x then p.planned - p.deducted else 0
    | none => 0).sum

/-- A source's Reserved. -/
def Water.reserved (w : Water) (x : Fin 6) : Nat :=
  match asBasin x with
  | some b => (w.basins.get b).reserved
  | none => w.fresh.reserved

/-- For every source, Reserved is what its live passes hold, and no pass has been charged more than it has
delivered (04 R70, R71). -/
def State.ReservedLaw (s : State) : Prop :=
  (∀ x, s.water.reserved x = s.heldAt x)
    ∧ ∀ c p, s.engine.contexts.get c = some p → p.deducted ≤ p.delivered

/-- A basin holds no more than its Capacity; one that is not low holds its floor and what is reserved; one that
is low or isolated holds no reservation (04 R69, R70). -/
def Basin.Law (b : Basin) : Prop :=
  b.level ≤ b.capacity ∧ (b.low = false → b.floor + b.reserved ≤ b.level)
    ∧ (b.low = true ∨ b.isolated = true → b.reserved = 0)

/-- A live pass has a bay in progress, and its Planned VU covers the bays done and the bays that remain
(06 R113, R114). -/
def Pass.PlanLaw (p : Pass) : Prop :=
  p.rest ≠ [] ∧ planVolume (p.baysDone + p.remaining) p.dwell p.flow ≤ p.planned

/-- Every cannon, live or staged, has at least one repeat (01 R10). -/
def State.RepeatLaw (s : State) : Prop :=
  (∀ i c, s.geometry.cannons.get i = some c → 1 ≤ c.repeats)
    ∧ ∀ k x, s.staging.get k = some x → x.cls = .cannon → 1 ≤ fieldValue x.values 8

/-- The laws of the sources (04 R69, R71, R88), with the bounds on plans that keep them. -/
def State.WaterLaw (s : State) : Prop :=
  s.ReservedLaw ∧ (∀ b, (s.water.basins.get b).Law)
    ∧ s.water.fresh.used + s.water.fresh.reserved ≤ s.water.fresh.today
    ∧ (∀ c p, s.engine.contexts.get c = some p → p.PlanLaw) ∧ s.RepeatLaw

/-- No bay that a live pass has still to wet lies inside a present exclusion (06 R130). -/
def State.ExclusionLaw (s : State) : Prop :=
  ∀ c p x, s.engine.contexts.get c = some p → s.geometry.piles.get p.pile = some x →
    (∀ b ∈ p.rest, s.geometry.excluded x.bed b = false)
      ∧ (p.cursorRepeat + 1 < p.repeats → ∀ b ∈ p.bays, s.geometry.excluded x.bed b = false)

end Sys2Proof.Machine
end

