-- ==== Sys2Proof/Certificates/Slice0/Obligations.lean ====
section
/-! DEFINITION. The statements for the provers. `State.commandEnd` and `State.eventEnd` are what the part adds at the
end of a command and of an event; EndOfACommand says what that is. A clause that rests on a choice of the
model names its log entry. -/

open Sys2Proof Sys2Proof.Machine

/-! ## Steps and time -/

/-- A step takes the front command whole (08 section 8.2), and every command, in every state, ends in a
next state: the part has no stop. -/
def Obligations.StepRunsTheFrontCommand : Prop :=
  (∀ (c : Instr) (rest : List Instr) (s : State),
      step { s with pending := c :: rest } = exec c { s with pending := rest })
    ∧ ∀ (c : Instr) (s : State), ∃ t, exec c s = .next t

/-- Log 2 (the model's choice): on an empty queue a part in service raises the event that is due, or lets one unit
of 50 ms pass, or, without supply or in reset, idles. 07 R134, R137; 09 R171: a unit takes one from every line's
qualifying and re-take count and from the count of the initialisation, and moves the phase of the seconds base on
(log 2). 06 R118, R119: the unit that completes a second adds 1 to the Running seconds and the cursor's seconds of
a RUNNING pass and of no other, and takes one from every running seconds count; a unit that completes none leaves
all of these alone. A count that shows 0 waits there for its event (log 3). 02 R23, R26: a RUNNING clock counts
twenty units from CLOCK RUN, or from its last advance, and then owes an advance. 08 R149: with each unit the select
has one unit less of its 1.5 s; once none is left of a read that goes on, its timeout is the next event that is
due, after those of log 5 that come before it. An event is due exactly where a pass, settle, drain, life,
qualifying, re-take or initialisation count shows 0, a mark of the clock is set or an advance is owed (log 4), a
nonvolatile write is in progress (log 24), or a read has timed out, and the event that is raised is one whose own
condition holds (logs 3, 5). Where SEL fell, and a timeout of a transaction that has not acted, are the model's as
logs 1, 16 and 28 say. -/
def Obligations.EmptyQueueLetsTimePass : Prop :=
  (∀ s : State, s.pending = [] →
      (s.live = false → step s = .next s.conclude)
        ∧ (∀ c, s.live = true → s.due = some c → step s = .next { s with pending := [c] })
        ∧ (s.live = true → s.due = none → step s = .next s.unit.conclude))
    ∧ (∀ s : State, s.pending = [] → s.live = true → s.due = none → s.startup.phase % 20 = 19 →
      ∃ t, step s = .next t
        ∧ (∀ c p, s.engine.contexts.get c = some p →
            ∃ q, t.engine.contexts.get c = some q
              ∧ q = { p with
                  runningSeconds := q.runningSeconds, cursorSeconds := q.cursorSeconds,
                  primeTimer := p.primeTimer.map (· - 1), dwellTimer := p.dwellTimer.map (· - 1),
                  limitTimer := p.limitTimer.map (· - 1) }
              ∧ q.runningSeconds = p.runningSeconds + (if p.state = .running then 1 else 0)
              ∧ q.cursorSeconds = p.cursorSeconds + (if p.state = .running then 1 else 0))
        ∧ (∀ c, s.engine.contexts.get c = none → t.engine.contexts.get c = none)
        ∧ (∀ b, t.water.basins.get b =
            { s.water.basins.get b with settle := (s.water.basins.get b).settle.map (· - 1) })
        ∧ (∀ m, t.control.drainTimers.get m = (s.control.drainTimers.get m).map (· - 1))
        ∧ t.horizon = { s.horizon with life := s.horizon.life.map (· - 1) }
        ∧ t.watch = s.watch ∧ t.queue = s.queue ∧ t.notices = s.notices ∧ t.geometry = s.geometry
        ∧ t.engine.mains = s.engine.mains ∧ t.port = s.port.tick.streamed s.statusRecord
        ∧ t.staging = s.staging)
    ∧ (∀ s : State, s.pending = [] → s.live = true → s.due = none →
      ∃ t, step s = .next t
        ∧ (s.clock.state = .running → s.clock.fraction < 19 →
            t.clock = { s.clock with fraction := s.clock.fraction + 1 })
        ∧ (s.clock.state = .running → 19 ≤ s.clock.fraction →
            t.clock = { s.clock with fraction := 0, advanceDue := true })
        ∧ (s.clock.state ≠ .running → t.clock = s.clock)
        ∧ t.port = s.port.tick.streamed s.statusRecord
        ∧ (∀ i, t.field.lines.get i = { s.field.lines.get i with
            qualify := (s.field.lines.get i).qualify.map (· - 1)
            retake := (s.field.lines.get i).retake.map (· - 1) })
        ∧ t.startup = { s.startup with
            initialising := s.startup.initialising.map (· - 1), phase := (s.startup.phase + 1) % 20 }
        ∧ (s.startup.phase % 20 ≠ 19 → t = ({ s with
            port := s.port.tick, clock := t.clock, startup := t.startup
            field := { s.field with lines := t.field.lines } } : State).conclude))
    ∧ (∀ p : Port, p.tick = { p with selectLeft := p.selectLeft - 1 })
    ∧ (∀ (s u : State) (code : Byte),
      ((∃ answer streams later, s.port.transaction = .reading code answer streams later)
        ∨ code = Code.status ∧ ∃ sample later, s.port.transaction = .streaming sample later) →
      u = { s with port := { s.port with transaction := .idle } } →
      (s.port.selectLeft = 0 → u.due = none → s.due = some (.transactionTimeout [code]))
      ∧ (s.port.selectLeft = 0 → ∀ c, u.due = some c → s.due = some c)
      ∧ (s.port.selectLeft ≠ 0 → s.due = u.due))
    ∧ (∀ (s : State) (received : List Byte),
      (s.port.transaction = .idle ∨ s.port.transaction = .abandoned) →
      s.due ≠ some (.transactionTimeout received))
    ∧ (∀ s : State, s.due = none ↔
      (s.clock.advanceDue = false ∧ s.clock.hourRaised = false ∧ s.clock.assessmentRaised = none
        ∧ s.clock.dayRaised = false ∧ s.horizon.life ≠ some 0)
      ∧ (∀ b, (s.water.basins.get b).settle ≠ some 0)
      ∧ (∀ c p, s.engine.contexts.get c = some p →
          p.primeTimer ≠ some 0 ∧ p.dwellTimer ≠ some 0 ∧ p.limitTimer ≠ some 0)
      ∧ (∀ m, s.control.drainTimers.get m ≠ some 0)
      ∧ (∀ i, (s.field.lines.get i).qualify ≠ some 0 ∧ (s.field.lines.get i).retake ≠ some 0)
      ∧ s.store.write = none ∧ s.startup.initialising ≠ some 0
      ∧ (s.port.selectLeft = 0 → s.port.transaction = .idle ∨ s.port.transaction = .abandoned))
    ∧ ∀ (s : State) (c : Instr), s.due = some c →
      match c with
      | .yardClockAdvance => s.clock.advanceDue = true
      | .hourRollover => s.clock.hourRaised = true
      | .assessment => s.clock.assessmentRaised.isSome = true
      | .dayRollover => s.clock.dayRaised = true
      | .observationLifeExpiry => s.horizon.life = some 0
      | .settleTimerExpiry b => (s.water.basins.get b).settle = some 0
      | .primeTimerExpiry k => ∃ p, s.engine.contexts.get k = some p ∧ p.primeTimer = some 0
      | .bayDwellExpiry k => ∃ p, s.engine.contexts.get k = some p ∧ p.dwellTimer = some 0
      | .suspensionLimitExpiry k => ∃ p, s.engine.contexts.get k = some p ∧ p.limitTimer = some 0
      | .drainTimerExpiry m => s.control.drainTimers.get m = some 0
      | .qualifyingTimerExpiry i => (s.field.lines.get i).qualify = some 0
      | .reTakeTimerExpiry i => (s.field.lines.get i).retake = some 0
      | .fixWriteEnd => ∃ i, s.store.write = some (.fix i)
      | .closeWriteEnd => s.store.write = some .close
      | .tagWriteEnd => ∃ bytes, s.store.write = some (.tag bytes)
      | .initialisationEnd => s.startup.initialising = some 0
      | .transactionTimeout _ => s.port.selectLeft = 0
          ∧ s.port.transaction ≠ .idle ∧ s.port.transaction ≠ .abandoned
      | _ => False

/-- 08 R148, R150; 06 R107, R110; 07 R138: the end of a command makes its attempts, ends the transaction (and a
read before it that was still going on, log 16), writes the triple where the command has an answer, and brings the
pins to the state; the end of an event makes its attempts and brings the pins to the state (a read that goes on
streams, log 16). With the end of a transaction the next select has its whole 1.5 s (08 R149; log 16). What the
list of the step's output changes holds at either end, and that the part of it still being made is then empty, is
the model's choice (log 23: 07 R138 orders one main's changes, and neither those of different mains nor ATTN). With
no attempt asked for they do nothing else. The attempts of an event are attempts on mains asked for, one after
another, until none is asked for; in which order is free (log 6). Outside ACTIVE they only use up the marks that
asked for them; and in every mode they leave the `Frame` of the state alone. -/
def Obligations.EndOfACommand : Prop :=
  (∀ (s : State) (code : Byte) (r : Result) (i : Byte), s.NoneAsked →
      s.commandEnd code (some (r, i)) =
        { s with
          port := { s.port with
            command := code, result := r, index := i, dataOut := [], transaction := .idle, selectLeft := 30 }
          field := { s.field with
            pins := s.pinsFollowed, log := s.field.made ++ pinChanges s.field.pins s.pinsFollowed
            made := [] } })
    ∧ (∀ (s u : State) (code : Byte) (a : Answer), u = s.runAttempts none →
      s.commandEnd code a =
        { u with
          port := { u.port with
            command := match a with | some _ => code | none => u.port.deselected.command
            result := match a with | some (r, _) => r | none => u.port.deselected.result
            index := match a with | some (_, i) => i | none => u.port.deselected.index
            dataOut := [], transaction := .idle, selectLeft := 30 }
          field := { u.field with
            pins := u.pinsFollowed, log := u.field.made ++ pinChanges u.field.pins u.pinsFollowed
            made := [] } }
      ∧ s.eventEnd =
        { u with
          port := u.port.streamed u.statusRecord
          field := { u.field with
            pins := u.pinsFollowed, log := u.field.made ++ pinChanges u.field.pins u.pinsFollowed
            made := [] } })
    ∧ (∀ (s : State) (e : Option (Fin 5)), s.NoneAsked → s.runAttempts e = s)
    ∧ (∀ (s : State) (e : Option (Fin 5)), ∃ (mains : List (Fin 4)) (next : State → Fin 4 → State),
      (∀ t m, next t m = ({ t with
        engine := { t.engine with
          asked := t.engine.asked.put m false, turns := t.engine.turns.tail } } : State).attempt e m)
      ∧ s.runAttempts e = mains.foldl next s
      ∧ (∀ before m after, mains = before ++ m :: after →
          (before.foldl next s).engine.asked.get m = true)
      ∧ (s.runAttempts e).NoneAsked)
    ∧ (∀ (s : State) (e : Option (Fin 5)), s.control.mode ≠ .active →
      ∃ turns, s.runAttempts e =
        { s with engine := { s.engine with asked := Table.fill 4 false, turns } })
    ∧ ∀ (s : State) (e : Option (Fin 5)), (s.runAttempts e).frame = s.frame

/-! ## Record Port -/

/-- 08 R151: at a BUSY port each host command but STATUS writes its code, BUSY and its index into the triple,
answers zero bytes, and does nothing else (log 13 for the index of COMMIT, MATCH, FILL, LOCATE and FORECAST; log 15
for a FILL with no buffer byte, which is refused BUSY as any other). A read whose select has lasted more than 1.5 s
was abandoned before (08 R149; FramingAndTimeout). A read refused so may go on over events, with what is left of
the 1.5 s of its select, and its deselect writes nothing (08 R149; log 16). Logs 11, 12 (the model's choice):
without its supply or with RSTN low the part takes nothing but the supply, RSTN and the levels at its pins, of
which a change moves the pin and nothing else. -/
def Obligations.BusyOrDeadPart : Prop :=
  (∀ (s : State) (a b c d : Byte) (u v w : Word16) (h : Word24) (data : List Byte)
      (held n : Nat), s.live = true → s.busy = true → s.SelectInTime held →
      ∀ x ∈ ([ (.look a b ⟨held, [n]⟩, Code.look, b, n), (.locate a b ⟨held, [n]⟩, Code.locate, a, n),
          (.notices ⟨held, [n]⟩, Code.notices, 0, n), (.ident ⟨held, [n]⟩, Code.ident, 0, n),
          (.stage a b c, Code.stage, c, 0), (.fill (some a) data, Code.fill, 0, 0), (.fill none [], Code.fill, 0, 0),
          (.matchBuffer a, Code.matchBuffer, s.bufferIndex a, 0),
          (.commit a, Code.commit, s.bufferIndex a, 0), (.retire a b, Code.retire, b, 0),
          (.clockHold, Code.clock, 0, 0), (.clockSet v h, Code.clock, 0, 0), (.clockRun, Code.clock, 0, 0),
          (.forecast h u a v w b c d, Code.forecast, BitVec.ofNat 8 (h.toNat % 36), 0),
          (.observe v w a b, Code.observe, 0, 0), (.order a b c, Code.order, a, 0),
          (.withdraw a, Code.withdraw, a, 0), (.inflow a v b, Code.inflow, a, 0),
          (.gauge a v b, Code.gauge, a, 0), (.isolate a, Code.isolate, a, 0),
          (.restore a, Code.restore, a, 0), (.clear a, Code.clear, a, 0), (.hold, Code.hold, 0, 0),
          (.drain, Code.drain, 0, 0), (.resume, Code.resume, 0, 0),
          (.acknowledge v, Code.acknowledge, 0, 0), (.fix a, Code.fix, a, 0), (.close, Code.close, 0, 0),
          (.tag data, Code.tag, 0, 0), (.reset, Code.reset, 0, 0)] : List (Instr × Byte × Byte × Nat)),
        exec x.1 s = .next ({ s with
          port := { s.port with
            command := x.2.1, result := .busy, index := x.2.2.1, dataOut := zeroBytes x.2.2.2,
            transaction := .idle, selectLeft := 30 } } : State).conclude)
    ∧ (∀ (s : State) (a b : Byte) (clocked : Clocking), s.live = true → s.busy = true →
      s.SelectInTime clocked.held →
      ∀ x ∈ ([ (.look a b clocked, Code.look, b), (.locate a b clocked, Code.locate, a),
          (.notices clocked, Code.notices, 0), (.ident clocked, Code.ident, 0)] : List (Instr × Byte × Byte)),
        exec x.1 s = .next ({ s with
          port := { s.port with
            command := x.2.1, result := .busy, index := x.2.2, dataOut := []
            transaction := .reading x.2.1 none false clocked.counts
            selectLeft := max s.port.deselected.selectLeft (30 - clocked.held) } } : State).conclude)
    ∧ (∀ (c : Instr) (s : State), s.live = false → c ≠ .powerOn → c ≠ .powerLoss → c ≠ .resetLine →
      c ≠ .resetLineRelease → (∀ i h, c ≠ .rawLineChange i h) → exec c s = .next s.conclude)
    ∧ ∀ (s : State) (i : Line) (high : Bool), s.live = false →
      exec (.rawLineChange i high) s = .next ({ s with
        field := { s.field with
          lines := s.field.lines.put i { s.field.lines.get i with raw := high } } } : State).conclude

/-- 08 R148, R150, R152, R153; 09 R167, R169; 10, sections 10.4 and 10.6; log 16 for what is clocked between
events, log 10 for the two free constants of IDENT: the replies of STATUS, NOTICES and IDENT, which change nothing
but the port. The bytes of a STATUS that are clocked before the first event all show the record of the moment;
after each step that follows, the bytes clocked next go on with the rest of the repeat in progress, unchanged, and
then with repeats of the record of that step's end. Any other read that has acted goes on, step after step, with
its latch, wrapped, or with zero bytes where it was refused, and its deselect, after the last bytes or where
another transaction begins, writes the triple. A read that goes on has what is left of 1.5 s, thirty units of 50
ms, from the fall of SEL, which came `held` units before it acts but not before SEL was last high (08 R149; log
16); one whose SEL has by then been low for more than that was abandoned before it could act (FramingAndTimeout).
-/
def Obligations.RepliesOfTheReadCommands : Prop :=
  (∀ (s u : State) (held n : Nat), s.live = true → s.SelectInTime held →
      u = { s with port := s.port.deselected } →
      ∃ b0 : Byte,
        b0.toNat = (if s.busy then 128 else 0) + 32 * s.control.mode.code + 8 * s.clock.state.code
            + (if ∃ k, s.notices.pending.get k = true ∧ s.notices.enables.get k = true then 4 else 0)
        ∧ u.statusRecord = [b0, u.port.command, u.port.result.code, u.port.index]
        ∧ exec (.status ⟨held, [n]⟩) s = .next ({ s with
            port := { u.port with
              dataOut := (List.range n).map fun k =>
                [b0, u.port.command, u.port.result.code, u.port.index].getD (k % 4) 0
              transaction := .idle, selectLeft := 30 } } : State).conclude)
    ∧ (∀ (s u : State) (held n : Nat) (later : List Nat), s.live = true → s.SelectInTime held →
      u = { s with port := s.port.deselected } → later ≠ [] →
      ∃ t, exec (.status ⟨held, n :: later⟩) s = .next t
        ∧ t.frame = { s.frame with port := t.port, log := t.field.log } ∧ t.watch = s.watch
        ∧ t.queue = s.queue ∧ t.engine = s.engine ∧ t.water = s.water ∧ t.notices = s.notices
        ∧ t.port = { u.port with
            dataOut := (List.range n).map fun k => u.statusRecord.getD (k % 4) 0
            transaction := .streaming (u.statusRecord.drop (if n % 4 = 0 then 4 else n % 4)) later
            selectLeft := max u.port.selectLeft (30 - held) })
    ∧ (∀ (s : State) (sample : List Byte) (n : Nat) (later : List Nat),
      s.port.transaction = .streaming sample (n :: later) →
      ∃ out rest : List Byte,
        s.conclude.port = { s.port with
          dataOut := s.port.dataOut ++ out
          transaction := if later = [] then .idle else .streaming rest later
          selectLeft := if later = [] then 30 else s.port.selectLeft }
        ∧ out.length = n
        ∧ (∀ k, k < n → k < sample.length → out[k]? = sample[k]?)
        ∧ (∀ k, k < n → sample.length ≤ k →
            out[k]? = s.statusRecord[(k - sample.length) % 4]?)
        ∧ (n ≤ sample.length → rest = sample.drop n)
        ∧ (sample.length < n → ∀ k, (n - sample.length) % 4 = k →
            (k = 0 → rest = []) ∧ (k ≠ 0 → rest = s.statusRecord.drop k)))
    ∧ (∀ (s : State) (code : Byte) (answer : Answer) (streams : Bool) (n : Nat) (later : List Nat)
      (q : Port),
      s.port.transaction = .reading code answer streams (n :: later) →
      q = { s.port with
        dataOut := s.port.dataOut ++ (List.range n).map fun k =>
          if streams then s.port.latch.getD ((s.port.dataOut.length + k) % s.port.latch.length) 0 else 0
        transaction := .reading code answer streams later } →
      (later ≠ [] → s.conclude.port = q)
      ∧ (later = [] → s.conclude.port = q.deselected))
    ∧ (∀ (s : State) (code : Byte) (answer : Answer) (streams : Bool) (sample : List Byte),
      (s.port.transaction = .reading code answer streams [] ∨ s.port.transaction = .streaming sample []) →
      s.conclude.port = s.port.deselected)
    ∧ (∀ p : Port,
      (∀ code result index streams later,
        p.transaction = .reading code (some (result, index)) streams later →
        p.deselected =
          { p with command := code, result, index, transaction := .idle, selectLeft := 30 })
      ∧ (((∃ code streams later, p.transaction = .reading code none streams later)
          ∨ ∃ sample later, p.transaction = .streaming sample later) →
        p.deselected = { p with transaction := .idle, selectLeft := 30 })
      ∧ (p.transaction = .idle ∨ p.transaction = .abandoned →
        p.deselected = { p with transaction := .idle }))
    ∧ ∀ (s : State) (held n : Nat) (clocked : Clocking), s.Accepts → s.SelectInTime held →
      s.SelectInTime clocked.held →
      (∃ p1 p0 : Byte, ∀ reply,
        reply = p1 :: p0 :: (if s.notices.allFaulted then 1 else 0)
          :: ((List.finRange 9).map fun k => BitVec.ofNat 8 (s.notices.subjects.get k))
          ++ [BitVec.ofNat 8 s.watch.mustCount] →
        (∀ k : Fin 9, (p1 ++ p0).getLsbD k.val = s.notices.pending.get k)
        ∧ (p1 ++ p0).toNat < 512
        ∧ exec (.notices ⟨held, [n]⟩) s = .next ({ s with
            port :=
              { command := Code.notices, result := .done, index := 0, latch := reply,
                dataOut := stream reply n, transaction := .idle, selectLeft := 30 } } : State).conclude
        ∧ exec (.notices clocked) s = .next ({ s with
            port := { s.port.deselected with
              latch := reply, dataOut := []
              transaction := .reading Code.notices (some (.done, 0)) true clocked.counts
              selectLeft := max s.port.deselected.selectLeft (30 - clocked.held) } } : State).conclude)
      ∧ ∃ unit : List Byte, unit = bytesOf 8 s.store.unitNumber.toNat ∧ ∀ reply,
        reply = 0x59 :: 0x18 :: BitVec.ofNat 8 (65 + Config.revisionLetter.val) :: unit
          ++ [if s.store.closed then 1 else 0,
              BitVec.ofNat 8 ((List.finRange 16).filter s.geometry.isFixed).length,
              if s.store.tag.isSome then 1 else 0]
          ++ s.store.tag.getD (List.replicate 16 0) →
        exec (.ident ⟨held, [n]⟩) s = .next ({ s with
          port :=
            { command := Code.ident, result := .done, index := 0, latch := reply,
              dataOut := stream reply n, transaction := .idle, selectLeft := 30 } } : State).conclude
        ∧ exec (.ident clocked) s = .next ({ s with
          port := { s.port.deselected with
            latch := reply, dataOut := []
            transaction := .reading Code.ident (some (.done, 0)) true clocked.counts
            selectLeft := max s.port.deselected.selectLeft (30 - clocked.held) } } : State).conclude

/-- 08 R153, R154: LOOK of a class and an index in range copies the record, or the absent marker, into the latch,
streams it with wrap and writes the triple; an unknown class or an index out of range is refused and leaves the
latch. Where the LOOK goes on over events the copy stays as it was made, the triple is written at its deselect, and
its 1.5 s count from the fall of SEL (08 R149; log 16; RepliesOfTheReadCommands); one whose select has outlasted
them before it acts is abandoned (FramingAndTimeout). 10, section 10.5: the bytes of the copy, class by class
(ORDER in LookReadsTheQueue); log 20 for the Machine state of BED, log 18 for the Flow that the Delivered VU of
PASS is worked out with. -/
def Obligations.LookCopiesARecord : Prop :=
  (∀ (s : State) (cls index : Byte) (held n : Nat) (clocked : Clocking), s.Accepts →
      s.SelectInTime held → s.SelectInTime clocked.held →
      (∀ k, classOf cls = some k → index.toNat < k.size →
        ∀ (reply : List Byte) (result : Result), reply = (s.copy k index.toNat).getD [0xEE] →
        result = (if (s.copy k index.toNat).isSome then .done else .absent) →
        exec (.look cls index ⟨held, [n]⟩) s = .next ({ s with
          port :=
            { command := Code.look, result, index, latch := reply
              dataOut := (List.range n).map fun j => reply.getD (j % reply.length) 0
              transaction := .idle, selectLeft := 30 } } : State).conclude
        ∧ exec (.look cls index clocked) s = .next ({ s with
          port := { s.port.deselected with
            latch := reply, dataOut := []
            transaction := .reading Code.look (some (result, index)) true clocked.counts
            selectLeft := max s.port.deselected.selectLeft (30 - clocked.held) } } : State).conclude)
      ∧ ((classOf cls = none ∨ ∃ k, classOf cls = some k ∧ k.size ≤ index.toNat) →
        ∀ shown : Byte, shown = (if classOf cls = none then 0 else index) →
        exec (.look cls index ⟨held, [n]⟩) s = .next ({ s with
          port := { s.port with
            command := Code.look, result := .range, index := shown
            dataOut := zeroBytes n, transaction := .idle, selectLeft := 30 } } : State).conclude
        ∧ exec (.look cls index clocked) s = .next ({ s with
          port := { s.port.deselected with
            dataOut := []
            transaction := .reading Code.look (some (.range, shown)) false clocked.counts
            selectLeft := max s.port.deselected.selectLeft (30 - clocked.held) } } : State).conclude))
    ∧ ∀ (s : State) (b1 b2 b3 b4 : Nat → List Byte) (flag : Bool → List Byte),
      (b1 = fun v => [BitVec.ofNat 8 v]) →
      (b2 = fun v => [BitVec.ofNat 8 (v / 256), BitVec.ofNat 8 v]) →
      (b3 = fun v => [BitVec.ofNat 8 (v / 65536), BitVec.ofNat 8 (v / 256), BitVec.ofNat 8 v]) →
      (b4 = fun v => [BitVec.ofNat 8 (v / 16777216), BitVec.ofNat 8 (v / 65536), BitVec.ofNat 8 (v / 256),
        BitVec.ofNat 8 v]) →
      (flag = fun b => if b then [1] else [0]) →
      (∀ (i : Fin 8) x, x = s.geometry.beds.get i → s.copy .bed i.val = some
        (b1 x.length ++ (List.finRange 16).flatMap (fun k => b1 (x.exposure.get k).val)
          ++ b1 (match x.collection with | none => 255 | some b => b.val) ++ b1 x.returnPercent
          ++ b1 x.sweepLimit ++ b2 (s.watch.passCount.get i).toNat
          ++ flag (s.field.lines.machine.get i).filtered ++ b2 x.revision.toNat))
      ∧ (∀ i : Fin 48, s.geometry.piles.get i = none → s.copy .pile i.val = none)
      ∧ (∀ (i : Fin 48) p l (stamp : List Byte), s.geometry.piles.get i = some p →
        l = s.watch.living.get i →
        (l.wetting = none → stamp = (0 : Byte) :: List.replicate 21 0xFF) →
        (∀ w, l.wetting = some w → stamp = (1 : Byte) :: b2 w.time.day ++ b3 w.time.second
          ++ b1 (match w.ending with | .full => 0 | .cutShort _ => 1 | .noFlow _ => 2)
          ++ b1 (match w.ending with
            | .full => 255 | .cutShort .hold => 1 | .cutShort .drain => 2 | .cutShort .water => 3
            | .cutShort .excluded => 4 | .cutShort .retired => 5 | .cutShort .suspendLimit => 6
            | .noFlow .noFlow => 7 | .noFlow .flowLost => 8 | .noFlow .stray => 9)
          ++ b1 w.cannon.val ++ b1 w.source.val ++ b2 w.baysDone ++ b2 w.baysPlanned ++ b3 w.delivered
          ++ b1 (match w.basis with | .forecast => 0 | .observed => 1 | .worst => 2)
          ++ b1 (match w.sector with | none => 255 | some k => k.val)
          ++ b2 (match w.gust with | none => 65535 | some g => g) ++ b1 w.clarity) →
        s.copy .pile i.val = some
          (b1 p.bed.val ++ b1 p.start ++ b1 p.length ++ b1 p.grade.val ++ b1 l.moisture
            ++ b1 (match l.urgency with | .none => 0 | .may => 1 | .need => 2 | .must => 3) ++ b1 l.dryness
            ++ b1 (match l.basis with | .forecast => 0 | .observed => 1 | .worst => 2) ++ b1 l.deferral
            ++ flag l.escalated ++ flag l.sweepDue ++ b2 l.bedMark.toNat ++ flag l.engaged
            ++ flag l.carried ++ flag l.unqueued ++ stamp ++ b2 p.revision.toNat))
      ∧ (∀ (i : Fin 8) g, g = s.watch.grades.get i → s.copy .grade i.val = some
        (b1 g.may ++ b1 g.need ++ b1 g.must ++ b1 g.clarityLimit ++ b1 g.deferralLimit
          ++ b2 g.revision.toNat))
      ∧ (∀ m, m = s.watch.model → s.copy .model 0 = some
        ((List.finRange 3).flatMap (fun k => b2 (m.speed.get k))
          ++ (List.finRange 3).flatMap (fun k => b1 (m.humidity.get k))
          ++ (List.finRange 4).flatMap (fun b => (List.finRange 4).flatMap fun k => b1 ((m.lift.get b).get k))
          ++ (List.finRange 4).flatMap (fun b => (List.finRange 4).flatMap fun k => b1 ((m.dry.get b).get k))
          ++ b1 m.rainGain ++ b1 m.suspensionLimit ++ b1 m.observationLife ++ b2 m.revision.toNat))
      ∧ (∀ i : Fin 24, s.geometry.cannons.get i = none → s.copy .cannon i.val = none)
      ∧ (∀ (i : Fin 24) c, s.geometry.cannons.get i = some c → s.copy .cannon i.val = some
        (b1 c.main.val ++ b1 c.bed.val ++ b1 c.reachStart ++ b1 c.reachLength ++ b1 c.flow ++ b2 c.dwell
          ++ b1 c.skip ++ b1 c.repeats ++ flag c.reverse ++ flag c.alternate ++ b2 c.driftLimit
          ++ b1 c.gain ++ flag c.enabled ++ b2 c.revision.toNat))
      ∧ (∀ i : Fin 16, s.geometry.exclusions.get i = none → s.copy .exclusion i.val = none)
      ∧ (∀ (i : Fin 16) e, s.geometry.exclusions.get i = some e → s.copy .exclusion i.val = some
        (b1 e.bed.val ++ b1 e.start ++ b1 e.length ++ flag e.fixed ++ b2 e.revision.toNat))
      ∧ (∀ (i : Fin 4) m, m = s.engine.mains.get i → ∃ mask : Byte,
        (∀ x : Fin 6, mask.getLsbD x.val = m.sourceMask.get x) ∧ mask.toNat < 64
        ∧ s.copy .main i.val = some
          ([mask] ++ b1 m.warmPrime ++ b2 m.coldPrime ++ b1 m.drainTime
            ++ b1 (match m.state with
              | .closed => 0 | .opened => 1 | .priming => 2 | .running => 3 | .faulted => 4
              | .draining => 5 | .drained => 6)
            ++ b1 (match m.openSource with | none => 255 | some x => x.val)
            ++ b1 (match m.context with | none => 255 | some c => c.val)
            ++ b1 (match m.fault with
              | none => 255 | some .noFlow => 7 | some .flowLost => 8 | some .stray => 9)
            ++ b2 m.revision.toNat))
      ∧ (∀ (i : Fin 5) b, b = s.water.basins.get i → s.copy .source i.val = some
        (b2 b.capacity ++ b2 b.floor ++ b2 b.restoreMargin ++ b2 b.settleTime ++ b1 b.baseClarity
          ++ b2 b.level ++ b2 b.reserved ++ b1 b.clarity
          ++ b1 (match b.state with | .ready => 0 | .settling => 1 | .low => 2 | .isolated => 3)
          ++ b2 (match b.settle with | none => 0 | some t => t) ++ b2 b.spilled ++ flag b.isolated
          ++ b2 b.revision.toNat))
      ∧ (∀ f, f = s.water.fresh → s.copy .source 5 = some
        (b2 f.allowance ++ b2 f.today ++ b2 f.used ++ b2 f.reserved ++ [0]
          ++ (if f.isolated then [3] else [0]) ++ flag f.isolated ++ b2 f.revision.toNat))
      ∧ (∀ i : Fin 36, s.horizon.slots.get i = none → s.copy .slot i.val = none)
      ∧ (∀ (i : Fin 36) x, s.horizon.slots.get i = some x → s.copy .slot i.val = some
        (b3 x.hour ++ b2 x.issue ++ b1 x.sector.val ++ b2 x.meanSpeed ++ b2 x.gust ++ b1 x.humidity
          ++ [BitVec.ofInt 8 x.temperature] ++ b1 x.rainClass))
      ∧ (s.horizon.observation = none → s.copy .observation 0 = none)
      ∧ (∀ o, s.horizon.observation = some o → s.copy .observation 0 = some
        (b2 o.speed ++ b2 o.gust ++ b1 o.sector.val ++ b1 o.humidity ++ b2 o.stamp.day
          ++ b3 o.stamp.second ++ flag o.fresh))
      ∧ (∀ i : Fin 8, s.engine.contexts.get i = none → s.copy .pass i.val = some [0])
      ∧ (∀ (i : Fin 8) p, s.engine.contexts.get i = some p → s.copy .pass i.val = some
        (b1 (match p.state with | .priming => 1 | .running => 2 | .suspended => 3) ++ b1 p.pile.val
          ++ b1 p.cannon.val ++ b1 p.main.val ++ b1 p.source.val ++ b1 p.clarity ++ b1 p.repeats
          ++ b1 p.bays.length ++ p.bays.flatMap b1 ++ b1 p.cursorRepeat
          ++ b1 (match p.rest with | [] => 255 | bay :: _ => bay) ++ b2 p.cursorSeconds
          ++ b2 p.baysPlanned ++ b2 p.baysDone ++ b3 p.planned
          ++ b3 (min p.planned (p.flow * p.runningSeconds / 60)) ++ b3 p.deducted ++ b4 p.runningSeconds
          ++ b1 ((if p.wind then 1 else 0) + if p.machine then 2 else 0)
          ++ b2 (match p.since with | none => 65535 | some t => t.day)
          ++ b3 (match p.since with | none => 16777215 | some t => t.second)
          ++ b1 (match p.prime with | .warm => 0 | .cold => 1)))
      ∧ ∃ e1 e0 : Byte, (∀ k : Fin 9, (e1 ++ e0).getLsbD k.val = s.notices.enables.get k)
        ∧ (e1 ++ e0).toNat < 512
        ∧ s.copy .yard 0 = some
          (b1 (match s.control.mode with | .active => 0 | .held => 1 | .draining => 2 | .drained => 3)
            ++ b1 (match s.clock.state with | .unset => 0 | .held => 1 | .running => 2) ++ b2 s.clock.day
            ++ b3 s.clock.second ++ [e1, e0]
            ++ b1 (match s.notices.urgentMode with | .each => 0 | .count => 1)
            ++ b1 s.notices.urgentThreshold
            ++ allLines.flatMap (fun i => flag (s.field.lines.get i).activeHigh)
            ++ allLines.flatMap (fun i => b1 (match (s.field.lines.get i).filter with
              | .zero => 0 | .quarter => 1 | .one => 2 | .four => 3))
            ++ allLines.flatMap (fun i => flag (s.field.lines.get i).filtered)
            ++ b1 (match s.control.lastEnded with | none => 255 | some x => x.1.val)
            ++ b1 (match s.control.lastEnded with
              | none => 255 | some (_, .full) => 0 | some (_, .cutShort _) => 1 | some (_, .noFlow _) => 2)
            ++ b2 s.control.revision.toNat)

/-- 05 R105: LOOK(ORDER, position) shows the order at that position, absent parts and name as 0xFF, or the absent
marker, with the result at the deselect (log 16), where its select has not outlasted its 1.5 s (08 R149;
FramingAndTimeout); ORDER is refused RANGE by STAGE and by RETIRE. -/
def Obligations.LookReadsTheQueue : Prop :=
  ∀ (s : State) (position buffer : Byte) (clocked : Clocking), s.Accepts → s.NoneAsked →
    s.SelectInTime clocked.held → position.toNat < 16 →
    (∀ o, s.queue[position.toNat]? = some o →
      ∃ t, exec (.look 11 position clocked) s = .next t
        ∧ t.port.latch =
            [BitVec.ofNat 8 o.pile.val,
             (match o.watch with | none => 0xFF | some .may => 1 | some .need => 2 | some .must => 3),
             (match o.operator with | none => 0xFF | some .normal => 0 | some .high => 1),
             (match o.named with | none => 0xFF | some k => BitVec.ofNat 8 k.val),
             BitVec.ofNat 8 (o.entered.day / 256), BitVec.ofNat 8 o.entered.day,
             BitVec.ofNat 8 (o.entered.second / 65536), BitVec.ofNat 8 (o.entered.second / 256),
             BitVec.ofNat 8 o.entered.second, BitVec.ofNat 8 o.rank, BitVec.ofNat 8 o.waiting.code]
        ∧ (clocked.counts.length ≤ 1 → t.port.result = .done) ∧ t.queue = s.queue)
    ∧ (s.queue.length ≤ position.toNat →
      ∃ t, exec (.look 11 position clocked) s = .next t ∧ t.port.latch = [0xEE]
        ∧ (clocked.counts.length ≤ 1 → t.port.result = .absent) ∧ t.queue = s.queue)
    ∧ (∃ t, exec (.stage buffer 11 position) s = .next t ∧ t.port.result = .range
        ∧ t.staging = s.staging)
    ∧ ∃ t, exec (.retire 11 position) s = .next t ∧ t.port.result = .range ∧ t.queue = s.queue

/-- 01 R21; 10 R174: the reply of LOCATE for a bed and a bay in range, at placements that keep the laws: the pile
whose window holds the bay or none, whether an exclusion and a fixed one hold it, and the cannons whose reach holds
it, counted and in ascending order; it goes into the latch and the triple is (LOCATE, DONE, bed). A bed above 7 or
a bay above 159 is refused RANGE with the bed as index, and the latch stays. 01 R21 gives the bed as index for DONE
alone: that a refused LOCATE shows it too is the model's choice (log 13). A LOCATE may go on over events, with the
triple written at its deselect and its 1.5 s counted from the fall of SEL (08 R149; log 16); one whose select has
outlasted them before it acts is abandoned (FramingAndTimeout). -/
def Obligations.LocateReports : Prop :=
  (∀ (s : State) (bed : Fin 8) (b y : Byte) (held n : Nat) (clocked : Clocking), s.Accepts →
      s.SelectInTime held → s.SelectInTime clocked.held →
      s.geometry.Disjoint → s.geometry.Indexed → b.toNat = bed.val → y.toNat < 160 →
      ∃ (pile flags : Byte) (cannons : List (Fin 24)) (reply : List Byte),
        reply = pile :: flags :: BitVec.ofNat 8 cannons.length
          :: cannons.map (fun k => BitVec.ofNat 8 k.val)
        ∧ exec (.locate b y ⟨held, [n]⟩) s = .next ({ s with
          port :=
            { command := Code.locate, result := .done, index := b, latch := reply
              dataOut := stream reply n, transaction := .idle, selectLeft := 30 } } : State).conclude
        ∧ exec (.locate b y clocked) s = .next ({ s with
          port := { s.port.deselected with
            latch := reply, dataOut := []
            transaction := .reading Code.locate (some (.done, b)) true clocked.counts
            selectLeft := max s.port.deselected.selectLeft (30 - clocked.held) } } : State).conclude
        ∧ (∀ i p, s.geometry.piles.get i = some p → p.bed = bed → p.start ≤ y.toNat →
            y.toNat < p.start + p.length → pile.toNat = i.val)
        ∧ ((∀ i p, s.geometry.piles.get i = some p → p.bed = bed → p.start ≤ y.toNat →
            p.start + p.length ≤ y.toNat) → pile = 0xFF)
        ∧ (flags.getLsbD 0 = true ↔ ∃ i e, s.geometry.exclusions.get i = some e ∧ e.bed = bed
            ∧ e.start ≤ y.toNat ∧ y.toNat < e.start + e.length)
        ∧ (flags.getLsbD 1 = true ↔ ∃ i e, s.geometry.exclusions.get i = some e ∧ e.bed = bed
            ∧ e.fixed = true ∧ e.start ≤ y.toNat ∧ y.toNat < e.start + e.length)
        ∧ flags.toNat < 4
        ∧ cannons.Pairwise (· < ·)
        ∧ ∀ k, k ∈ cannons ↔ ∃ c, s.geometry.cannons.get k = some c ∧ c.bed = bed
            ∧ c.reachStart ≤ y.toNat ∧ y.toNat < c.reachStart + c.reachLength)
    ∧ ∀ (s : State) (b y : Byte) (held n : Nat) (clocked : Clocking), s.Accepts →
      s.SelectInTime held → s.SelectInTime clocked.held →
      (7 < b.toNat ∨ 159 < y.toNat) →
      exec (.locate b y ⟨held, [n]⟩) s = .next ({ s with
        port := { s.port with
          command := Code.locate, result := .range, index := b, dataOut := zeroBytes n,
          transaction := .idle, selectLeft := 30 } } : State).conclude
      ∧ exec (.locate b y clocked) s = .next ({ s with
        port := { s.port.deselected with
          dataOut := [], transaction := .reading Code.locate (some (.range, b)) false clocked.counts
          selectLeft := max s.port.deselected.selectLeft (30 - clocked.held) } } :
            State).conclude

/-- 08 R147; logs 14, 15: a byte that names no command is refused UNKNOWN, short parameters RANGE, both with index
0, BUSY or not, and nothing else happens. 08 R149; logs 16, 28: a timeout acts only once SEL can have been low for
1.5 s, counted from the fall of SEL of a read that goes on, and else from where SEL was last high; before that it
does nothing (log 3). It writes (command, TIMEOUT, 0), or (none, TIMEOUT, 0) where no command byte was complete,
and abandons the transaction. A read that goes on has acted already: its copy stays in the latch as it was made,
whatever has happened since, what it has sent stays sent, and nothing else changes. A read command that would act
only after more than 1.5 s of its select was abandoned before, BUSY or not: it has no effect, latches and sends
nothing, and the triple is that of its timeout, with no command code for NOTICES and IDENT, which act as their
command byte completes (R148), with its own for STATUS (R149), and with theirs for LOOK and LOCATE (the model's
choice, log 16). Where no read goes on, the transaction's bytes all came with no event among them: a LOOK or a
LOCATE whose parameters were in, a NOTICES or an IDENT has acted, unless it was refused, and leaves its copy, and a
read has streamed against the bytes after its parameters; any other command has no effect. -/
def Obligations.FramingAndTimeout : Prop :=
  (∀ (s : State) (code : Byte) (params : List Byte), s.live = true →
      exec (.unknownCommand code) s = .next ({ s with
          port := { s.port with
            command := 0, result := .unknown, index := 0, dataOut := [], transaction := .idle, selectLeft := 30 } } :
          State).conclude
      ∧ exec (.shortParameterDeselect code params) s = .next ({ s with
          port := { s.port with
            command := code, result := .range, index := 0, dataOut := [], transaction := .idle, selectLeft := 30 } } :
          State).conclude)
    ∧ (∀ (s : State) (received : List Byte), s.port.selectLeft ≠ 0 →
      exec (.transactionTimeout received) s = .next s.conclude)
    ∧ (∀ (s : State) (received : List Byte) (code : Byte), s.live = true → s.port.selectLeft = 0 →
      ((∃ answer streams later, s.port.transaction = .reading code answer streams later)
        ∨ code = Code.status ∧ ∃ sample later, s.port.transaction = .streaming sample later) →
      exec (.transactionTimeout received) s = .next ({ s with
        port := { s.port with
          command := code, result := .timeout, index := 0, transaction := .abandoned
          selectLeft := 30 } } : State).conclude)
    ∧ (∀ (s : State) (a b : Byte) (clocked : Clocking), s.live = true → ¬ s.SelectInTime clocked.held →
      ∀ x ∈ ([ (.status clocked, Code.status), (.look a b clocked, Code.look), (.locate a b clocked, Code.locate),
          (.notices clocked, 0), (.ident clocked, 0)] : List (Instr × Byte)),
        exec x.1 s = .next ({ s with
          port := { s.port with
            command := x.2, result := .timeout, index := 0, dataOut := []
            transaction := .abandoned, selectLeft := 30 } } : State).conclude)
    ∧ ∀ (s : State) (received : List Byte), s.live = true → s.port.selectLeft = 0 →
      (s.port.transaction = .idle ∨ s.port.transaction = .abandoned) →
      ∀ (code : Byte) (reply : Option (List Byte)) (sent : List Byte),
        code = (match received with
          | [] => 0
          | c :: _ => if c ∈ Code.all then c else 0) →
        reply = (match s.busy, received with
          | false, 0x02 :: cls :: index :: _ =>
            (match classOf cls with
              | some k => if index.toNat < k.size then some ((s.copy k index.toNat).getD [0xEE]) else none
              | none => none)
          | false, 0x03 :: bed :: bay :: _ =>
            if h : bed.toNat < 8 then
              if bay.toNat < 160 then some (s.geometry.locateReply ⟨bed.toNat, h⟩ bay.toNat) else none
            else none
          | false, 0x04 :: _ => some s.noticesReply
          | false, 0x05 :: _ => some s.identReply
          | _, _ => none) →
        sent = (match received with
          | 0x01 :: more => stream s.statusRecord more.length
          | 0x02 :: _ :: _ :: more => stream (reply.getD [0]) more.length
          | 0x03 :: _ :: _ :: more => stream (reply.getD [0]) more.length
          | 0x04 :: more => stream (reply.getD [0]) more.length
          | 0x05 :: more => stream (reply.getD [0]) more.length
          | _ => []) →
        exec (.transactionTimeout received) s = .next ({ s with
          port :=
            { command := code, result := .timeout, index := 0, latch := reply.getD s.port.latch,
              transaction := .abandoned, dataOut := sent, selectLeft := 30 } } : State).conclude

/-! ## Staging Unit -/

/-- 08 R156: STAGE of a staged class and an index in range fills the buffer from the live record, or from the
class's defaults, which are given for PILE, CANNON and EXCLUSION in the order of their layouts (01 R5, R10, R14;
what the fields that the part maintains hold there is the model's choice, log 26); anything else is refused RANGE
and leaves the buffers. 08 R158: MATCH answers RANGE, EMPTY, ABSENT, SAME or DIFFERENT by its written fields and
changes nothing. That MATCH of an EMPTY buffer shows index 0 is the model's choice (log 13: there is no staged
index). -/
def Obligations.StageAndMatch : Prop :=
  (∀ (s : State) (buffer cls index : Byte), s.Accepts →
      (∀ (b : Fin 2) k values, buffer.toNat = b.val → classOf cls = some k → k.stagedClass = true →
        index.toNat < k.size → values = (s.liveValues k index.toNat).getD (defaultValues k) →
        exec (.stage buffer cls index) s = .next (({ s with
          staging := s.staging.put b (some
            { cls := k, index := index.toNat, base := s.liveRevision k index.toNat, lost := false, values,
              written := List.replicate values.length false }) } : State).commandEnd Code.stage
            (some (.done, index))))
      ∧ (2 ≤ buffer.toNat →
        exec (.stage buffer cls index) s = .next (s.commandEnd Code.stage (some (.range, 0))))
      ∧ (buffer.toNat < 2 →
        (∀ k, classOf cls = some k → k.stagedClass = false ∨ k.size ≤ index.toNat) →
        exec (.stage buffer cls index) s = .next (s.commandEnd Code.stage (some (.range, index)))))
    ∧ (defaultValues .pile =
          [0, 0, 1, 0, 50, 0, 0, 2, 0, 0, 0, 0, 0, 0, 0, 0, 65535, 16777215, 255, 255, 255, 255, 65535, 65535,
           16777215, 255, 255, 65535, 255, 0]
        ∧ defaultValues .cannon = [0, 0, 0, 1, 10, 60, 0, 1, 0, 0, 100, 20, 0, 0]
        ∧ defaultValues .exclusion = [0, 0, 1, 0, 0])
    ∧ ∀ (s : State) (buffer : Byte), s.Accepts →
      (2 ≤ buffer.toNat →
        exec (.matchBuffer buffer) s = .next (s.commandEnd Code.matchBuffer (some (.range, 0))))
      ∧ ∀ k : Fin 2, buffer.toNat = k.val →
        (s.staging.get k = none →
          exec (.matchBuffer buffer) s = .next (s.commandEnd Code.matchBuffer (some (.empty, 0))))
        ∧ ∀ b, s.staging.get k = some b →
          (s.liveValues b.cls b.index = none →
            exec (.matchBuffer buffer) s =
              .next (s.commandEnd Code.matchBuffer (some (.absent, BitVec.ofNat 8 b.index))))
          ∧ ∀ live : List Nat, s.liveValues b.cls b.index = some live →
            ((∀ (j v l : Nat), b.values[j]? = some v → live[j]? = some l → b.written[j]? = some true → v = l) →
              exec (.matchBuffer buffer) s =
                .next (s.commandEnd Code.matchBuffer (some (.same, BitVec.ofNat 8 b.index))))
            ∧ (∀ (j v l : Nat), b.values[j]? = some v → live[j]? = some l → b.written[j]? = some true → v ≠ l →
              exec (.matchBuffer buffer) s =
                .next (s.commandEnd Code.matchBuffer (some (.different, BitVec.ofNat 8 b.index))))

/-- 08 R157; 10 R175: a FILL whose pairs all name fields it may write, with values in range, writes them all in
order; the first pair that fails is refused READONLY or RANGE under its field number, and nothing is written. The
staged classes' fields are those of 10, section 10.5, in the record's order, with their numbers, widths and P
marks, the Initial moisture of PILE that is written at creation alone, and the ranges their chapters give (a value,
0 or a range, or a range or none). A buffer above 1, no buffer byte at all (log 15), an EMPTY buffer, data that
stop inside a pair, and (log 25) an unknown field after good pairs are refused and write nothing. -/
def Obligations.FillWritesAllPairsOrNone : Prop :=
  (∀ (h z n : Nat → Nat → Nat → Nat → FieldSpec) (p : Nat → Nat → FieldSpec) (i : Nat),
      (h = fun number width lo hi => ⟨number, width, .host, .between lo hi⟩) →
      (z = fun number width lo hi => ⟨number, width, .host, .zeroOr lo hi⟩) →
      (n = fun number width _ hi => ⟨number, width, .host, .noneOr hi⟩) →
      (p = fun number width => ⟨number, width, .part, .between 0 (256 ^ width - 1)⟩) →
      layout .bed i = h 1 1 1 160 :: (List.range 16).map (fun k => h (2 + k) 1 0 3)
          ++ [n 18 1 0 4, h 19 1 0 100, z 20 1 8 200, p 21 2, p 22 1, p 23 2]
      ∧ layout .grade i = [h 1 1 0 140, h 2 1 0 140, h 3 1 0 140, h 4 1 0 3, h 5 1 1 8, p 6 2]
      ∧ layout .model i = [h 1 2 0 600, h 2 2 0 600, h 3 2 0 600, h 4 1 0 100, h 5 1 0 100, h 6 1 0 100]
          ++ (List.range 16).map (fun k => h (7 + k) 1 0 40)
          ++ (List.range 16).map (fun k => h (23 + k) 1 0 20)
          ++ [h 39 1 0 40, h 40 1 5 120, h 41 1 5 60, p 42 2]
      ∧ layout .cannon i = [h 1 1 0 3, h 2 1 0 7, h 3 1 0 159, h 4 1 1 160, h 5 1 1 40, h 6 2 10 600,
          h 7 1 0 7, h 8 1 1 4, h 9 1 0 1, h 10 1 0 1, h 11 2 0 400, h 12 1 1 60, h 13 1 0 1, p 14 2]
      ∧ layout .exclusion i = [h 1 1 0 7, h 2 1 0 159, h 3 1 0 160, p 4 1, p 5 2]
      ∧ layout .main i = [h 1 1 0 63, h 2 1 5 120, h 3 2 10 300, h 4 1 1 60, p 5 1, p 6 1, p 7 1, p 8 1, p 9 2]
      ∧ layout .pile i = [h 1 1 0 7, h 2 1 0 159, h 3 1 1 160, h 4 1 0 7, ⟨5, 1, .creation, .between 0 100⟩,
          p 6 1, p 7 1, p 8 1, p 9 1, p 10 1, p 11 1, p 12 2, p 13 1, p 14 1, p 15 1, p 16 1, p 17 2, p 18 3,
          p 19 1, p 20 1, p 21 1, p 22 1, p 23 2, p 24 2, p 25 3, p 26 1, p 27 1, p 28 2, p 29 1, p 30 2]
      ∧ layout .source 5 = [h 14 2 0 65535, p 15 2, p 16 2, p 7 2, p 8 1, p 9 1, p 12 1, p 13 2]
      ∧ (i ≠ 5 → layout .source i = [h 1 2 1 60000, h 2 2 0 60000, h 3 2 0 5000, h 4 2 0 720, p 5 1, p 6 2,
          p 7 2, p 8 1, p 9 1, p 10 2, p 11 2, p 12 1, p 13 2])
      ∧ layout .yard i = [p 1 1, p 2 1, p 3 2, p 4 3, h 5 2 0 511, h 6 1 0 1, h 7 1 1 48]
          ++ (List.range 15).map (fun k => h (8 + k) 1 0 1) ++ (List.range 15).map (fun k => h (23 + k) 1 0 3)
          ++ (List.range 15).map (fun k => p (38 + k) 1) ++ [p 53 1, p 54 1, p 55 2])
    ∧ (∀ (lo hi v : Nat),
      ((Range.between lo hi).holds v = true ↔ lo ≤ v ∧ v ≤ hi)
      ∧ ((Range.zeroOr lo hi).holds v = true ↔ v = 0 ∨ (lo ≤ v ∧ v ≤ hi))
      ∧ ((Range.noneOr hi).holds v = true ↔ v = 255 ∨ v ≤ hi))
    ∧ (∀ (f : FieldSpec) (base : Option Word16) (v : Nat),
      (f.writable base = true ↔ f.access = .host ∨ (f.access = .creation ∧ base = none))
      ∧ (f.takes base v ↔ f.writable base = true ∧ f.range.holds v = true))
    ∧ (∀ (fields : List FieldSpec) (number j : Nat) (f : FieldSpec),
      findField fields number = some (j, f) ↔ fields[j]? = some f ∧ f.number = number
        ∧ ∀ (i : Nat) (g : FieldSpec), i < j → fields[i]? = some g → g.number ≠ number)
    ∧ (∀ (s : State) (buffer : Byte) (k : Fin 2) (b : Staged) (ps : List (Nat × FieldSpec × Nat)), s.Accepts →
      buffer.toNat = k.val → s.staging.get k = some b →
      (∀ x ∈ ps, findField (layout b.cls b.index) x.2.1.number = some (x.1, x.2.1)
        ∧ x.2.1.number < 256 ∧ x.2.2 < 256 ^ x.2.1.width) →
      ∀ data, data = ps.flatMap (fun x => BitVec.ofNat 8 x.2.1.number :: bytesOf x.2.1.width x.2.2) →
      ((∀ x ∈ ps, x.2.1.takes b.base x.2.2) →
        exec (.fill (some buffer) data) s = .next (({ s with
          staging := s.staging.put k (some { b with
            values := ps.foldl (fun v x => v.set x.1 x.2.2) b.values
            written := ps.foldl (fun w x => w.set x.1 true) b.written }) } : State).commandEnd Code.fill
            (some (.done, buffer))))
      ∧ ∀ good x rest, ps = good ++ x :: rest → (∀ y ∈ good, y.2.1.takes b.base y.2.2) →
        ¬ x.2.1.takes b.base x.2.2 →
        exec (.fill (some buffer) data) s = .next (s.commandEnd Code.fill
          (some (if x.2.1.writable b.base then .range else .readonly, BitVec.ofNat 8 x.2.1.number))))
    ∧ ∀ (s : State) (buffer : Byte) (data : List Byte) (ps : List (Nat × FieldSpec × Nat)), s.Accepts →
      (2 ≤ buffer.toNat →
        exec (.fill (some buffer) data) s = .next (s.commandEnd Code.fill (some (.range, 0))))
      ∧ exec (.fill none data) s = .next (s.commandEnd Code.fill (some (.range, 0)))
      ∧ ∀ k : Fin 2, buffer.toNat = k.val →
        (s.staging.get k = none →
          exec (.fill (some buffer) data) s = .next (s.commandEnd Code.fill (some (.empty, buffer))))
        ∧ ∀ b (n : Byte) (more : List Byte), s.staging.get k = some b →
          (∀ x ∈ ps, findField (layout b.cls b.index) x.2.1.number = some (x.1, x.2.1)
            ∧ x.2.1.number < 256 ∧ x.2.2 < 256 ^ x.2.1.width) →
          data = ps.flatMap (fun x => BitVec.ofNat 8 x.2.1.number :: bytesOf x.2.1.width x.2.2)
            ++ n :: more →
          ((more = [] ∨ ∃ j f, findField (layout b.cls b.index) n.toNat = some (j, f)
              ∧ more.length < f.width) →
            exec (.fill (some buffer) data) s = .next (s.commandEnd Code.fill (some (.range, 0))))
          ∧ (more ≠ [] → findField (layout b.cls b.index) n.toNat = none →
            (∀ x ∈ ps, x.2.1.takes b.base x.2.2) →
            exec (.fill (some buffer) data) s = .next (s.commandEnd Code.fill (some (.range, n))))

/-- 08 R159, tests 1 to 5: COMMIT of no buffer, of an EMPTY one, of a record gone or lost, of a new record
at a place taken, or of a record changed since, is refused with its code and changes nothing else. -/
def Obligations.CommitStagingRefusals : Prop :=
  ∀ (s : State) (buffer : Byte), s.Accepts →
    (2 ≤ buffer.toNat →
      exec (.commit buffer) s = .next (s.commandEnd Code.commit (some (.range, 0))))
    ∧ ∀ k : Fin 2, buffer.toNat = k.val →
      (s.staging.get k = none →
        exec (.commit buffer) s = .next (s.commandEnd Code.commit (some (.empty, 0))))
      ∧ ∀ b, s.staging.get k = some b →
        ((b.lost = true ∨ b.base.isSome = true ∧ s.liveRevision b.cls b.index = none) →
          exec (.commit buffer) s =
            .next (s.commandEnd Code.commit (some (.noSuch, BitVec.ofNat 8 b.index))))
        ∧ (b.lost = false → b.base = none → (s.liveRevision b.cls b.index).isSome = true →
          exec (.commit buffer) s =
            .next (s.commandEnd Code.commit (some (.exists, BitVec.ofNat 8 b.index))))
        ∧ ∀ r r', b.lost = false → b.base = some r → s.liveRevision b.cls b.index = some r' → r' ≠ r →
          exec (.commit buffer) s =
            .next (s.commandEnd Code.commit (some (.changed, BitVec.ofNat 8 b.index)))

/-- 01 R4: a BED COMMIT is refused RANGE where the staged Length leaves a window on the bed outside; else the
host's fields stand, each from its field of 10, section 10.5 (a Collection basin of none is field value 255),
Revision is one more, the buffer is EMPTY, and nothing else changes. -/
def Obligations.CommitBed : Prop :=
  ∀ (s : State) (buffer : Byte) (k : Fin 2) (b : Staged) (i : Fin 8), s.Accepts → buffer.toNat = k.val →
    s.staging.get k = some b → b.cls = .bed → b.index = i.val → b.lost = false →
    b.base = some (s.geometry.beds.get i).revision →
    (((∀ j p, s.geometry.piles.get j = some p → p.bed = i → p.start + p.length ≤ fieldValue b.values 1)
      ∧ (∀ j c, s.geometry.cannons.get j = some c → c.bed = i →
          c.reachStart + c.reachLength ≤ fieldValue b.values 1)
      ∧ ∀ j e, s.geometry.exclusions.get j = some e → e.bed = i →
          e.start + e.length ≤ fieldValue b.values 1) →
      exec (.commit buffer) s = .next (({ s with
        staging := s.staging.put k none
        geometry := { s.geometry with
          beds := s.geometry.beds.put i
            { s.geometry.beds.get i with
              length := fieldValue b.values 1
              exposure := Table.tab fun n => Fin.ofNat 4 (fieldValue b.values (2 + n.val))
              collection := if fieldValue b.values 18 < 5 then some (Fin.ofNat 5 (fieldValue b.values 18))
                else none
              returnPercent := fieldValue b.values 19, sweepLimit := fieldValue b.values 20
              revision := (s.geometry.beds.get i).revision + 1 } } } : State).commandEnd Code.commit
          (some (.done, BitVec.ofNat 8 i.val))))
    ∧ (((∃ j p, s.geometry.piles.get j = some p ∧ p.bed = i ∧ fieldValue b.values 1 < p.start + p.length)
      ∨ (∃ j c, s.geometry.cannons.get j = some c ∧ c.bed = i
          ∧ fieldValue b.values 1 < c.reachStart + c.reachLength)
      ∨ ∃ j e, s.geometry.exclusions.get j = some e ∧ e.bed = i
          ∧ fieldValue b.values 1 < e.start + e.length) →
      exec (.commit buffer) s =
        .next (s.commandEnd Code.commit (some (.range, BitVec.ofNat 8 i.val))))

/-- 01 R6, R7; 08 R159: the four tests of a PILE COMMIT in their order, each refused with its code and no other
effect; an accepted one puts the pile, its Bed, Start bay, Length and Grade from fields 1 to 4 (10, section 10.5),
with its Revision 0 or one more in its place and in its bed's window index, leaves the other piles and index
entries, and changes nothing else of the frame. 03 R43; 01 R8; 05 R98: a new pile gets its living part, a present
one keeps its own but for the Bed mark of one that changes bed; the pile is re-evaluated with its offer; then a
named cannon of its order that does not cover it is cleared, and attempts on every main are asked for. -/
def Obligations.CommitPile : Prop :=
  ∀ (s : State) (buffer : Byte) (k : Fin 2) (b : Staged) (i : Fin 48) (x : Pile), s.Accepts →
    buffer.toNat = k.val → s.staging.get k = some b → b.cls = .pile → b.index = i.val → b.lost = false →
    b.base = (s.geometry.piles.get i).map (·.revision) →
    x = { bed := Fin.ofNat 8 (fieldValue b.values 1), start := fieldValue b.values 2
          length := fieldValue b.values 3, grade := Fin.ofNat 8 (fieldValue b.values 4)
          revision := match s.geometry.piles.get i with | some p => p.revision + 1 | none => 0 } →
    ∀ (extent overlap covered moved : Prop),
      (extent ↔ x.start + x.length ≤ (s.geometry.beds.get x.bed).length) →
      (overlap ↔ ∃ j p, j ≠ i ∧ s.geometry.piles.get j = some p ∧ p.bed = x.bed
        ∧ windowsMeet p.start p.length x.start x.length = true) →
      (covered ↔ ∃ j c, s.geometry.cannons.get j = some c ∧ c.bed = x.bed ∧ c.reachStart ≤ x.start
        ∧ x.start + x.length ≤ c.reachStart + c.reachLength) →
      (moved ↔ ∃ p, s.geometry.piles.get i = some p
        ∧ ¬ (p.bed = x.bed ∧ p.start = x.start ∧ p.length = x.length)) →
    (¬ extent → exec (.commit buffer) s =
      .next (s.commandEnd Code.commit (some (.range, BitVec.ofNat 8 i.val))))
    ∧ (extent → overlap → exec (.commit buffer) s =
      .next (s.commandEnd Code.commit (some (.overlap, BitVec.ofNat 8 i.val))))
    ∧ (extent → ¬ overlap → ¬ covered → exec (.commit buffer) s =
      .next (s.commandEnd Code.commit (some (.uncovered, BitVec.ofNat 8 i.val))))
    ∧ (extent → ¬ overlap → covered → (s.watch.living.get i).engaged = true → moved →
      exec (.commit buffer) s =
        .next (s.commandEnd Code.commit (some (.engaged, BitVec.ofNat 8 i.val))))
    ∧ (extent → ¬ overlap → covered → ((s.watch.living.get i).engaged = false ∨ ¬ moved) →
      ∃ t, exec (.commit buffer) s = .next t
        ∧ t.port = { s.port with command := Code.commit, result := .done, index := BitVec.ofNat 8 i.val,
                                 dataOut := [], transaction := .idle, selectLeft := 30 }
        ∧ t.geometry.piles = s.geometry.piles.put i (some x)
        ∧ (∀ bed j, j ≠ i → (j ∈ t.geometry.index.get bed ↔ j ∈ s.geometry.index.get bed))
        ∧ (∀ bed, i ∈ t.geometry.index.get bed ↔ bed = x.bed)
        ∧ t.frame = { s.frame with
            port := t.port, geometry := t.geometry, staging := s.staging.put k none,
            log := t.field.log }
        ∧ t.geometry = { s.geometry with piles := t.geometry.piles, index := t.geometry.index }
        ∧ ∀ (m : Living) (w u : State) (f : Order → Order),
          (s.geometry.piles.get i = none → m =
            { moisture := fieldValue b.values 5, urgency := .none, dryness := 0, basis := .worst,
              deferral := 0, escalated := false, sweepDue := false,
              bedMark := s.watch.passCount.get x.bed, engaged := false, carried := false,
              unqueued := false, wetting := none }) →
          (∀ p, s.geometry.piles.get i = some p → m = { s.watch.living.get i with
            bedMark := if p.bed = x.bed then (s.watch.living.get i).bedMark
              else s.watch.passCount.get x.bed }) →
          w = { s with
            geometry := t.geometry
            watch := { s.watch with living := s.watch.living.put i m } } →
          u = w.reevaluate i true →
          (∀ o n c, o.pile = i → o.named = some n → s.geometry.cannons.get n = some c →
            c.coversPile x = true → f o = o) →
          (∀ o n, o.pile = i → o.named = some n →
            (∀ c, s.geometry.cannons.get n = some c → c.coversPile x = false) →
            f o = { o with named := none }) →
          (∀ o, (o.pile ≠ i ∨ o.named = none) → f o = o) →
          t = ({ u with
            queue := u.queue.map f
            staging := s.staging.put k none
            engine := { u.engine with asked := Table.fill 4 true } } : State).commandEnd Code.commit
              (some (.done, BitVec.ofNat 8 i.val)))

/-- 01 R11, R12: the three tests of a CANNON COMMIT in their order; an accepted one stands, each field from its
number in 10, section 10.5, with Revision 0 or one more, and its drift flag is judged at once. 01 R12; 04 R71; 06
R121, R122; log 21 for the number of a suspension: the live passes on the cannon follow in ascending context order:
one that is PRIMING or RUNNING is suspended where the flag stands set, each suspension whole with its deduction
(DriftReevaluation says what one does), and the WIND reason of a SUSPENDED one follows the flag. 05 R98, 06 R110:
then every queued order that names the cannon, on a pile it does not cover, loses the name, and attempts on every
main are asked for. -/
def Obligations.CommitCannon : Prop :=
  ∀ (s : State) (buffer : Byte) (k : Fin 2) (b : Staged) (i : Fin 24) (x : Cannon), s.Accepts →
    buffer.toNat = k.val → s.staging.get k = some b → b.cls = .cannon → b.index = i.val →
    b.lost = false → b.base = (s.geometry.cannons.get i).map (·.revision) →
    x = { main := Fin.ofNat 4 (fieldValue b.values 1), bed := Fin.ofNat 8 (fieldValue b.values 2)
          reachStart := fieldValue b.values 3, reachLength := fieldValue b.values 4
          flow := fieldValue b.values 5, dwell := fieldValue b.values 6, skip := fieldValue b.values 7
          repeats := fieldValue b.values 8, reverse := fieldValue b.values 9 == 1
          alternate := fieldValue b.values 10 == 1, driftLimit := fieldValue b.values 11
          gain := fieldValue b.values 12, enabled := fieldValue b.values 13 == 1
          revision := match s.geometry.cannons.get i with | some c => c.revision + 1 | none => 0 } →
    ∀ (extent changed covers : Prop),
      (extent ↔ x.reachStart + x.reachLength ≤ (s.geometry.beds.get x.bed).length) →
      (changed ↔ (∃ c p, s.engine.contexts.get c = some p ∧ p.cannon = i)
        ∧ ∃ old, s.geometry.cannons.get i = some old
          ∧ ¬ (old.main = x.main ∧ old.bed = x.bed ∧ old.reachStart = x.reachStart
            ∧ old.reachLength = x.reachLength ∧ old.flow = x.flow ∧ old.dwell = x.dwell
            ∧ old.skip = x.skip ∧ old.repeats = x.repeats ∧ old.reverse = x.reverse
            ∧ old.alternate = x.alternate)) →
      (covers ↔ ∀ j p, s.geometry.piles.get j = some p →
        ∃ n c, (s.geometry.cannons.put i (some x)).get n = some c ∧ c.coversPile p = true) →
    (¬ extent → exec (.commit buffer) s =
      .next (s.commandEnd Code.commit (some (.range, BitVec.ofNat 8 i.val))))
    ∧ (extent → changed → exec (.commit buffer) s =
      .next (s.commandEnd Code.commit (some (.engaged, BitVec.ofNat 8 i.val))))
    ∧ (extent → ¬ changed → ¬ covers → exec (.commit buffer) s =
      .next (s.commandEnd Code.commit (some (.covers, BitVec.ofNat 8 i.val))))
    ∧ (extent → ¬ changed → covers →
      ∃ t, exec (.commit buffer) s = .next t
        ∧ t.port = { s.port with command := Code.commit, result := .done, index := BitVec.ofNat 8 i.val,
                                 dataOut := [], transaction := .idle, selectLeft := 30 }
        ∧ t.frame = { s.frame with
            port := t.port, staging := s.staging.put k none,
            geometry := { s.geometry with cannons := s.geometry.cannons.put i (some x) },
            blocked := s.engine.blocked.put i (driftFlag
              ((s.geometry.cannons.get i).isNone || s.engine.blocked.get i) x.driftLimit
              s.engine.gustLine s.engine.gust),
            log := t.field.log }
        ∧ ∃ u : State, t = u.commandEnd Code.commit (some (.done, BitVec.ofNat 8 i.val))
          ∧ u.watch = s.watch ∧ u.engine.asked = Table.fill 4 true
          ∧ (∀ (next : State → Fin 8 → State) (v w : State),
            (∀ v c, v.engine.contexts.get c = none → next v c = v) →
            (∀ v c p, v.engine.contexts.get c = some p → p.cannon ≠ i → next v c = v) →
            (∀ v c p, v.engine.contexts.get c = some p → p.cannon = i → p.state ≠ .suspended →
              next v c = if v.engine.blocked.get i then v.suspendPass c p else v) →
            (∀ v c p, v.engine.contexts.get c = some p → p.cannon = i → p.state = .suspended →
              next v c = { v with
                engine := { v.engine with
                  contexts := v.engine.contexts.put c (some { p with wind := v.engine.blocked.get i })
                  asked := if p.wind = true ∧ p.machine = false ∧ v.engine.blocked.get i = false then
                    v.engine.asked.put p.main true else v.engine.asked } }) →
            v = { s with
              geometry := { s.geometry with cannons := s.geometry.cannons.put i (some x) }
              engine := { s.engine with
                blocked := t.engine.blocked
                asked := if s.engine.blocked.get i = true ∧ t.engine.blocked.get i = false then
                  Table.fill 4 true else s.engine.asked } } →
            w = (List.finRange 8).foldl next v →
            u = { w with
              queue := u.queue, staging := s.staging.put k none
              engine := { w.engine with asked := Table.fill 4 true } })
          ∧ (∀ f : Order → Order,
            (∀ o p, o.named = some i → s.geometry.piles.get o.pile = some p → x.coversPile p = true →
              f o = o) →
            (∀ o, o.named = some i → (∀ p, s.geometry.piles.get o.pile = some p → x.coversPile p = false) →
              f o = { o with named := none }) →
            (∀ o, o.named ≠ some i → f o = o) → u.queue = s.queue.map f)
          ∧ (∀ c, s.engine.contexts.get c = none → u.engine.contexts.get c = none)
          ∧ ∀ c p, s.engine.contexts.get c = some p →
            (p.cannon ≠ i → u.engine.contexts.get c = some p)
            ∧ (p.cannon = i → p.state = .suspended →
              u.engine.contexts.get c = some { p with wind := t.engine.blocked.get i })
            ∧ (p.cannon = i → p.state ≠ .suspended → t.engine.blocked.get i = false →
              u.engine.contexts.get c = some p)
            ∧ (p.cannon = i → p.state ≠ .suspended → t.engine.blocked.get i = true →
              ∃ q, u.engine.contexts.get c = some q
                ∧ q = { p with
                    state := .suspended, wind := true
                    machine := match s.geometry.piles.get p.pile with
                      | some y => (s.field.lines.machine.get y.bed).filtered
                      | none => false
                    since := some ⟨s.clock.day, s.clock.second⟩, suspension := q.suspension
                    deducted := p.delivered, primeTimer := none, dwellTimer := none
                    limitTimer := some (60 * s.watch.model.suspensionLimit) }
                ∧ ((∀ d r, s.engine.contexts.get d = some r → r.main = p.main → r.state ≠ .suspended →
                    d = c) →
                  u.engine.mains.get p.main = { s.engine.mains.get p.main with
                    state := .opened, openSource := some p.source, context := none })))

/-- 01 R15, R16; 06 R130: the tests of an EXCLUSION COMMIT in their order; an accepted one stands, not fixed, with
its Bed, Start bay and Length from fields 1 to 3 (10, section 10.5), and no live pass on its bed keeps a bay of the
new window among its remaining bays. R130: each live pass on the bed whose remaining bays meet the window is
trimmed, in ascending context order, whether or not a pass is left: the bays go from its list and from the present
walk; a bay in progress inside the window ends uncounted, and the cursor moves on with 0 seconds and a dwell timer
started again; Bays planned and Planned VU are computed anew and the fall is released, which lowers Reserved of the
pass's source and changes nothing else of the water (04 R72); a pass left with no bay ends CUT_SHORT with reason
EXCLUDED, with the attempts of its end. Where the attempts that a trim's release asks for are made is the model's
choice and not the spec's (log 7): with those of the next end, or at the COMMIT's end. The Dwell, Flow and
Alternate of a pass are those it has kept of its cannon (log 18). -/
def Obligations.CommitExclusion : Prop :=
  (∀ (s : State) (buffer : Byte) (k : Fin 2) (b : Staged) (i : Fin 16) (x : Exclusion), s.Accepts →
    buffer.toNat = k.val → s.staging.get k = some b → b.cls = .exclusion → b.index = i.val →
    b.lost = false → b.base = (s.geometry.exclusions.get i).map (·.revision) →
    x = { bed := Fin.ofNat 8 (fieldValue b.values 1), start := fieldValue b.values 2
          length := fieldValue b.values 3, fixed := false
          revision := match s.geometry.exclusions.get i with | some e => e.revision + 1 | none => 0 } →
    (s.geometry.isFixed i = true → exec (.commit buffer) s =
      .next (s.commandEnd Code.commit (some (.fixed, BitVec.ofNat 8 i.val))))
    ∧ (s.geometry.isFixed i = false →
        (x.length = 0 ∨ (s.geometry.beds.get x.bed).length < x.start + x.length) →
        exec (.commit buffer) s =
          .next (s.commandEnd Code.commit (some (.range, BitVec.ofNat 8 i.val))))
    ∧ (s.geometry.isFixed i = false → 1 ≤ x.length →
        x.start + x.length ≤ (s.geometry.beds.get x.bed).length →
      ∃ t, exec (.commit buffer) s = .next t
        ∧ t.port = { s.port with command := Code.commit, result := .done, index := BitVec.ofNat 8 i.val,
                                 dataOut := [], transaction := .idle, selectLeft := 30 }
        ∧ t.frame = { s.frame with
            port := t.port, staging := s.staging.put k none,
            geometry := { s.geometry with exclusions := s.geometry.exclusions.put i (some x) },
            log := t.field.log }
        ∧ (∀ c q p, t.engine.contexts.get c = some q → t.geometry.piles.get q.pile = some p →
            p.bed = x.bed →
            (∀ bay ∈ q.rest, bay < x.start ∨ x.start + x.length ≤ bay)
              ∧ (q.cursorRepeat + 1 < q.repeats →
                ∀ bay ∈ q.bays, bay < x.start ∨ x.start + x.length ≤ bay))
        ∧ ∀ (next : State → Fin 8 → State) (meets : State → Pass → Prop) (u : State),
          (∀ v p, meets v p ↔ (∃ y, v.geometry.piles.get p.pile = some y ∧ y.bed = x.bed)
            ∧ ((∃ bay ∈ p.rest, x.start ≤ bay ∧ bay < x.start + x.length)
              ∨ p.cursorRepeat + 1 < p.repeats
                ∧ ∃ bay ∈ p.bays, x.start ≤ bay ∧ bay < x.start + x.length)) →
          (∀ v c, v.engine.contexts.get c = none → next v c = v) →
          (∀ v c p, v.engine.contexts.get c = some p → meets v p →
            next v c = v.trimPass c p x.start x.length) →
          (∀ v c p, v.engine.contexts.get c = some p → ¬ meets v p → next v c = v) →
          u = (List.finRange 8).foldl next { s with
            geometry := { s.geometry with exclusions := s.geometry.exclusions.put i (some x) } } →
          t = ({ u with staging := s.staging.put k none } : State).commandEnd Code.commit
            (some (.done, BitVec.ofNat 8 i.val))))
    ∧ ∀ (s : State) (c : Fin 8) (p q : Pass) (start length bay : Nat) (walk kept rest : List Nat)
      (outside : Nat → Bool), (outside = fun b => decide (b < start ∨ start + length ≤ b)) →
      p.rest = bay :: walk → q = p.trimmed start length → kept = p.bays.filter outside →
      rest = p.rest.filter outside →
      q = { p with
          bays := kept, cursorRepeat := q.cursorRepeat, rest := q.rest, cursorSeconds := q.cursorSeconds,
          baysPlanned := q.baysPlanned, planned := q.planned, dwellTimer := q.dwellTimer }
      ∧ (rest ≠ [] → q.rest = rest ∧ q.cursorRepeat = p.cursorRepeat
          ∧ q.cursorSeconds = (if outside bay then p.cursorSeconds else 0))
      ∧ (rest = [] → p.cursorRepeat + 1 < p.repeats → kept ≠ [] → q.cursorSeconds = 0
          ∧ q.cursorRepeat = p.cursorRepeat + 1
          ∧ q.rest = (if p.alternate = true ∧ (p.cursorRepeat + 1) % 2 = 1 then kept.reverse else kept))
      ∧ (rest = [] → (p.repeats ≤ p.cursorRepeat + 1 ∨ kept = []) → q.rest = [])
      ∧ q.baysPlanned = p.baysDone + (if q.rest = [] then 0
          else q.rest.length + (p.repeats - 1 - q.cursorRepeat) * kept.length)
      ∧ q.planned = max ((q.baysPlanned * p.dwell * p.flow + 59) / 60) p.delivered
      ∧ ((outside bay = true ∨ p.state ≠ .running) → q.dwellTimer = p.dwellTimer)
      ∧ (outside bay = false → p.state = .running → q.rest ≠ [] → q.dwellTimer = some p.dwell)
      ∧ ∃ u : State, u.frame = s.frame ∧ u.watch = s.watch ∧ u.queue = s.queue ∧ u.notices = s.notices
        ∧ u.control = s.control ∧ u.field = s.field
        ∧ u.engine = { s.engine with
            contexts := s.engine.contexts.put c (some q), asked := u.engine.asked }
        ∧ (p.source = 5 → u.water = { s.water with
            fresh := { s.water.fresh with
              reserved := s.water.fresh.reserved - (p.planned - q.planned) } })
        ∧ (∀ b : Fin 5, p.source.val = b.val → u.water = { s.water with
            basins := s.water.basins.put b { s.water.basins.get b with
              reserved := (s.water.basins.get b).reserved - (p.planned - q.planned) } })
        ∧ u.engine.asked = (if q.planned < p.planned ∧ s.water.state p.source = .ready then Table.fill 4 true
            else s.engine.asked)
        ∧ (q.rest ≠ [] → s.trimPass c p start length = u)
        ∧ (q.rest = [] → s.trimPass c p start length
            = (u.endPass none c (.cutShort .excluded) true).runAttempts none)

/-- 06 R108: MAIN COMMIT is refused ENGAGED where a live pass has the main and the mask changes; else the
fields stand, a source outside the new mask is closed, and an attempt is asked for on the main. The
pins follow the main before the attempt is made (07 R138, log 23). -/
def Obligations.CommitMain : Prop :=
  ∀ (s : State) (buffer : Byte) (k : Fin 2) (b : Staged) (i : Fin 4) (x : Main), s.Accepts →
    buffer.toNat = k.val → s.staging.get k = some b → b.cls = .main → b.index = i.val →
    b.lost = false → b.base = some (s.engine.mains.get i).revision →
    x = { s.engine.mains.get i with
      sourceMask := flagsOf 6 (fieldValue b.values 1), warmPrime := fieldValue b.values 2,
      coldPrime := fieldValue b.values 3, drainTime := fieldValue b.values 4,
      revision := (s.engine.mains.get i).revision + 1 } →
    ∀ serves : Prop, (serves ↔ ∃ c p, s.engine.contexts.get c = some p ∧ p.main = i) →
    (serves → x.sourceMask ≠ (s.engine.mains.get i).sourceMask → exec (.commit buffer) s =
      .next (s.commandEnd Code.commit (some (.engaged, BitVec.ofNat 8 i.val))))
    ∧ ((¬ serves ∨ x.sourceMask = (s.engine.mains.get i).sourceMask) →
      ∀ closes : Prop, (closes ↔ x.state = .opened ∧ ∃ y, x.openSource = some y
        ∧ x.sourceMask.get y = false) →
      ∃ (y : Main) (u : State), exec (.commit buffer) s = .next (({ u with
          field := { u.field with
            pins := u.pinsFollowed, made := u.field.made ++ pinChanges u.field.pins u.pinsFollowed } } :
          State).commandEnd Code.commit (some (.done, BitVec.ofNat 8 i.val)))
        ∧ u = { s with
            staging := s.staging.put k none
            engine := { s.engine with
              mains := s.engine.mains.put i y
              asked := s.engine.asked.put i true } }
        ∧ (closes → y = { x with state := .closed, openSource := none, context := none })
        ∧ (¬ closes → y = x))

/-- 04 R87: the tests of a SOURCE COMMIT of a basin, the install with the low test, and the commit of the
fresh supply's Allowance. -/
def Obligations.CommitSource : Prop :=
  ∀ (s : State) (buffer : Byte) (k : Fin 2) (b : Staged), s.Accepts → buffer.toNat = k.val →
    s.staging.get k = some b → b.cls = .source → b.lost = false →
    (∀ i : Fin 5, b.index = i.val → b.base = some (s.water.basins.get i).revision →
      ∀ old, old = s.water.basins.get i →
      ∀ capacity floor, capacity = fieldValue b.values 1 → floor = fieldValue b.values 2 →
      ((capacity < old.level ∨ capacity < floor ∨ (0 < old.reserved ∧ old.level < floor + old.reserved)) →
        exec (.commit buffer) s =
          .next (s.commandEnd Code.commit (some (.range, BitVec.ofNat 8 i.val))))
      ∧ (old.level ≤ capacity → floor ≤ capacity → (old.reserved = 0 ∨ floor + old.reserved ≤ old.level) →
        ∃ (u : State) (new : Basin), exec (.commit buffer) s =
            .next (u.commandEnd Code.commit (some (.done, BitVec.ofNat 8 i.val)))
          ∧ u = { s with
              staging := s.staging.put k none
              water := { s.water with basins := s.water.basins.put i new }
              notices := u.notices
              engine := { s.engine with asked := u.engine.asked } }
          ∧ new = { old with
              capacity, floor, restoreMargin := fieldValue b.values 3,
              settleTime := fieldValue b.values 4, revision := old.revision + 1, low := new.low }
          ∧ (new.low = true ↔
              if old.low = true then old.level < floor + fieldValue b.values 3
              else old.level < floor ∨ old.level < floor + old.reserved)
          ∧ (old.low = false → new.low = true → u.notices = { s.notices with
              pending := s.notices.pending.put NoticeKind.waterLow.place true
              subjects := s.notices.subjects.put NoticeKind.waterLow.place i.val })
          ∧ ((old.low = true ∨ new.low = false) → u.notices = s.notices)
          ∧ ∀ m, u.engine.asked.get m = true ↔ s.engine.asked.get m = true
              ∨ (new.state = .ready ∧ (old.state ≠ .ready ∨ old.available < new.available))))
    ∧ (b.index = 5 → b.base = some s.water.fresh.revision →
      exec (.commit buffer) s = .next (({ s with
        staging := s.staging.put k none
        water := { s.water with
          fresh := { s.water.fresh with
            allowance := fieldValue b.values 1
            revision := s.water.fresh.revision + 1 } } } : State).commandEnd Code.commit
              (some (.done, 5))))

/-- 03 R46; 02 R37: GRADE needs May < Need < Must at most 140, MODEL strictly ascending thresholds; else they are
refused RANGE. An accepted MODEL is installed, each table from its fields of 10, section 10.5, with nothing else
changed. An accepted GRADE stands with its Revision one more, and every present pile of that grade is re-evaluated
without drying, in ascending index, each whole (R47); what a re-evaluation does, and that an engaged pile is not
offered, is in EvaluationGrades. That the attempts come after the last of them is the model's choice (log 7). -/
def Obligations.CommitGradeAndModel : Prop :=
  ∀ (s : State) (buffer : Byte) (k : Fin 2) (b : Staged), s.Accepts → buffer.toNat = k.val →
    s.staging.get k = some b → b.lost = false →
    (∀ i : Fin 8, b.cls = .grade → b.index = i.val → b.base = some (s.watch.grades.get i).revision →
      ∀ ok : Prop, (ok ↔ fieldValue b.values 1 < fieldValue b.values 2
        ∧ fieldValue b.values 2 < fieldValue b.values 3 ∧ fieldValue b.values 3 ≤ 140) →
      (¬ ok → exec (.commit buffer) s =
        .next (s.commandEnd Code.commit (some (.range, BitVec.ofNat 8 i.val))))
      ∧ (ok → ∃ t, exec (.commit buffer) s = .next t
        ∧ t.port = { s.port with command := Code.commit, result := .done, index := BitVec.ofNat 8 i.val,
                                 dataOut := [], transaction := .idle, selectLeft := 30 }
        ∧ t.frame = { s.frame with
            port := t.port, staging := s.staging.put k none,
            grades := s.watch.grades.put i
              { may := fieldValue b.values 1, need := fieldValue b.values 2,
                must := fieldValue b.values 3, clarityLimit := fieldValue b.values 4,
                deferralLimit := fieldValue b.values 5,
                revision := (s.watch.grades.get i).revision + 1 },
            log := t.field.log }
        ∧ ∀ next : State → Fin 48 → State,
          (∀ v j, v.geometry.piles.get j = none → next v j = v) →
          (∀ v j p, v.geometry.piles.get j = some p → p.grade ≠ i → next v j = v) →
          (∀ v j p, v.geometry.piles.get j = some p → p.grade = i → next v j = v.reevaluate j true) →
          ∀ u : State, u = (List.finRange 48).foldl next { s with
            watch := { s.watch with
              grades := s.watch.grades.put i
                { may := fieldValue b.values 1, need := fieldValue b.values 2,
                  must := fieldValue b.values 3, clarityLimit := fieldValue b.values 4,
                  deferralLimit := fieldValue b.values 5,
                  revision := (s.watch.grades.get i).revision + 1 } } } →
          t = ({ u with staging := s.staging.put k none } : State).commandEnd Code.commit
            (some (.done, BitVec.ofNat 8 i.val))))
    ∧ (b.cls = .model → b.index = 0 → b.base = some s.watch.model.revision →
      ∀ ok : Prop, (ok ↔ fieldValue b.values 1 < fieldValue b.values 2
        ∧ fieldValue b.values 2 < fieldValue b.values 3 ∧ fieldValue b.values 4 < fieldValue b.values 5
        ∧ fieldValue b.values 5 < fieldValue b.values 6) →
      (¬ ok → exec (.commit buffer) s = .next (s.commandEnd Code.commit (some (.range, 0))))
      ∧ (ok → exec (.commit buffer) s = .next (({ s with
          staging := s.staging.put k none
          watch := { s.watch with
            model :=
              { speed := Table.tab fun n => fieldValue b.values (1 + n.val)
                humidity := Table.tab fun n => fieldValue b.values (4 + n.val)
                lift := Table.tab fun n => Table.tab fun e => fieldValue b.values (7 + 4 * n.val + e.val)
                dry := Table.tab fun n => Table.tab fun h => fieldValue b.values (23 + 4 * n.val + h.val)
                rainGain := fieldValue b.values 39, suspensionLimit := fieldValue b.values 40
                observationLife := fieldValue b.values 41
                revision := s.watch.model.revision + 1 } } } : State).commandEnd Code.commit
              (some (.done, 0)))))

/-- 07 R136, R137; 09 R165: a YARD COMMIT has no test of its own; it installs the notice fields and the line
settings and adds 1 to Revision. A line it changes holds its filtered state under a re-take timer of the new filter
time, or, with a filter time of 0, is taken at once; a line it leaves is not touched. R137: where a re-take of
filter time 0 gives a new state, the change is delivered to the line's owner before the next line is taken (what a
delivery does: LineFilters, MachineLineSuspends, FlowLineRunsOrFaults, HoldAndFrost). That the lines are taken in
the record's order is the model's choice (log 27), as is where ATTN stands in the list of output changes (log 23).
-/
def Obligations.CommitYard : Prop :=
  ∀ (s : State) (buffer : Byte) (k : Fin 2) (b : Staged), s.Accepts → buffer.toNat = k.val →
    s.staging.get k = some b → b.cls = .yard → b.index = 0 → b.lost = false →
    b.base = some s.control.revision →
    ∃ t, exec (.commit buffer) s = .next t
      ∧ t.port = { s.port with command := Code.commit, result := .done, index := 0,
                               dataOut := [], transaction := .idle, selectLeft := 30 }
      ∧ t.staging = s.staging.put k none
      ∧ t.control.revision = s.control.revision + 1
      ∧ (∀ n, t.notices.enables.get n = (fieldValue b.values 5).testBit n.val)
      ∧ t.notices.urgentMode = (if fieldValue b.values 6 = 0 then .each else .count)
      ∧ t.notices.urgentThreshold = fieldValue b.values 7
      ∧ ∀ (n : Fin 15) i x y level filter, allLines[n.val]? = some i → x = s.field.lines.get i →
          y = t.field.lines.get i → level = (fieldValue b.values (8 + n.val) == 1) →
          filter = FilterTime.ofCode (fieldValue b.values (23 + n.val)) →
          ((x.activeHigh = level ∧ x.filter = filter) → y = x)
          ∧ ((x.activeHigh ≠ level ∨ x.filter ≠ filter) → filter ≠ .zero →
              y = { x with
                activeHigh := level, filter, qualify := none, retake := some filter.units })
          ∧ ((x.activeHigh ≠ level ∨ x.filter ≠ filter) → filter = .zero →
              y = { x with
                activeHigh := level, filter, qualify := none, retake := none
                filtered := (x.raw == level) })
      ∧ ∀ (next : State → Fin 15 → State) (level : Fin 15 → Bool) (filter : Fin 15 → FilterTime) (v : State),
        (∀ n, level n = (fieldValue b.values (8 + n.val) == 1)) →
        (∀ n, filter n = FilterTime.ofCode (fieldValue b.values (23 + n.val))) →
        (∀ w n i x, allLines[n.val]? = some i → x = w.field.lines.get i →
          ((x.activeHigh = level n ∧ x.filter = filter n) → next w n = w)
          ∧ ((x.activeHigh ≠ level n ∨ x.filter ≠ filter n) → filter n ≠ .zero → next w n = { w with
              field := { w.field with
                lines := w.field.lines.put i { x with
                  activeHigh := level n, filter := filter n, qualify := none
                  retake := some (filter n).units } } })
          ∧ ((x.activeHigh ≠ level n ∨ x.filter ≠ filter n) → filter n = .zero → ∀ y : State, y = { w with
              field := { w.field with
                lines := w.field.lines.put i { x with
                  activeHigh := level n, filter := filter n, qualify := none, retake := none } } } →
              ((x.raw == level n) = x.filtered → next w n = y)
              ∧ ((x.raw == level n) ≠ x.filtered → next w n = y.deliver i (x.raw == level n)))) →
        v = { s with
          notices := { s.notices with
            enables := t.notices.enables, urgentMode := t.notices.urgentMode
            urgentThreshold := t.notices.urgentThreshold }
          control := { s.control with revision := s.control.revision + 1 } } →
        t = ({ (List.finRange 15).foldl next { v with
          field := { v.field with
            pins := v.pinsFollowed, made := v.field.made ++ pinChanges v.field.pins v.pinsFollowed } } with
          staging := s.staging.put k none } : State).commandEnd Code.commit (some (.done, 0))

/-- 08 R160, R161; 01 R9, R13, R17: what RETIRE refuses, with no effect; an accepted RETIRE of a pile, cannon or
exclusion makes the position absent, with its window-index entry, its order, the names it had and its pass, and
every buffer staged from it is Base lost. 01 R9; 06 R127, R131: the pile's live pass ends CUT_SHORT with reason
RETIRED and with no offer for the pile, before anything else is taken away, and the attempts follow at the end of
the command; a pile that was at MUST is counted out. A pile's living part is left blank (log 19). -/
def Obligations.RetireOfGeometry : Prop :=
  (∀ (s : State) (cls index : Byte), s.Accepts →
      ((∀ k, classOf cls = some k → k ∉ [RecordClass.pile, .cannon, .exclusion, .slot, .observation]) →
        exec (.retire cls index) s = .next (s.commandEnd Code.retire (some (.range, 0))))
      ∧ (∀ k, classOf cls = some k → k ∈ [RecordClass.pile, .cannon, .exclusion, .slot, .observation] →
        k.size ≤ index.toNat →
        exec (.retire cls index) s = .next (s.commandEnd Code.retire (some (.range, index))))
      ∧ (∀ i : Fin 48, cls = 2 → index.toNat = i.val → s.geometry.piles.get i = none →
        exec (.retire cls index) s = .next (s.commandEnd Code.retire (some (.noSuch, index))))
      ∧ (∀ i : Fin 24, cls = 5 → index.toNat = i.val →
        (s.geometry.cannons.get i = none →
          exec (.retire cls index) s = .next (s.commandEnd Code.retire (some (.noSuch, index))))
        ∧ (∀ c, s.geometry.cannons.get i = some c →
          (∃ x p, s.engine.contexts.get x = some p ∧ p.cannon = i) →
          exec (.retire cls index) s = .next (s.commandEnd Code.retire (some (.engaged, index))))
        ∧ (∀ c j p, s.geometry.cannons.get i = some c →
          (∀ x q, s.engine.contexts.get x = some q → q.cannon ≠ i) → s.geometry.piles.get j = some p →
          (∀ n d, n ≠ i → s.geometry.cannons.get n = some d → d.coversPile p = false) →
          exec (.retire cls index) s = .next (s.commandEnd Code.retire (some (.covers, index)))))
      ∧ (∀ i : Fin 16, cls = 6 → index.toNat = i.val →
        (s.geometry.exclusions.get i = none →
          exec (.retire cls index) s = .next (s.commandEnd Code.retire (some (.noSuch, index))))
        ∧ (s.geometry.isFixed i = true →
          exec (.retire cls index) s = .next (s.commandEnd Code.retire (some (.fixed, index))))))
    ∧ ∀ (s : State) (cls index : Byte), s.Accepts →
      ∀ lost : RecordClass → Nat → Table 2 (Option Staged),
        (lost = fun c i => Table.tab fun k => (s.staging.get k).map fun b =>
          if b.cls = c ∧ b.index = i ∧ b.base.isSome = true then { b with lost := true } else b) →
      (∀ (i : Fin 48) p, cls = 2 → index.toNat = i.val → s.geometry.piles.get i = some p →
        ∃ t, exec (.retire cls index) s = .next t
          ∧ t.frame = { s.frame with
              port := { s.port with command := Code.retire, result := .done, index := index,
                                    dataOut := [], transaction := .idle, selectLeft := 30 }
              staging := lost .pile i.val
              geometry := { s.geometry with
                piles := s.geometry.piles.put i none
                index := Table.tab fun b => (s.geometry.index.get b).filter (· != i) }
              log := t.field.log }
          ∧ t.hasOrder i = false ∧ t.watch.living.get i = Living.blank
          ∧ (s.EngagedLaw → ∀ c q, t.engine.contexts.get c = some q → q.pile ≠ i)
          ∧ ∀ u : State,
            ((∀ c q, s.engine.contexts.get c = some q → q.pile ≠ i) → u = s) →
            (∀ c q, s.engine.contexts.get c = some q → q.pile = i →
              (∀ d r, d < c → s.engine.contexts.get d = some r → r.pile ≠ i) →
              u = s.endPass none c (.cutShort .retired) false) →
            t = ({ u with
              staging := lost .pile i.val, geometry := t.geometry
              queue := u.queue.filter (fun o => o.pile != i)
              watch := { u.watch with
                living := u.watch.living.put i Living.blank
                mustCount := if (u.watch.living.get i).urgency = .must then u.watch.mustCount - 1
                  else u.watch.mustCount } } : State).commandEnd Code.retire (some (.done, index)))
      ∧ (∀ (i : Fin 24) c, cls = 5 → index.toNat = i.val → s.geometry.cannons.get i = some c →
        (∀ x q, s.engine.contexts.get x = some q → q.cannon ≠ i) →
        (∀ j p, s.geometry.piles.get j = some p →
          ∃ n d, n ≠ i ∧ s.geometry.cannons.get n = some d ∧ d.coversPile p = true) →
        exec (.retire cls index) s = .next (({ s with
          staging := lost .cannon i.val
          geometry := { s.geometry with cannons := s.geometry.cannons.put i none }
          queue := s.queue.map fun o => if o.named = some i then { o with named := none } else o
          engine := { s.engine with
            blocked := s.engine.blocked.put i false
            asked := Table.fill 4 true } } : State).commandEnd Code.retire (some (.done, index))))
      ∧ (∀ (i : Fin 16) e, cls = 6 → index.toNat = i.val → s.geometry.exclusions.get i = some e →
        e.fixed = false →
        exec (.retire cls index) s = .next (({ s with
          staging := lost .exclusion i.val
          geometry := { s.geometry with exclusions := s.geometry.exclusions.put i none }
          engine := { s.engine with asked := Table.fill 4 true } } : State).commandEnd Code.retire
            (some (.done, index))))

/-! ## Yard Clock and Forecast Horizon -/

/-- 02 R24, R25, R26: CLOCK HOLD, CLOCK SET and CLOCK RUN in each clock state: what each refuses, and the clock,
the held-from day, the horizon, the drift re-evaluation and the day rollover where it is accepted. Of the clock's
marks, which are the model's (log 4), HOLD takes away the one of an owed advance and leaves those of raised events,
and SET and RUN leave them all; that RUN sets the count of units within the second to 0 is how log 2 has the first
advance come one second after it. -/
def Obligations.ClockCommands : Prop :=
  (∀ s : State, s.Accepts →
      (s.clock.state = .running →
        exec .clockHold s = .next (({ s with
          clock := { s.clock with state := .held, heldFrom := some s.clock.day, advanceDue := false } } :
          State).commandEnd Code.clock (some (.done, 0))))
      ∧ (s.clock.state = .held →
        exec .clockHold s = .next (s.commandEnd Code.clock (some (.done, 0))))
      ∧ (s.clock.state = .unset →
        exec .clockHold s = .next (s.commandEnd Code.clock (some (.state, 0))))
      ∧ ∀ t, exec .clockHold s = .next t → t.control.mode = s.control.mode)
    ∧ (∀ (s : State) (day : Word16) (second : Word24), s.Accepts →
      (s.clock.state = .running →
        exec (.clockSet day second) s = .next (s.commandEnd Code.clock (some (.state, 0))))
      ∧ (s.clock.state ≠ .running → 86399 < second.toNat →
        exec (.clockSet day second) s = .next (s.commandEnd Code.clock (some (.range, 0))))
      ∧ (s.clock.state ≠ .running → second.toNat ≤ 86399 →
        ∃ slots : Table 36 (Option Slot),
          (∀ k x, slots.get k = some x ↔ s.horizon.slots.get k = some x
            ∧ day.toNat * 24 + second.toNat / 3600 ≤ x.hour
            ∧ x.hour ≤ day.toNat * 24 + second.toNat / 3600 + 35)
          ∧ exec (.clockSet day second) s = .next (({ s with
              clock := { s.clock with state := .held, day := day.toNat, second := second.toNat }
              horizon := { s.horizon with slots } } : State).driftReevaluate.commandEnd Code.clock
                (some (.done, 0)))))
    ∧ ∀ s : State, s.Accepts →
      (s.clock.state = .held → ∀ t, t = { s with
          clock := { s.clock with state := .running, heldFrom := none, fraction := 0 } } →
        (s.clock.heldFrom = some s.clock.day →
          exec .clockRun s = .next (t.commandEnd Code.clock (some (.done, 0))))
        ∧ (s.clock.heldFrom ≠ some s.clock.day →
          exec .clockRun s = .next (t.rolloverDay.commandEnd Code.clock (some (.done, 0)))))
      ∧ (s.clock.state = .running →
        exec .clockRun s = .next (s.commandEnd Code.clock (some (.done, 0))))
      ∧ (s.clock.state = .unset →
        exec .clockRun s = .next (s.commandEnd Code.clock (some (.clock, 0))))

/-- 02 R23, R27, R31; 04 R88; log 4 for the marks: an advance of a RUNNING clock moves it one second on, wrapping
at midnight and after day 65535, and raises the events of a boundary; an hour rollover leaves the slots of the
current hour and the 35 after it and makes a drift re-evaluation; a day rollover takes Used today to 0 and Today's
allowance to the pending allowance or to Reserved. An event takes effect only where the advance is owed, or the
event has been raised (log 3). -/
def Obligations.ClockEvents : Prop :=
  (∀ s : State, s.live = true → s.clock.second < 86400 →
      (s.clock.state = .running → s.clock.advanceDue = true → ∀ day second,
        second = (s.clock.second + 1) % 86400 →
        day = (if second = 0 then (s.clock.day + 1) % 65536 else s.clock.day) →
        exec .yardClockAdvance s = .next (({ s with
          clock := { s.clock with
            day, second, advanceDue := false
            assessmentRaised :=
              if second % 900 = 0 then some ⟨day, second⟩ else s.clock.assessmentRaised
            hourRaised := s.clock.hourRaised || decide (second % 3600 = 0)
            dayRaised := s.clock.dayRaised || decide (second = 0) } } : State).eventEnd))
      ∧ ((s.clock.state ≠ .running ∨ s.clock.advanceDue = false) →
        exec .yardClockAdvance s = .next s.eventEnd))
    ∧ (∀ s : State, s.live = true →
      (s.clock.hourRaised = true → ∃ slots : Table 36 (Option Slot),
        (∀ k x, slots.get k = some x ↔ s.horizon.slots.get k = some x ∧ s.clock.hour ≤ x.hour
          ∧ x.hour ≤ s.clock.hour + 35)
        ∧ exec .hourRollover s = .next (({ s with
            clock := { s.clock with hourRaised := false }
            horizon := { s.horizon with slots } } : State).driftReevaluate.eventEnd))
      ∧ (s.clock.hourRaised = false → exec .hourRollover s = .next s.eventEnd))
    ∧ ∀ (s : State) (old new : Fresh), s.live = true → old = s.water.fresh →
      new = { old with
        used := 0, today := if old.allowance < old.reserved then old.reserved else old.allowance } →
      ∀ rises : Prop, (rises ↔ old.today - old.used - old.reserved < new.today - new.reserved
        ∧ old.isolated = false) →
      (s.clock.dayRaised = true →
        (rises → exec .dayRollover s = .next (({ s with
          clock := { s.clock with dayRaised := false }
          water := { s.water with fresh := new }
          engine := { s.engine with asked := Table.fill 4 true } } : State).eventEnd))
        ∧ (¬ rises → exec .dayRollover s = .next (({ s with
          clock := { s.clock with dayRaised := false }
          water := { s.water with fresh := new } } : State).eventEnd)))
      ∧ (s.clock.dayRaised = false → exec .dayRollover s = .next s.eventEnd)

/-- 02 R29: the tests of FORECAST in their order, with the position as index but for CLOCK, and the slot
that an accepted FORECAST installs; for the current hour a drift re-evaluation follows. -/
def Obligations.ForecastTestsAndInstalls : Prop :=
  ∀ (s : State) (hour : Word24) (issue : Word16) (sector : Byte) (mean gust : Word16)
    (humidity temperature rain : Byte), s.Accepts →
    ∀ (c : Instr) (h : Nat) (k : Fin 36) (index : Byte) (stale inRange : Prop),
    c = .forecast hour issue sector mean gust humidity temperature rain → h = hour.toNat →
    k.val = h % 36 → index = BitVec.ofNat 8 (h % 36) →
    (stale ↔ ∃ x, s.horizon.slots.get k = some x ∧ x.hour = h ∧ issue.toNat ≤ x.issue) →
    (inRange ↔ sector.toNat ≤ 15 ∧ mean.toNat ≤ 600 ∧ gust.toNat ≤ 600 ∧ humidity.toNat ≤ 100
      ∧ -40 ≤ temperature.toInt ∧ temperature.toInt ≤ 60 ∧ rain.toNat ≤ 3) →
    (s.clock.state = .unset → exec c s = .next (s.commandEnd Code.forecast (some (.clock, 0))))
    ∧ (s.clock.state ≠ .unset → h < s.clock.hour →
      exec c s = .next (s.commandEnd Code.forecast (some (.past, index))))
    ∧ (s.clock.state ≠ .unset → s.clock.hour ≤ h → (s.clock.hour + 35 < h ∨ 1572863 < h) →
      exec c s = .next (s.commandEnd Code.forecast (some (.beyond, index))))
    ∧ (s.clock.state ≠ .unset → s.clock.hour ≤ h → h ≤ s.clock.hour + 35 → h ≤ 1572863 → stale →
      exec c s = .next (s.commandEnd Code.forecast (some (.stale, index))))
    ∧ (s.clock.state ≠ .unset → s.clock.hour ≤ h → h ≤ s.clock.hour + 35 → h ≤ 1572863 → ¬ stale →
      ¬ inRange → exec c s = .next (s.commandEnd Code.forecast (some (.range, index))))
    ∧ (s.clock.state ≠ .unset → s.clock.hour ≤ h → h ≤ s.clock.hour + 35 → h ≤ 1572863 → ¬ stale →
      inRange → ∃ x : Slot, x.sector.val = sector.toNat
        ∧ x = { hour := h, issue := issue.toNat, sector := x.sector, meanSpeed := mean.toNat,
                gust := gust.toNat, humidity := humidity.toNat, temperature := temperature.toInt,
                rainClass := rain.toNat }
        ∧ ∀ t, t = { s with
            horizon := { s.horizon with slots := s.horizon.slots.put k (some x) } } →
          (h = s.clock.hour →
            exec c s = .next (t.driftReevaluate.commandEnd Code.forecast (some (.done, index))))
          ∧ (h ≠ s.clock.hour →
            exec c s = .next (t.commandEnd Code.forecast (some (.done, index)))))

/-- 02 R34, R35: OBSERVE out of range is refused RANGE and changes nothing; else the reading stands, Fresh, stamped
with the clock's value, with the life timer started afresh, and a drift re-evaluation follows; the timer's expiry
clears Fresh, keeps the reading and makes a drift re-evaluation. An expiry takes effect only where the timer has
run out (02 R35; log 3). -/
def Obligations.ObservationAndItsLife : Prop :=
  (∀ (s : State) (speed gust : Word16) (sector humidity : Byte), s.Accepts →
      ((600 < speed.toNat ∨ 600 < gust.toNat ∨ 15 < sector.toNat ∨ 100 < humidity.toNat) →
        exec (.observe speed gust sector humidity) s =
          .next (s.commandEnd Code.observe (some (.range, 0))))
      ∧ (speed.toNat ≤ 600 → gust.toNat ≤ 600 → sector.toNat ≤ 15 → humidity.toNat ≤ 100 →
        ∃ o : Observation, o.sector.val = sector.toNat
          ∧ o = { speed := speed.toNat, gust := gust.toNat, sector := o.sector,
                  humidity := humidity.toNat, stamp := ⟨s.clock.day, s.clock.second⟩, fresh := true }
          ∧ exec (.observe speed gust sector humidity) s = .next (({ s with
              horizon := { s.horizon with
                observation := some o
                life := some (60 * s.watch.model.observationLife) } } :
                State).driftReevaluate.commandEnd Code.observe (some (.done, 0)))))
    ∧ ∀ s : State, s.live = true →
      (s.horizon.life = some 0 →
        exec .observationLifeExpiry s = .next (({ s with
          horizon := { s.horizon with
            observation := s.horizon.observation.map fun o => { o with fresh := false }
            life := none } } : State).driftReevaluate.eventEnd))
      ∧ (s.horizon.life ≠ some 0 → exec .observationLifeExpiry s = .next s.eventEnd)

/-- 02 R30, R36: RETIRE of a slot: RANGE above 35, NO_SUCH where absent, else the slot is absent and DONE,
with a drift re-evaluation if its Hour was the current hour; STAGE naming SLOT is refused RANGE. RETIRE of
the observation: RANGE for another index, NO_SUCH where absent, else the record is absent, the life timer
cancelled and DONE, with a drift re-evaluation exactly where it was Fresh. -/
def Obligations.RetireSlotAndObservation : Prop :=
  (∀ (s : State) (position buffer : Byte), s.Accepts →
      (35 < position.toNat →
        exec (.retire 9 position) s = .next (s.commandEnd Code.retire (some (.range, position))))
      ∧ (∀ k : Fin 36, position.toNat = k.val →
        (s.horizon.slots.get k = none →
          exec (.retire 9 position) s = .next (s.commandEnd Code.retire (some (.noSuch, position))))
        ∧ ∀ x t, s.horizon.slots.get k = some x →
          t = { s with horizon := { s.horizon with slots := s.horizon.slots.put k none } } →
          (x.hour = s.clock.hour → exec (.retire 9 position) s =
            .next (t.driftReevaluate.commandEnd Code.retire (some (.done, position))))
          ∧ (x.hour ≠ s.clock.hour → exec (.retire 9 position) s =
            .next (t.commandEnd Code.retire (some (.done, position)))))
      ∧ ∃ i, exec (.stage buffer 9 position) s = .next (s.commandEnd Code.stage (some (.range, i))))
    ∧ ∀ (s : State) (index : Byte), s.Accepts →
      (index ≠ 0 →
        exec (.retire 10 index) s = .next (s.commandEnd Code.retire (some (.range, index))))
      ∧ (s.horizon.observation = none →
        exec (.retire 10 0) s = .next (s.commandEnd Code.retire (some (.noSuch, 0))))
      ∧ ∀ o t, s.horizon.observation = some o →
        t = { s with horizon := { s.horizon with observation := none, life := none } } →
        (o.fresh = true → exec (.retire 10 0) s =
          .next (t.driftReevaluate.commandEnd Code.retire (some (.done, 0))))
        ∧ (o.fresh = false → exec (.retire 10 0) s =
          .next (t.commandEnd Code.retire (some (.done, 0))))

/-- 02 R39, R40, R41; 06 R110, R121, R122; log 21 for the number of a suspension: a drift re-evaluation forms the
gust figure, hands it with the GUST line's state, raises WIND_BLIND where it is unknown and judges every present
cannon's flag by the table. Then the live passes follow in ascending context order: each PRIMING or RUNNING pass
whose cannon is blocked is suspended, each suspension whole before the next, and its main is left OPEN on the
pass's source with no pass; the WIND reason of each SUSPENDED pass follows its cannon's flag; every other pass and
main stays as it was. Attempts are asked for on the mains of passes suspended or become resumable, and on every
main if a flag clears. 06 R121, R124; 04 R71, R69: what one suspension does: the pass keeps its bay with the
seconds spent, takes its reasons, the time and the next number (log 21), and starts its limit timer; the water
drawn since the last deduction is deducted at its source, with the low test where there was any. -/
def Obligations.DriftReevaluation : Prop :=
  (∀ (s t : State) (figure : Option Nat) (line : Bool), t = s.driftReevaluate →
    figure = (match s.horizon.observation with
      | some o => if o.fresh then some o.gust
          else (s.horizon.slotFor s.clock.hour).map (·.gust)
      | none => (s.horizon.slotFor s.clock.hour).map (·.gust)) →
    line = s.field.lines.gust.filtered →
    t.engine.gust = figure ∧ t.engine.gustLine = line
      ∧ (figure = none → t.notices.pending.get NoticeKind.windBlind.place = true
          ∧ t.notices.subjects.get NoticeKind.windBlind.place = 0)
      ∧ (∀ k, s.geometry.cannons.get k = none → t.engine.blocked.get k = false)
      ∧ (∀ k c, s.geometry.cannons.get k = some c →
          (line = true → t.engine.blocked.get k = true)
          ∧ (line = false → figure = none → t.engine.blocked.get k = true)
          ∧ ∀ g, line = false → figure = some g →
            (c.driftLimit < g → t.engine.blocked.get k = true)
            ∧ (g ≤ c.driftLimit - 15 → t.engine.blocked.get k = false)
            ∧ (c.driftLimit - 15 < g → g ≤ c.driftLimit →
                t.engine.blocked.get k = s.engine.blocked.get k))
      ∧ t.frame = { s.frame with blocked := t.engine.blocked, gust := figure, gustLine := line }
      ∧ t.watch = s.watch ∧ t.queue = s.queue
      ∧ (∀ c, s.engine.contexts.get c = none → t.engine.contexts.get c = none)
      ∧ ∀ suspends : Pass → Prop,
        (∀ p, suspends p ↔ p.state ≠ .suspended ∧ t.engine.blocked.get p.cannon = true) →
        (∀ c p, s.engine.contexts.get c = some p →
          (suspends p → ∃ q, t.engine.contexts.get c = some q
            ∧ q = { p with
                state := .suspended, wind := true
                machine := match s.geometry.piles.get p.pile with
                  | some x => (s.field.lines.machine.get x.bed).filtered
                  | none => false
                since := some ⟨s.clock.day, s.clock.second⟩, suspension := q.suspension
                deducted := p.delivered, primeTimer := none, dwellTimer := none
                limitTimer := some (60 * s.watch.model.suspensionLimit) }
            ∧ ((∀ d r, s.engine.contexts.get d = some r → r.main = p.main → r.state ≠ .suspended → d = c) →
              t.engine.mains.get p.main = { s.engine.mains.get p.main with
                state := .opened, openSource := some p.source, context := none }))
          ∧ (p.state ≠ .suspended → ¬ suspends p → t.engine.contexts.get c = some p)
          ∧ (p.state = .suspended →
            t.engine.contexts.get c = some { p with wind := t.engine.blocked.get p.cannon }))
        ∧ ∀ m, ((∀ c p, s.engine.contexts.get c = some p → p.main = m → ¬ suspends p) →
            t.engine.mains.get m = s.engine.mains.get m)
          ∧ (t.engine.asked.get m = true ↔ s.engine.asked.get m = true
            ∨ (∃ k, s.engine.blocked.get k = true ∧ t.engine.blocked.get k = false)
            ∨ ∃ c p, s.engine.contexts.get c = some p ∧ p.main = m
              ∧ (suspends p ∨ p.state = .suspended ∧ p.wind = true ∧ p.machine = false
                ∧ t.engine.blocked.get p.cannon = false)))
    ∧ (∀ (s t : State) (next : State → Fin 8 → State) (v : State) (clears : Prop), t = s.driftReevaluate →
      (clears ↔ ∃ k, s.engine.blocked.get k = true ∧ t.engine.blocked.get k = false) →
      (∀ w c, w.engine.contexts.get c = none → next w c = w) →
      (∀ w c p, w.engine.contexts.get c = some p → p.state ≠ .suspended →
        next w c = if w.engine.blocked.get p.cannon then w.suspendPass c p else w) →
      (∀ w c p, w.engine.contexts.get c = some p → p.state = .suspended →
        next w c = { w with
          engine := { w.engine with
            contexts := w.engine.contexts.put c (some { p with wind := w.engine.blocked.get p.cannon })
            asked := if p.wind = true ∧ p.machine = false ∧ w.engine.blocked.get p.cannon = false then
              w.engine.asked.put p.main true else w.engine.asked } }) →
      v = { s with
        notices := v.notices
        engine := { s.engine with
          gust := t.engine.gust, gustLine := t.engine.gustLine, blocked := t.engine.blocked
          asked := v.engine.asked } } →
      (t.engine.gust ≠ none → v.notices = s.notices) →
      (t.engine.gust = none → v.notices = { s.notices with
        pending := s.notices.pending.put NoticeKind.windBlind.place true
        subjects := s.notices.subjects.put NoticeKind.windBlind.place 0 }) →
      (clears → v.engine.asked = Table.fill 4 true) → (¬ clears → v.engine.asked = s.engine.asked) →
      t = (List.finRange 8).foldl next v)
    ∧ ∀ (s t : State) (c : Fin 8) (p : Pass) (drawn : Nat), t = s.suspendPass c p →
      drawn = p.delivered - p.deducted →
      t.frame = s.frame ∧ t.watch = s.watch ∧ t.queue = s.queue
        ∧ t.engine = { s.engine with
            mains := s.engine.mains.put p.main { s.engine.mains.get p.main with
              state := .opened, openSource := some p.source, context := none }
            contexts := s.engine.contexts.put c (some { p with
              state := .suspended, wind := s.engine.blocked.get p.cannon
              machine := match s.geometry.piles.get p.pile with
                | some x => (s.field.lines.machine.get x.bed).filtered
                | none => false
              since := some ⟨s.clock.day, s.clock.second⟩, suspension := s.engine.suspensions
              deducted := p.delivered, primeTimer := none, dwellTimer := none
              limitTimer := some (60 * s.watch.model.suspensionLimit) })
            suspensions := s.engine.suspensions + 1
            asked := s.engine.asked.put p.main true }
        ∧ (p.source = 5 → t.notices = s.notices ∧ t.water = { s.water with
            fresh := { s.water.fresh with
              used := s.water.fresh.used + drawn, reserved := s.water.fresh.reserved - drawn } })
        ∧ ∀ (b : Fin 5) (x y : Basin) (enters : Prop), p.source.val = b.val → x = s.water.basins.get b →
          y = { x with level := x.level - drawn, reserved := x.reserved - drawn, low := y.low } →
          (drawn = 0 → y.low = x.low) →
          (0 < drawn → (y.low = true ↔ if x.low = true then y.level < y.floor + y.restoreMargin
            else y.level < y.floor ∨ y.level < y.floor + y.reserved)) →
          (enters ↔ x.low = false ∧ y.low = true) →
          t.water = { s.water with basins := s.water.basins.put b y }
          ∧ (enters → t.notices.pending.get NoticeKind.waterLow.place = true
            ∧ t.notices.subjects.get NoticeKind.waterLow.place = b.val)
          ∧ (¬ enters → t.notices = s.notices)

/-! ## Pile Watch -/

/-- 03 R51 to R57, R59; 09 R166: an evaluation of a present pile stores Dryness, Basis and Urgency by the grade and
the floors, counts a deferral where one is due, and raises FORECAST_GAP for the pile exactly where the basis is no
forecast; but for it and URGENT every notice stays as it was. The MUST count follows an entry into MUST and a
departure; an entry raises URGENT in EACH, and in COUNT where the count then equals the threshold. The offer rule
follows: no offer for an engaged pile, in DRAINING or in DRAINED, else an offer of the Urgency. A re-evaluation is
an evaluation at the present time that counts no deferral; an evaluation of an absent pile does nothing. -/
def Obligations.EvaluationGrades : Prop :=
  (∀ (s t : State) (i : Fin 48) (p : Pile) (g : Grade) (w : WindBasis) (counts offers : Bool)
    (l m : Living) (dry : Nat) (graded : Urgency),
    s.geometry.piles.get i = some p → g = s.watch.grades.get p.grade → l = s.watch.living.get i →
    t = s.evaluate i w counts offers → m = t.watch.living.get i →
    dry = 100 - l.moisture + (s.watch.model.lift.get w.speedBand).get
      (match w.sector with
        | some k => (s.geometry.beds.get p.bed).exposure.get k
        | none => 3) →
    graded = (if g.must ≤ dry then .must else if g.need ≤ dry then .need
      else if g.may ≤ dry ∧ ¬ (w.kind = .forecast ∧ 2 ≤ w.rainClass.getD 0) then .may else .none) →
    m.moisture = l.moisture ∧ m.dryness = dry ∧ m.basis = w.kind ∧ m.sweepDue = l.sweepDue
      ∧ m.bedMark = l.bedMark ∧ m.engaged = l.engaged ∧ m.wetting = l.wetting
      ∧ m.deferral = (if counts = true ∧ graded = .need ∧ l.deferral < 8 then l.deferral + 1
          else l.deferral)
      ∧ (m.escalated = true ↔ l.escalated = true ∨ g.deferralLimit ≤ m.deferral)
      ∧ (m.escalated = true → m.urgency = .must)
      ∧ (m.escalated = false → l.sweepDue = true → (graded = .none ∨ graded = .may) → m.urgency = .need)
      ∧ (m.escalated = false → (l.sweepDue = false ∨ graded = .need ∨ graded = .must) →
          m.urgency = graded)
      ∧ (w.kind ≠ .forecast → t.notices.pending.get NoticeKind.forecastGap.place = true
          ∧ t.notices.subjects.get NoticeKind.forecastGap.place = i.val)
      ∧ (w.kind = .forecast → t.notices.pending.get NoticeKind.forecastGap.place
            = s.notices.pending.get NoticeKind.forecastGap.place
          ∧ t.notices.subjects.get NoticeKind.forecastGap.place
            = s.notices.subjects.get NoticeKind.forecastGap.place))
    ∧ (∀ (s : State) (i : Fin 48) (p : Pile) (w : WindBasis) (counts offers : Bool),
      s.geometry.piles.get i = some p →
      ∃ u : State, s.evaluate i w counts offers = (if offers then u.offerRule i else u)
        ∧ u.frame = s.frame ∧ u.queue = s.queue ∧ u.engine = s.engine ∧ u.water = s.water
        ∧ u.control = s.control ∧ u.watch.passCount = s.watch.passCount
        ∧ u.notices = { s.notices with pending := u.notices.pending, subjects := u.notices.subjects }
        ∧ (∀ k, k ≠ NoticeKind.urgent.place → k ≠ NoticeKind.forecastGap.place →
          u.notices.pending.get k = s.notices.pending.get k
            ∧ u.notices.subjects.get k = s.notices.subjects.get k)
        ∧ (∀ k, k = NoticeKind.forecastGap.place →
          u.notices.pending.get k = (if w.kind = .forecast then s.notices.pending.get k else true)
            ∧ u.notices.subjects.get k = (if w.kind = .forecast then s.notices.subjects.get k else i.val))
        ∧ (∀ j, j ≠ i → u.watch.living.get j = s.watch.living.get j)
        ∧ (u.watch.living.get i).carried = (s.watch.living.get i).carried
        ∧ (u.watch.living.get i).unqueued
          = ((s.watch.living.get i).unqueued && !decide ((u.watch.living.get i).urgency = .none))
        ∧ ∀ (before after : Urgency) (enters leaves : Prop), before = (s.watch.living.get i).urgency →
          after = (u.watch.living.get i).urgency → (enters ↔ before ≠ .must ∧ after = .must) →
          (leaves ↔ before = .must ∧ after ≠ .must) →
          (enters → u.watch.mustCount = s.watch.mustCount + 1)
          ∧ (leaves → u.watch.mustCount = s.watch.mustCount - 1)
          ∧ (¬ enters → ¬ leaves → u.watch.mustCount = s.watch.mustCount)
          ∧ (enters → (s.notices.urgentMode = .each
              ∨ s.notices.urgentMode = .count ∧ s.watch.mustCount + 1 = s.notices.urgentThreshold) →
            u.notices.pending.get NoticeKind.urgent.place = true
              ∧ u.notices.subjects.get NoticeKind.urgent.place = i.val)
          ∧ ((¬ enters ∨ s.notices.urgentMode = .count
                ∧ s.watch.mustCount + 1 ≠ s.notices.urgentThreshold) →
            u.notices.pending.get NoticeKind.urgent.place
                = s.notices.pending.get NoticeKind.urgent.place
              ∧ u.notices.subjects.get NoticeKind.urgent.place
                = s.notices.subjects.get NoticeKind.urgent.place))
    ∧ (∀ (s : State) (i : Fin 48),
      ((s.watch.living.get i).engaged = true ∨ s.control.mode = .draining ∨ s.control.mode = .drained →
        s.offerRule i = s)
      ∧ ((s.watch.living.get i).engaged = false → (s.control.mode = .active ∨ s.control.mode = .held) →
        s.offerRule i = s.offer i (s.watch.living.get i).urgency)
      ∧ (s.offerRule i).notices = s.notices)
    ∧ ∀ (s : State) (i : Fin 48) (w : WindBasis) (counts offers : Bool),
      s.reevaluate i offers = s.evaluate i (s.windBasis ⟨s.clock.day, s.clock.second⟩) false offers
      ∧ (s.geometry.piles.get i = none → s.evaluate i w counts offers = s)

/-- 03 R49 to R57, R45; 02 R38: an assessment takes every present pile in ascending index, each whole, under one
basis and one state of the RAIN line: it dries the pile by the Dry table and credits the rain; then comes the
evaluation of EvaluationGrades, offer included, which counts a deferral where Carried is set and the pile has a
queued order; and Carried is left set exactly where the pile then has a queued order. The basis of a time is the
slot of its hour, else the fresh observation, else the worst; a speed band or humidity class is how many of its
three thresholds are less than or equal to the value (02 R37). That an ASSESSMENT does nothing where none is raised
is log 3's, and the mark assessmentRaised, which holds the time and is taken away, is the model's (log 4). -/
def Obligations.AssessmentDriesEveryPile : Prop :=
  (∀ s : State, s.live = true →
      (∀ time w, s.clock.assessmentRaised = some time → w = s.windBasis time →
        ∃ u : State, exec .assessment s = .next u.eventEnd
          ∧ u.frame = { s.frame with clock := { s.clock with assessmentRaised := none } }
          ∧ u.engine = { s.engine with asked := u.engine.asked } ∧ u.water = s.water
          ∧ (∀ i, s.geometry.piles.get i = none →
              u.watch.living.get i = { s.watch.living.get i with
                carried := (u.watch.living.get i).carried
                unqueued := (u.watch.living.get i).unqueued })
          ∧ ∀ i p, s.geometry.piles.get i = some p → ∀ dried,
              dried = (s.watch.living.get i).moisture
                - (s.watch.model.dry.get w.speedBand).get w.humidityClass →
              (u.watch.living.get i).moisture =
                  (if s.field.lines.rain.filtered = true then min 100 (dried + s.watch.model.rainGain)
                   else dried)
                ∧ (u.watch.living.get i).basis = w.kind
                ∧ (u.watch.living.get i).carried = u.hasOrder i)
      ∧ (∀ time w, s.clock.assessmentRaised = some time → w = s.windBasis time →
        ∀ next : State → Fin 48 → State,
        (∀ v i, v.geometry.piles.get i = none → next v i = v) →
        (∀ (v e : State) i p (l : Living) (dried moisture : Nat) (counts : Bool),
          v.geometry.piles.get i = some p → l = v.watch.living.get i →
          dried = l.moisture - (v.watch.model.dry.get w.speedBand).get w.humidityClass →
          moisture = (if s.field.lines.rain.filtered = true then min 100 (dried + v.watch.model.rainGain)
            else dried) →
          (counts = true ↔ l.carried = true ∧ ∃ o ∈ v.queue, o.pile = i) →
          e = ({ v with
            watch := { v.watch with living := v.watch.living.put i { l with moisture } } } :
              State).evaluate i w counts true →
          next v i = { e with
            watch := { e.watch with
              living := e.watch.living.put i { e.watch.living.get i with carried := e.hasOrder i } } }) →
        exec .assessment s = .next (((List.finRange 48).foldl next { s with
          clock := { s.clock with assessmentRaised := none } }).eventEnd))
      ∧ (∀ i, s.hasOrder i = true ↔ ∃ o ∈ s.queue, o.pile = i)
      ∧ (s.clock.assessmentRaised = none → exec .assessment s = .next s.eventEnd))
    ∧ (∀ (thresholds : Table 3 Nat) (v : Nat),
      (band thresholds v).val = ((List.finRange 3).filter fun k => thresholds.get k ≤ v).length)
    ∧ ∀ (s : State) (time : Stamp) (h : Nat), h = time.day * 24 + time.second / 3600 →
      (∀ k : Fin 36, k.val = h % 36 → ∀ x, s.horizon.slots.get k = some x → x.hour = h →
        s.windBasis time =
          { kind := .forecast, speedBand := band s.watch.model.speed x.meanSpeed,
            humidityClass := band s.watch.model.humidity x.humidity, sector := some x.sector,
            rainClass := some x.rainClass })
      ∧ ∀ k : Fin 36, k.val = h % 36 → (∀ x, s.horizon.slots.get k = some x → x.hour ≠ h) →
        (∀ o, s.horizon.observation = some o → o.fresh = true →
          s.windBasis time =
            { kind := .observed, speedBand := band s.watch.model.speed o.speed,
              humidityClass := band s.watch.model.humidity o.humidity, sector := some o.sector,
              rainClass := none })
        ∧ ((∀ o, s.horizon.observation = some o → o.fresh = false) →
          s.windBasis time =
            { kind := .worst, speedBand := 3, humidityClass := 0, sector := none, rainClass := none })

/-! ## Order Queue -/

/-- 05 R91: an order's rank is the highest of the ranks its parts give. -/
def Obligations.RankIsTheHighestOfTheParts : Prop :=
  ∀ (o : Order) (r : Nat), r = o.rank →
    (o.watch = some .must → r = 5)
    ∧ (o.watch ≠ some .must → o.operator = some .high → r = 4)
    ∧ (o.watch = some .need → o.operator ≠ some .high → r = 3)
    ∧ (o.watch ≠ some .must → o.watch ≠ some .need → o.operator = some .normal → r = 2)
    ∧ (o.watch = some .may → o.operator = none → r = 1)
    ∧ (o.watch = none → o.operator = none → r = 0)

/-- 05 R94, tests 1 to 5: ORDER in DRAINING or DRAINED is refused HELD, parameters out of range RANGE, an absent
pile NO_SUCH, an engaged one ENGAGED, a named cannon that is absent or does not cover it UNCOVERED. That HELD is
shown with the pile parameter as index, also where it is above 47, is the model's choice (log 13). -/
def Obligations.OrderRefusals : Prop :=
  ∀ (s : State) (pile priority cannon : Byte), s.Accepts →
    ∀ (drains inRange : Prop),
    (drains ↔ s.control.mode = .draining ∨ s.control.mode = .drained) →
    (inRange ↔ pile.toNat < 48 ∧ priority.toNat < 2 ∧ (cannon.toNat < 24 ∨ cannon = 0xFF)) →
    (drains → exec (.order pile priority cannon) s =
      .next (s.commandEnd Code.order (some (.held, pile))))
    ∧ (¬ drains → ¬ inRange → exec (.order pile priority cannon) s =
      .next (s.commandEnd Code.order (some (.range, 0))))
    ∧ ∀ i : Fin 48, i.val = pile.toNat → ¬ drains → inRange →
      (s.geometry.piles.get i = none → exec (.order pile priority cannon) s =
        .next (s.commandEnd Code.order (some (.noSuch, pile))))
      ∧ ∀ p, s.geometry.piles.get i = some p →
        ((s.watch.living.get i).engaged = true → exec (.order pile priority cannon) s =
          .next (s.commandEnd Code.order (some (.engaged, pile))))
        ∧ ((s.watch.living.get i).engaged = false → ∀ k : Fin 24, k.val = cannon.toNat →
          (∀ c, s.geometry.cannons.get k = some c → c.coversPile p = false) →
          exec (.order pile priority cannon) s =
            .next (s.commandEnd Code.order (some (.uncovered, pile))))

/-- 05 R93, R95, R96, R100: an ORDER for a pile with no order joins at the tail with its operator part and its
named cannon; in a full queue it displaces, of the orders with no operator part and a lower rank, the youngest of
the lowest rank, or is refused FULL; for a queued pile it merges in place. 03 R57, R45; 05 R92, R93, R99: an offer
of NONE for a pile with no order does nothing; another Urgency joins as an ORDER does, with a watch part, or is
dropped with Unqueued set; an offer for a queued pile sets or removes its watch part in place, and an order left
with no part leaves the queue with Carried cleared. -/
def Obligations.OrderJoinsOrMerges : Prop :=
  (∀ (s : State) (pile priority cannon : Byte) (i : Fin 48) (p : Pile) (r : Priority)
      (named : Option (Fin 24)) (o : Order), s.Accepts →
      (s.control.mode = .active ∨ s.control.mode = .held) → pile.toNat = i.val →
      priority.toNat = r.code → cannon.toNat = (named.map (·.val)).getD 255 →
      s.geometry.piles.get i = some p → (s.watch.living.get i).engaged = false →
      (∀ k, named = some k → ∃ c, s.geometry.cannons.get k = some c ∧ c.coversPile p = true) →
      (∀ x ∈ s.queue, x.pile ≠ i) →
      o = { pile := i, watch := none, operator := some r, named, entered := ⟨s.clock.day, s.clock.second⟩,
            waiting := .none } →
      (s.queue.length < 16 →
        exec (.order pile priority cannon) s = .next (({ s with
          queue := s.queue ++ [o]
          watch := { s.watch with
            living := s.watch.living.modify i fun l => { l with unqueued := false } }
          engine := { s.engine with asked := Table.fill 4 true } } : State).commandEnd Code.order
            (some (.done, pile))))
      ∧ (16 ≤ s.queue.length → ∀ d, s.displaceable r.rank = some d →
        exec (.order pile priority cannon) s = .next (({ s with
          queue := s.queue.filter (fun x => x.pile != d.pile) ++ [o]
          watch := { s.watch with
            living := (s.watch.living.modify d.pile fun l =>
              { l with carried := false, unqueued := true }).modify i fun l => { l with unqueued := false } }
          engine := { s.engine with asked := Table.fill 4 true } } : State).commandEnd Code.order
            (some (.done, pile))))
      ∧ (16 ≤ s.queue.length → s.displaceable r.rank = none →
        exec (.order pile priority cannon) s = .next (s.commandEnd Code.order (some (.full, pile)))))
    ∧ (∀ (s : State) (r : Nat),
      (∀ d, s.displaceable r = some d →
        ∃ before after, s.queue = before ++ d :: after
          ∧ d.operator = none ∧ d.rank < r
          ∧ (∀ x ∈ before, x.operator = none → x.rank < r → d.rank ≤ x.rank)
          ∧ ∀ x ∈ after, x.operator = none → x.rank < r → d.rank < x.rank)
      ∧ (s.displaceable r = none → ∀ x ∈ s.queue, x.operator = none → r ≤ x.rank))
    ∧ (∀ (s : State) (pile priority cannon : Byte) (i : Fin 48) (p : Pile) (r : Priority)
      (named : Option (Fin 24)) (before after : List Order) (o x : Order), s.Accepts →
      (s.control.mode = .active ∨ s.control.mode = .held) → pile.toNat = i.val →
      priority.toNat = r.code → cannon.toNat = (named.map (·.val)).getD 255 →
      s.geometry.piles.get i = some p → (s.watch.living.get i).engaged = false →
      (∀ k, named = some k → ∃ c, s.geometry.cannons.get k = some c ∧ c.coversPile p = true) →
      s.queue = before ++ o :: after → o.pile = i → (∀ y ∈ before ++ after, y.pile ≠ i) →
      x = { o with
        operator := some (if o.operator = some .high ∨ r = .high then .high else .normal), named } →
      exec (.order pile priority cannon) s = .next (({ s with
        queue := before ++ x :: after
        engine := { s.engine with
          asked := if x.rank ≠ o.rank ∨ o.named ≠ named then Table.fill 4 true else s.engine.asked } } :
        State).commandEnd Code.order (some (.merged, pile))))
    ∧ ∀ (s : State) (i : Fin 48) (u : Urgency),
      ((∀ x ∈ s.queue, x.pile ≠ i) →
        s.offer i .none = s
        ∧ ∀ w o, u.want = some w →
          o = { pile := i, watch := some w, operator := none, named := none,
                entered := ⟨s.clock.day, s.clock.second⟩, waiting := .none } →
          (s.queue.length < 16 → s.offer i u = { s with
            queue := s.queue ++ [o]
            watch := { s.watch with
              living := s.watch.living.modify i fun l => { l with unqueued := false } }
            engine := { s.engine with asked := Table.fill 4 true } })
          ∧ (16 ≤ s.queue.length → ∀ d, s.displaceable o.rank = some d → s.offer i u = { s with
            queue := s.queue.filter (fun x => x.pile != d.pile) ++ [o]
            watch := { s.watch with
              living := (s.watch.living.modify d.pile fun l =>
                { l with carried := false, unqueued := true }).modify i fun l =>
                  { l with unqueued := false } }
            engine := { s.engine with asked := Table.fill 4 true } })
          ∧ (16 ≤ s.queue.length → s.displaceable o.rank = none → s.offer i u = { s with
            watch := { s.watch with
              living := s.watch.living.modify i fun l => { l with unqueued := true } } }))
      ∧ ∀ before after o, s.queue = before ++ o :: after → o.pile = i →
        (∀ y ∈ before ++ after, y.pile ≠ i) →
        (u = .none → o.operator = none → o.watch.isSome = true → s.offer i u = { s with
          queue := before ++ after
          watch := { s.watch with
            living := s.watch.living.modify i fun l => { l with carried := false } } })
        ∧ (u = .none → o.watch = none → s.offer i u = s)
        ∧ ((u ≠ .none ∨ o.operator.isSome = true) → ∀ x : Order, x = { o with watch := u.want } →
          s.offer i u = { s with
            queue := before ++ x :: after
            engine := { s.engine with
              asked := if x.rank ≠ o.rank then Table.fill 4 true else s.engine.asked } })

/-- 05 R97: WITHDRAW is refused RANGE above 47 and NO_SUCH without an order or an operator part; else the
operator part and the name go, and the order with them where no watch part is left. -/
def Obligations.WithdrawRemovesTheOperatorPart : Prop :=
  ∀ (s : State) (pile : Byte), s.Accepts →
    (47 < pile.toNat → exec (.withdraw pile) s = .next (s.commandEnd Code.withdraw (some (.range, 0))))
    ∧ ∀ i : Fin 48, pile.toNat = i.val →
      ((∀ o ∈ s.queue, o.pile ≠ i) →
        exec (.withdraw pile) s = .next (s.commandEnd Code.withdraw (some (.noSuch, pile))))
      ∧ ∀ before after o, s.queue = before ++ o :: after → o.pile = i →
        (∀ y ∈ before ++ after, y.pile ≠ i) →
        (o.operator = none →
          exec (.withdraw pile) s = .next (s.commandEnd Code.withdraw (some (.noSuch, pile))))
        ∧ (o.operator.isSome = true → o.watch = none →
          exec (.withdraw pile) s = .next (({ s with
            queue := before ++ after
            watch := { s.watch with
              living := s.watch.living.modify i fun l => { l with carried := false } } } :
            State).commandEnd Code.withdraw (some (.done, pile))))
        ∧ (o.operator.isSome = true → o.watch.isSome = true →
          ∀ x : Order, x = { o with operator := none, named := none } →
          exec (.withdraw pile) s = .next (({ s with
            queue := before ++ x :: after
            engine := { s.engine with
              asked := if x.rank ≠ o.rank then Table.fill 4 true else s.engine.asked } } :
            State).commandEnd Code.withdraw (some (.done, pile))))

/-- 05 R101, R102: how a request from a main judges an order, by the first test that fails or as a
candidate with its cannon and its source; and the candidate it selects: the highest rank, then the open
source, then the oldest. The candidates stand in position order. 05 R101, R103: every order of the queue gets
the Waiting reason of its judgement (MAIN where it is a candidate; one left to other mains keeps its own), and
UNSERVED is raised for each order whose reason becomes NO_CANNON. -/
def Obligations.RequestJudgesAndSelects : Prop :=
  (∀ (s : State) (m : Fin 4) (o : Order) (p : Pile) (usable : Fin 24 → Prop),
      s.geometry.piles.get o.pile = some p →
      (∀ k, usable k ↔ ∃ c, s.geometry.cannons.get k = some c ∧ c.enabled = true
        ∧ c.coversPile p = true ∧ (∀ n, o.named = some n → n = k) ∧ c.bays s.geometry p ≠ []) →
      ∀ here : Fin 24 → Prop,
      (∀ k, here k ↔ usable k ∧ ∃ c, s.geometry.cannons.get k = some c ∧ c.main = m) →
      ((∀ k, ¬ usable k) → s.judge m o = .noCannon)
      ∧ ((∃ k, usable k) → (∀ k, ¬ here k) → s.judge m o = .elsewhere)
      ∧ ((∃ k, here k) → s.machinePresent p.bed = true → s.judge m o = .machine)
      ∧ ((∃ k, here k) → s.machinePresent p.bed = false → (∀ k, here k → s.engine.blocked.get k = true) →
        s.judge m o = .wind)
      ∧ ∀ k c, here k → s.machinePresent p.bed = false → s.engine.blocked.get k = false →
        s.geometry.cannons.get k = some c →
        (∀ j d, here j → s.engine.blocked.get j = false → s.geometry.cannons.get j = some d →
          d.baysPlanned s.geometry p < c.baysPlanned s.geometry p
            ∨ (d.baysPlanned s.geometry p = c.baysPlanned s.geometry p ∧ k ≤ j)) →
        ∀ choice, choice = s.chooseSource m (s.watch.grades.get p.grade).clarityLimit o.rank
          (c.plannedVolume s.geometry p) →
        (choice = none → s.judge m o = .water)
        ∧ ∀ x, choice = some x → s.judge m o = .candidate k x)
    ∧ (∀ (cs : List Candidate) (opened : Option (Fin 6)),
      (selectCandidate cs opened = none ↔ cs = [])
      ∧ ∀ x, selectCandidate cs opened = some x →
        ∃ before after, cs = before ++ x :: after
          ∧ (∀ y ∈ cs, y.order.rank ≤ x.order.rank)
          ∧ ((∃ y ∈ cs, y.order.rank = x.order.rank ∧ some y.source = opened) → some x.source = opened)
          ∧ ∀ y ∈ before, y.order.rank = x.order.rank →
            some x.source = opened ∧ some y.source ≠ opened)
    ∧ (∀ (s : State) (m : Fin 4),
      ((s.candidates m).map (·.order)).Sublist s.queue
      ∧ ∀ x : Candidate, x ∈ s.candidates m ↔
        x.order ∈ s.queue ∧ s.judge m x.order = .candidate x.cannon x.source)
    ∧ ∀ (s t : State) (m : Fin 4) (raises : Order → Prop), t = s.recordReasons m →
      (∀ o, raises o ↔ s.judge m o = .noCannon ∧ o.waiting ≠ .noCannon) →
      t.frame = s.frame ∧ t.watch = s.watch ∧ t.engine = s.engine ∧ t.water = s.water
        ∧ t.queue = s.queue.map (fun o => { o with
            waiting := match s.judge m o with
              | .noCannon => .noCannon
              | .elsewhere => o.waiting
              | .machine => .machine
              | .wind => .wind
              | .water => .water
              | .candidate _ _ => .main })
        ∧ ((∀ o ∈ s.queue, ¬ raises o) → t.notices = s.notices)
        ∧ ∀ before o after, s.queue = before ++ o :: after → raises o → (∀ x ∈ after, ¬ raises x) →
          t.notices = { s.notices with
            pending := s.notices.pending.put NoticeKind.unserved.place true
            subjects := s.notices.subjects.put NoticeKind.unserved.place o.pile.val }

/-! ## Pass Engine -/

/-- 06 R107: a main is available where it is CLOSED or OPEN and the yard ACTIVE. 06 R110, R111: what a dispatch
attempt on an available main does: it resumes the resumable pass whose suspension was first (by the number log 21
gives a suspension), ahead of every order; with no such pass and no FREE context it does nothing; else it starts
the selected order in the lowest FREE context, or records the judgements where no order is. 05 R102; 03 R44: an
order that is taken leaves the queue, and its pile is engaged with Carried and Unqueued clear. An attempt on a main
that is not available does nothing. -/
def Obligations.AttemptTakesTheFirstStep : Prop :=
  (∀ (s : State) (m : Fin 4), s.available m = true ↔ s.control.mode = .active
      ∧ ((s.engine.mains.get m).state = .closed ∨ (s.engine.mains.get m).state = .opened))
    ∧ (∀ (s : State) (e : Option (Fin 5)) (m : Fin 4), s.available m = true →
    (∀ c p, s.engine.contexts.get c = some p → p.main = m → p.state = .suspended → p.wind = false →
      p.machine = false →
      (∀ d q, s.engine.contexts.get d = some q → q.main = m → q.state = .suspended → q.wind = false →
        q.machine = false → d ≠ c → p.suspension < q.suspension) →
      s.attempt e m = s.prime e c { p with limitTimer := none, since := none })
    ∧ ((∀ c p, s.engine.contexts.get c = some p → p.main = m → p.state = .suspended →
        p.wind = true ∨ p.machine = true) →
      ((∀ c, (s.engine.contexts.get c).isSome = true) → s.attempt e m = s)
      ∧ ∀ c, s.engine.contexts.get c = none → (∀ d, d < c → (s.engine.contexts.get d).isSome = true) →
        (selectCandidate (s.candidates m) (s.engine.mains.get m).openSource = none →
          s.attempt e m = s.recordReasons m)
        ∧ ∀ x, selectCandidate (s.candidates m) (s.engine.mains.get m).openSource = some x →
          s.attempt e m = ((s.recordReasons m).takeOrder x.order.pile).startPass e c m x))
    ∧ (∀ (s : State) (i : Fin 48), s.takeOrder i = { s with
        queue := s.queue.filter (fun o => o.pile != i)
        watch := { s.watch with
          living := s.watch.living.put i { s.watch.living.get i with
            engaged := true, carried := false, unqueued := false } } })
    ∧ ∀ (s : State) (e : Option (Fin 5)) (m : Fin 4), s.available m = false → s.attempt e m = s

/-- 06 R113, R115; 04 R70: the bay list of a plan: the bays of the pile's window at steps of Skip + 1 from
its first bay, or from its last with Reverse, without the bays of present exclusions; and a pass that
starts on a main with its flow line inactive: the plan is reserved, the source selected, the main PRIMING
with the pass in its context, the prime warm only on the source that stood open, and the prime timer with
the time of its kind. 06 R116, R123: a start and a resume end in the same prime, which selects the pass's
source and leaves its reservation and the bays and water behind it as they are; where the flow line is active the
pump does not run, and the pass ends NO_FLOW with the main FAULTED STRAY. (That a resume first stops the limit
timer and clears Suspended since is in AttemptTakesTheFirstStep.) Two parts of the new pass's record are the model's
and not the spec's: it keeps the cannon's Dwell, Flow and Alternate as they stood when its plan was built (log 18),
and it has the number 0 among the suspensions until it is first suspended (log 21). -/
def Obligations.StartPrimesTheMain : Prop :=
  (∀ (g : Geometry) (p : Pile) (skip : Nat) (bays : List Nat),
      (bays = planBays g p skip false →
        bays.Pairwise (· < ·)
          ∧ ∀ b, b ∈ bays ↔ (∃ j, b = p.start + j * (skip + 1)) ∧ b < p.start + p.length
            ∧ g.excluded p.bed b = false)
      ∧ (bays = planBays g p skip true →
        bays.Pairwise (· > ·)
          ∧ ∀ b, b ∈ bays ↔ (∃ j, b + j * (skip + 1) + 1 = p.start + p.length) ∧ p.start ≤ b
            ∧ g.excluded p.bed b = false))
    ∧ (∀ (s t : State) (e : Option (Fin 5)) (c : Fin 8) (m : Fin 4) (x : Candidate) (p : Pile) (k : Cannon)
      (kind : PrimeKind) (seconds : Nat),
      s.geometry.piles.get x.order.pile = some p → s.geometry.cannons.get x.cannon = some k →
      (s.field.lines.flow.get m).filtered = false → t = s.startPass e c m x →
      kind = (if (s.engine.mains.get m).state = .opened
        ∧ (s.engine.mains.get m).openSource = some x.source then .warm else .cold) →
      seconds = (match kind with
        | .warm => (s.engine.mains.get m).warmPrime
        | .cold => (s.engine.mains.get m).coldPrime) →
      t.engine.mains = s.engine.mains.put m { s.engine.mains.get m with
          state := .priming, openSource := some x.source, context := some c }
        ∧ t.engine.contexts = s.engine.contexts.put c (some
            { state := .priming, pile := x.order.pile, cannon := x.cannon, main := m, source := x.source,
              clarity := s.water.clarity x.source, bays := k.bays s.geometry p, repeats := k.repeats,
              alternate := k.alternate, dwell := k.dwell, flow := k.flow, cursorRepeat := 0,
              rest := k.bays s.geometry p, cursorSeconds := 0,
              baysPlanned := (k.bays s.geometry p).length * k.repeats, baysDone := 0,
              planned := ((k.bays s.geometry p).length * k.repeats * k.dwell * k.flow + 59) / 60,
              deducted := 0, runningSeconds := 0, wind := false, machine := false, since := none,
              suspension := 0, prime := kind, primeTimer := some seconds, dwellTimer := none,
              limitTimer := none })
        ∧ t.frame = s.frame ∧ t.queue = s.queue ∧ t.watch = s.watch ∧ t.notices = s.notices
        ∧ (∀ b : Fin 5, x.source.val = b.val → t.water = { s.water with
            basins := s.water.basins.modify b fun y => { y with
              reserved := y.reserved
                + ((k.bays s.geometry p).length * k.repeats * k.dwell * k.flow + 59) / 60 } })
        ∧ (x.source = 5 → t.water = { s.water with
            fresh := { s.water.fresh with
              reserved := s.water.fresh.reserved
                + ((k.bays s.geometry p).length * k.repeats * k.dwell * k.flow + 59) / 60 } }))
    ∧ (∀ (s : State) (e : Option (Fin 5)) (c : Fin 8) (m : Fin 4) (x : Candidate) (p : Pile) (k : Cannon),
      s.geometry.piles.get x.order.pile = some p → s.geometry.cannons.get x.cannon = some k →
      ∃ (u : State) (q : Pass), s.startPass e c m x = u.prime e c q
        ∧ q.main = m ∧ q.source = x.source ∧ q.pile = x.order.pile ∧ q.cannon = x.cannon
        ∧ q.baysDone = 0 ∧ q.runningSeconds = 0 ∧ q.deducted = 0
        ∧ q.planned = ((k.bays s.geometry p).length * k.repeats * k.dwell * k.flow + 59) / 60
        ∧ u.engine = s.engine ∧ u.field = s.field ∧ u.frame = s.frame ∧ u.watch = s.watch
        ∧ u.queue = s.queue ∧ u.notices = s.notices
        ∧ ∀ y, u.water.reserved y = s.water.reserved y + (if y = x.source then q.planned else 0))
    ∧ ∀ (s t : State) (e : Option (Fin 5)) (c : Fin 8) (p : Pass) (kind : PrimeKind) (seconds : Nat),
      t = s.prime e c p →
      kind = (if (s.engine.mains.get p.main).state = .opened
        ∧ (s.engine.mains.get p.main).openSource = some p.source then .warm else .cold) →
      seconds = (match kind with
        | .warm => (s.engine.mains.get p.main).warmPrime
        | .cold => (s.engine.mains.get p.main).coldPrime) →
      ((s.field.lines.flow.get p.main).filtered = false →
        t.frame = s.frame ∧ t.watch = s.watch ∧ t.queue = s.queue ∧ t.water = s.water
        ∧ t.notices = s.notices ∧ t.control = s.control
        ∧ t.engine = { s.engine with
            mains := s.engine.mains.put p.main { s.engine.mains.get p.main with
              state := .priming, openSource := some p.source, context := some c }
            contexts := s.engine.contexts.put c (some { p with
              state := .priming, prime := kind, primeTimer := some seconds }) })
      ∧ ((s.field.lines.flow.get p.main).filtered = true →
        ∃ u : State, t = u.endPass e c (.noFlow .stray) true
          ∧ u.frame = s.frame ∧ u.watch = s.watch ∧ u.queue = s.queue ∧ u.water = s.water
          ∧ u.notices = s.notices
          ∧ u.engine.contexts = s.engine.contexts.put c (some { p with prime := kind })
          ∧ t.frame = s.frame ∧ t.engine.contexts = s.engine.contexts.put c none
          ∧ t.engine.mains = s.engine.mains.put p.main { s.engine.mains.get p.main with
              state := .faulted, openSource := none, context := none, fault := some .stray }
          ∧ t.notices.pending.get NoticeKind.mainFault.place = true
          ∧ t.notices.subjects.get NoticeKind.mainFault.place = p.main.val
          ∧ t.control.lastEnded = some (p.pile, .noFlow .stray)
          ∧ t.engine.asked = Table.fill 4 true)

/-- 06 R117, R125, R126, R128: the prime timer's expiry ends its pass NO_FLOW: the main is FAULTED with cause
NO_FLOW and holds no source, the context is FREE, MAIN_FAULT and PASS_ENDED are raised. That end is
`State.endPass`, as every end of a pass, so its settlement and its main are those of DwellAndSuspensionLimit and
its report the one below. CLEAR above 3 is refused RANGE, of a main that is not FAULTED STATE; else the main is
CLOSED with no fault cause and an attempt on it is asked for. 03 R61 to R65; 06 R127: every pass end hands Pile
Watch a report: the Last wetting stamp is written whole and Engaged cleared; where bays were done the moisture
credit is given, the deferral count and the flags cleared, the bed's Pass count moved on and the Bed mark with it,
and every other present pile of the bed is tested in ascending index: one that the sweep-due test finds due is
marked and its Urgency raised, and the offer rule is applied to it, before the next is tested; then the pile is
re-evaluated. An expiry takes effect only where its timer has run out (06 R129; log 3). -/
def Obligations.FaultAndClear : Prop :=
  (∀ (s : State) (c : Fin 8), s.live = true →
      (∀ p, s.engine.contexts.get c = some p → p.primeTimer = some 0 →
        ∃ u : State, exec (.primeTimerExpiry c) s = .next u.eventEnd
          ∧ u = s.endPass none c (.noFlow .noFlow) true ∧ u.frame = s.frame ∧ u.engine.contexts = s.engine.contexts.put c none
          ∧ u.engine.mains = s.engine.mains.put p.main { s.engine.mains.get p.main with
              state := .faulted, openSource := none, context := none, fault := some .noFlow }
          ∧ u.control.lastEnded = some (p.pile, .noFlow .noFlow)
          ∧ u.notices.pending.get NoticeKind.mainFault.place = true
          ∧ u.notices.subjects.get NoticeKind.mainFault.place = p.main.val
          ∧ u.notices.pending.get NoticeKind.passEnded.place = true
          ∧ u.notices.subjects.get NoticeKind.passEnded.place = p.pile.val
          ∧ ((∀ m, m ≠ p.main → (s.engine.mains.get m).state = .faulted) → u.notices.allFaulted = true)
          ∧ u.engine.asked = Table.fill 4 true)
      ∧ ((∀ p, s.engine.contexts.get c = some p → p.primeTimer ≠ some 0) →
        exec (.primeTimerExpiry c) s = .next s.eventEnd))
    ∧ (∀ (s : State) (main : Byte), s.Accepts →
      (3 < main.toNat → exec (.clear main) s = .next (s.commandEnd Code.clear (some (.range, main))))
      ∧ ∀ m : Fin 4, m.val = main.toNat →
        ((s.engine.mains.get m).state ≠ .faulted →
          exec (.clear main) s = .next (s.commandEnd Code.clear (some (.state, main))))
        ∧ ((s.engine.mains.get m).state = .faulted →
          exec (.clear main) s = .next (({ s with
            engine := { s.engine with
              mains := s.engine.mains.put m { s.engine.mains.get m with state := .closed, fault := none }
              asked := s.engine.asked.put m true } } : State).commandEnd Code.clear
                (some (.done, main)))))
    ∧ (∀ (s t : State) (x : Option (Fin 5)) (c : Fin 8) (p : Pass) (e : PassEnd) (offers : Bool),
      s.engine.contexts.get c = some p → t = s.endPass x c e offers →
      ∃ u : State, u.frame = s.frame ∧ u.watch = s.watch ∧ u.queue = s.queue
        ∧ u.engine.contexts = s.engine.contexts.put c none
        ∧ ∀ r : EndReport, r = { pile := p.pile, cannon := p.cannon, source := p.source, ending := e,
                                 baysDone := p.baysDone, baysPlanned := p.baysPlanned,
                                 delivered := p.finalDelivered e, clarity := p.clarity } →
          t.watch = (u.takeEndReport r offers).watch ∧ t.queue = (u.takeEndReport r offers).queue
          ∧ t.engine.contexts = s.engine.contexts.put c none ∧ t.frame = s.frame
          ∧ t.engine.asked = Table.fill 4 true ∧ t.control.lastEnded = some (p.pile, e)
          ∧ t.notices.pending.get NoticeKind.passEnded.place = true
          ∧ t.notices.subjects.get NoticeKind.passEnded.place = p.pile.val)
    ∧ ∀ (s : State) (r : EndReport) (offers : Bool) (p : Pile) (l : Living) (stamp : Wetting) (n : Word16),
      s.geometry.piles.get r.pile = some p → l = s.watch.living.get r.pile →
      stamp = { time := ⟨s.clock.day, s.clock.second⟩, ending := r.ending, cannon := r.cannon,
                source := r.source, baysDone := r.baysDone, baysPlanned := r.baysPlanned,
                delivered := r.delivered, basis := (s.windBasis ⟨s.clock.day, s.clock.second⟩).kind,
                sector := (s.windBasis ⟨s.clock.day, s.clock.second⟩).sector, gust := s.engine.gust,
                clarity := r.clarity } →
      n = s.watch.passCount.get p.bed + 1 →
      (r.baysDone = 0 → s.takeEndReport r offers = ({ s with
        watch := { s.watch with
          living := s.watch.living.put r.pile { l with wetting := some stamp, engaged := false } } } :
        State).reevaluate r.pile offers)
      ∧ (0 < r.baysDone → ∃ u : State, s.takeEndReport r offers = u.reevaluate r.pile offers
        ∧ u.frame = s.frame ∧ u.water = s.water ∧ u.notices = s.notices ∧ u.control = s.control
        ∧ u.watch.mustCount = s.watch.mustCount ∧ u.watch.passCount = s.watch.passCount.put p.bed n
        ∧ u.watch.living.get r.pile = { l with
            wetting := some stamp, engaged := false
            moisture := min 100 (l.moisture + (match s.geometry.cannons.get r.cannon with
              | some k => k.gain
              | none => 0) * r.baysDone / r.baysPlanned)
            deferral := 0, escalated := false, sweepDue := false, bedMark := n
            carried := (u.watch.living.get r.pile).carried
            unqueued := (u.watch.living.get r.pile).unqueued }
        ∧ ∀ j, j ≠ r.pile → ∀ (old new : Living) (due : Prop), old = s.watch.living.get j →
          new = u.watch.living.get j →
          (due ↔ (∃ q, s.geometry.piles.get j = some q ∧ q.bed = p.bed)
            ∧ (s.geometry.beds.get p.bed).sweepLimit ≠ 0
            ∧ (s.geometry.beds.get p.bed).sweepLimit ≤ (n - old.bedMark).toNat ∧ old.sweepDue = false) →
          (¬ due → new = { old with carried := new.carried, unqueued := new.unqueued })
          ∧ (due → new = { old with
              sweepDue := true
              urgency := if old.urgency = .must then .must else .need
              carried := new.carried, unqueued := new.unqueued })
          ∧ (due → old.engaged = false → (s.control.mode = .active ∨ s.control.mode = .held) →
              (∃ o ∈ u.queue, o.pile = j) ∨ new.unqueued = true))
      ∧ (0 < r.baysDone → ∀ (next : State → Fin 48 → State) (v : State),
        (∀ w j, w.geometry.piles.get j = none → next w j = w) →
        (∀ w j q d, w.geometry.piles.get j = some q → d = w.watch.living.get j → ∀ due : Prop,
          (due ↔ q.bed = p.bed ∧ j ≠ r.pile ∧ (w.geometry.beds.get p.bed).sweepLimit ≠ 0
            ∧ (w.geometry.beds.get p.bed).sweepLimit ≤ (w.watch.passCount.get p.bed - d.bedMark).toNat
            ∧ d.sweepDue = false) →
          (¬ due → next w j = w)
          ∧ (due → next w j = ({ w with
            watch := { w.watch with
              living := w.watch.living.put j { d with
                sweepDue := true, urgency := if d.urgency = .must then .must else .need } } } :
                  State).offerRule j)) →
        v = { s with
          watch := { s.watch with
            living := s.watch.living.put r.pile { l with
              wetting := some stamp, engaged := false
              moisture := min 100 (l.moisture + (match s.geometry.cannons.get r.cannon with
                | some k => k.gain
                | none => 0) * r.baysDone / r.baysPlanned)
              deferral := 0, escalated := false, sweepDue := false, bedMark := n }
            passCount := s.watch.passCount.put p.bed n } } →
        s.takeEndReport r offers = ((List.finRange 48).foldl next v).reevaluate r.pile offers)

/-- 06 R114, R118, R119, R124: the dwell timer's expiry counts the bay; where a bay is left the cursor moves to it
with 0 seconds and the timer starts again, and where none is the pass ends FULL, with that bay counted. The
suspension limit's expiry ends the pass CUT_SHORT with reason SUSPEND_LIMIT. Both ends are `State.endPass`, whose
report is in FaultAndClear and whose main and settlement follow here. Where no such timer has run out there is no
expiry (06 R129, R130; log 3). Delivered VU of a live pass is the Flow times the Running seconds over 60, rounded
down, and at most Planned VU. 06 R128: the main of every ended pass: FAULTED at a fault; else, of a PRIMING or
RUNNING pass, OPEN on the pass's source where that is usable after the settlement and CLOSED where not; of a
SUSPENDED pass unchanged, but CLOSED where it is OPEN on a source that is not usable. 04 R69, R71, R72, R73, R79,
R81: a pass end deducts at its source what was drawn since the last deduction and releases the rest of the plan;
runoff goes into the bed's Collection basin with overflow, stirs it and starts its settle timer; the low test
follows on each basin whose Level changed, but for the basin whose passes a GAUGE is cutting, and WATER_LOW is
raised with a basin that entered the low condition as subject, and left as it was where none did. The Dwell, Flow
and Alternate of a pass are those it has kept of its cannon (log 18). -/
def Obligations.DwellAndSuspensionLimit : Prop :=
  (∀ (s : State) (c : Fin 8), s.live = true →
      (∀ p bay rest, s.engine.contexts.get c = some p → p.dwellTimer = some 0 → p.rest = bay :: rest →
        ∀ q, q = { p with
            baysDone := p.baysDone + 1, cursorSeconds := 0, dwellTimer := some p.dwell } →
        (rest ≠ [] → exec (.bayDwellExpiry c) s = .next (({ s with
          engine := { s.engine with
            contexts := s.engine.contexts.put c (some { q with rest }) } } : State).eventEnd))
        ∧ (rest = [] → p.cursorRepeat + 1 < p.repeats → p.bays ≠ [] →
          exec (.bayDwellExpiry c) s = .next (({ s with
            engine := { s.engine with
              contexts := s.engine.contexts.put c (some { q with
                cursorRepeat := p.cursorRepeat + 1
                rest := if p.alternate = true ∧ (p.cursorRepeat + 1) % 2 = 1 then p.bays.reverse
                  else p.bays }) } } : State).eventEnd))
        ∧ (rest = [] → p.repeats ≤ p.cursorRepeat + 1 →
          ∃ u : State, exec (.bayDwellExpiry c) s = .next u.eventEnd
            ∧ u = ({ s with
                engine := { s.engine with
                  contexts := s.engine.contexts.put c (some { p with
                    baysDone := p.baysDone + 1, rest := [], cursorSeconds := 0 }) } } : State).endPass
                      none c .full true
            ∧ u.frame = s.frame ∧ u.engine.contexts = s.engine.contexts.put c none
            ∧ u.control.lastEnded = some (p.pile, .full) ∧ u.engine.asked = Table.fill 4 true))
      ∧ ((∀ p, s.engine.contexts.get c = some p → p.dwellTimer ≠ some 0) →
        exec (.bayDwellExpiry c) s = .next s.eventEnd))
    ∧ (∀ (s : State) (c : Fin 8), s.live = true →
      (∀ p, s.engine.contexts.get c = some p → p.limitTimer = some 0 →
        ∃ u : State, exec (.suspensionLimitExpiry c) s = .next u.eventEnd
          ∧ u = s.endPass none c (.cutShort .suspendLimit) true ∧ u.frame = s.frame ∧ u.engine.contexts = s.engine.contexts.put c none
          ∧ u.control.lastEnded = some (p.pile, .cutShort .suspendLimit)
          ∧ u.notices.pending.get NoticeKind.passEnded.place = true
          ∧ u.notices.subjects.get NoticeKind.passEnded.place = p.pile.val
          ∧ u.engine.asked = Table.fill 4 true)
      ∧ ((∀ p, s.engine.contexts.get c = some p → p.limitTimer ≠ some 0) →
        exec (.suspensionLimitExpiry c) s = .next s.eventEnd))
    ∧ (∀ p : Pass, p.delivered ≤ p.planned
      ∧ (60 * p.planned ≤ p.flow * p.runningSeconds → p.delivered = p.planned)
      ∧ (p.flow * p.runningSeconds < 60 * p.planned →
          60 * p.delivered ≤ p.flow * p.runningSeconds
            ∧ p.flow * p.runningSeconds < 60 * p.delivered + 60)
      ∧ p.finalDelivered .full = p.planned
      ∧ (∀ r, p.finalDelivered (.cutShort r) = p.delivered)
      ∧ ∀ r, p.finalDelivered (.noFlow r) = p.delivered)
    ∧ (∀ (s t : State) (exempt : Option (Fin 5)) (c : Fin 8) (p : Pass) (e : PassEnd) (offers : Bool)
      (usable : Fin 6 → Prop) (before after : Main),
      s.engine.contexts.get c = some p → t = s.endPass exempt c e offers →
      (∀ x, usable x ↔ (x = 5 ∧ t.water.fresh.isolated = false) ∨ ∃ b : Fin 5, x.val = b.val
        ∧ ((t.water.basins.get b).state = .ready ∨ (t.water.basins.get b).state = .settling)) →
      before = s.engine.mains.get p.main → after = t.engine.mains.get p.main →
      (∀ m, m ≠ p.main → t.engine.mains.get m = s.engine.mains.get m)
      ∧ (∀ cause, e = .noFlow cause → after = { before with
          state := .faulted, openSource := none, context := none, fault := some cause })
      ∧ ((∀ cause, e ≠ .noFlow cause) →
        (p.state ≠ .suspended → usable p.source → after = { before with
          state := .opened, openSource := some p.source, context := none })
        ∧ (p.state ≠ .suspended → ¬ usable p.source → after = { before with
          state := .closed, openSource := none, context := none })
        ∧ (p.state = .suspended → (before.state ≠ .opened ∨ ∃ x, before.openSource = some x ∧ usable x) →
          after = before)
        ∧ (p.state = .suspended → before.state = .opened → (∀ x, before.openSource = some x → ¬ usable x) →
          after = { before with state := .closed, openSource := none, context := none })))
    ∧ ∀ (s t : State) (exempt : Option (Fin 5)) (c : Fin 8) (p : Pass) (e : PassEnd) (offers : Bool)
      (delivered drawn rest : Nat),
      s.engine.contexts.get c = some p → t = s.endPass exempt c e offers →
      delivered = (if e = .full then p.planned
        else min p.planned (p.flow * p.runningSeconds / 60)) →
      drawn = delivered - p.deducted → rest = p.planned - delivered →
      (∀ enters : Fin 5 → Prop, (∀ b, enters b ↔ (s.water.basins.get b).low = false
          ∧ (t.water.basins.get b).low = true) →
        ((∃ b, enters b) → t.notices.pending.get NoticeKind.waterLow.place = true
          ∧ ∃ b, enters b ∧ t.notices.subjects.get NoticeKind.waterLow.place = b.val)
        ∧ ((∀ b, ¬ enters b) → t.notices.pending.get NoticeKind.waterLow.place
              = s.notices.pending.get NoticeKind.waterLow.place
            ∧ t.notices.subjects.get NoticeKind.waterLow.place
              = s.notices.subjects.get NoticeKind.waterLow.place))
      ∧ (p.source = 5 → t.water.fresh = { s.water.fresh with
        used := s.water.fresh.used + drawn, reserved := s.water.fresh.reserved - (drawn + rest) })
      ∧ (p.source ≠ 5 → t.water.fresh = s.water.fresh)
      ∧ ∀ (b : Fin 5) (x y : Basin) (level added : Nat) (source changed : Prop), x = s.water.basins.get b →
        y = t.water.basins.get b → (source ↔ p.source.val = b.val) →
        (source → level = x.level - drawn) → (¬ source → level = x.level) →
        (∀ q, s.geometry.piles.get p.pile = some q → added =
          (if (s.geometry.beds.get q.bed).collection = some b then
            delivered * (s.geometry.beds.get q.bed).returnPercent / 100 else 0)) →
        (s.geometry.piles.get p.pile = none → added = 0) →
        (changed ↔ source ∧ 0 < drawn ∨ 0 < added) →
        y = { x with
            level := y.level, reserved := y.reserved, spilled := y.spilled, clarity := y.clarity,
            settle := y.settle, low := y.low }
        ∧ (source → y.reserved = x.reserved - (drawn + rest)) ∧ (¬ source → y.reserved = x.reserved)
        ∧ ((added = 0 ∨ level + added ≤ x.capacity) → y.level = level + added ∧ y.spilled = x.spilled)
        ∧ (0 < added → x.capacity < level + added → y.level = x.capacity
            ∧ y.spilled = min 65535 (x.spilled + (level + added - x.capacity))
            ∧ t.notices.pending.get NoticeKind.spill.place = true
            ∧ t.notices.subjects.get NoticeKind.spill.place = b.val)
        ∧ (added = 0 → y.clarity = x.clarity ∧ y.settle = x.settle)
        ∧ (0 < added → 0 < x.settleTime →
            y.clarity = max x.clarity 2 ∧ y.settle = some (60 * x.settleTime))
        ∧ (0 < added → x.settleTime = 0 → y.clarity = x.baseClarity ∧ y.settle = none)
        ∧ ((exempt = some b ∨ ¬ changed) → y.low = x.low)
        ∧ (exempt ≠ some b → changed → (y.low = true ↔
            if x.low = true then y.level < x.floor + x.restoreMargin
            else y.level < x.floor ∨ y.level < x.floor + y.reserved))

/-- 06 R114, R117, R118, R120: a flow line becoming ACTIVE runs the pass its PRIMING main serves, with the dwell
less the seconds the cursor holds, or with the bay finished where its dwell is spent: the next bay follows, or the
first of the next repeat where it was the last of its walk, or the pass ends FULL where it was the last of the plan
(the pins show the opened valve before that end, log 23); becoming INACTIVE it ends the pass its RUNNING main
serves NO_FLOW, with cause FLOW_LOST, by `State.endPass` (FaultAndClear, DwellAndSuspensionLimit), with the line
already INACTIVE; in every other state of the main it changes the line alone. The Dwell and Alternate of a pass are
those it has kept of its cannon (log 18). -/
def Obligations.FlowLineRunsOrFaults : Prop :=
  ∀ (s : State) (m : Fin 4) (l : InputLine), s.live = true → s.NoneAsked →
    l = s.field.lines.flow.get m → l.qualify = some 0 → l.reads ≠ l.filtered →
    ∀ lines : Lines, lines = { s.field.lines with
      flow := s.field.lines.flow.put m { l with filtered := l.reads, qualify := none } } →
    (∀ c p, l.reads = true → (s.engine.mains.get m).state = .priming →
      (s.engine.mains.get m).context = some c → s.engine.contexts.get c = some p →
      ∀ runs : Pass → State, (runs = fun q => { s with
        field := { s.field with lines }
        engine := { s.engine with
          mains := s.engine.mains.put m { s.engine.mains.get m with state := .running }
          contexts := s.engine.contexts.put c (some { q with state := .running, primeTimer := none }) } }) →
      (p.cursorSeconds < p.dwell → exec (.qualifyingTimerExpiry (.flow m)) s =
        .next (runs { p with dwellTimer := some (p.dwell - p.cursorSeconds) }).conclude)
      ∧ (∀ bay next rest, p.dwell ≤ p.cursorSeconds → p.rest = bay :: next :: rest →
        exec (.qualifyingTimerExpiry (.flow m)) s = .next (runs { p with
          baysDone := p.baysDone + 1, rest := next :: rest, cursorSeconds := 0,
          dwellTimer := some p.dwell }).conclude)
      ∧ (∀ bay, p.dwell ≤ p.cursorSeconds → p.rest = [bay] → p.cursorRepeat + 1 < p.repeats → p.bays ≠ [] →
        exec (.qualifyingTimerExpiry (.flow m)) s = .next (runs { p with
          baysDone := p.baysDone + 1, cursorRepeat := p.cursorRepeat + 1, cursorSeconds := 0
          rest := if p.alternate = true ∧ (p.cursorRepeat + 1) % 2 = 1 then p.bays.reverse else p.bays
          dwellTimer := some p.dwell }).conclude)
      ∧ (∀ bay, p.dwell ≤ p.cursorSeconds → p.rest = [bay] → p.repeats ≤ p.cursorRepeat + 1 →
        ∀ v u : State,
        v = runs { p with baysDone := p.baysDone + 1, rest := [], cursorSeconds := 0 } →
        u = ({ v with
          field := { v.field with
            pins := v.pinsFollowed, made := v.field.made ++ pinChanges v.field.pins v.pinsFollowed } } :
            State).endPass none c .full true →
        exec (.qualifyingTimerExpiry (.flow m)) s = .next (u.runAttempts none).eventEnd
          ∧ u.frame = { s.frame with lines } ∧ u.engine.contexts = s.engine.contexts.put c none
          ∧ u.control.lastEnded = some (p.pile, .full)))
    ∧ (∀ c p, l.reads = false → (s.engine.mains.get m).state = .running →
      (s.engine.mains.get m).context = some c → s.engine.contexts.get c = some p → p.main = m →
      ∃ u : State, exec (.qualifyingTimerExpiry (.flow m)) s = .next (u.runAttempts none).eventEnd
        ∧ u = ({ s with field := { s.field with lines } } : State).endPass none c (.noFlow .flowLost) true
        ∧ u.frame = { s.frame with lines }
        ∧ u.engine.contexts = s.engine.contexts.put c none
        ∧ u.engine.mains = s.engine.mains.put m { s.engine.mains.get m with
            state := .faulted, openSource := none, context := none, fault := some .flowLost }
        ∧ u.control.lastEnded = some (p.pile, .noFlow .flowLost))
    ∧ ((l.reads = true → (s.engine.mains.get m).state ≠ .priming) →
      (l.reads = false → (s.engine.mains.get m).state ≠ .running) →
      exec (.qualifyingTimerExpiry (.flow m)) s =
        .next ({ s with field := { s.field with lines } } : State).conclude)

/-- 07 R135; 04 R71; 06 R110, R121, R122; log 20 for the Machine state, log 21 for the number of a suspension: a
bed's machine line that has read another state for its whole filter time takes it, and the bed's Machine state with
it. The live passes on the bed then follow in ascending context order. Becoming ACTIVE it suspends every PRIMING or
RUNNING pass on the bed, each suspension whole with its deduction (DriftReevaluation says what one does), whose
main is left OPEN on the pass's source, and adds MACHINE to every SUSPENDED one; becoming INACTIVE it removes
MACHINE. Passes on other beds stay as they were. Attempts are asked for on the mains of passes suspended or become
resumable, and on every main where the line clears; then they are made. -/
def Obligations.MachineLineSuspends : Prop :=
  ∀ (s : State) (bed : Fin 8) (l : InputLine), s.live = true → l = s.field.lines.machine.get bed →
    l.qualify = some 0 → l.reads ≠ l.filtered →
    ∃ u : State, exec (.qualifyingTimerExpiry (.machine bed)) s = .next (u.runAttempts none).eventEnd
      ∧ u.frame = { s.frame with
          lines := { s.field.lines with
            machine := s.field.lines.machine.put bed { l with filtered := l.reads, qualify := none } } }
      ∧ u.machinePresent bed = l.reads ∧ (∀ b, b ≠ bed → u.machinePresent b = s.machinePresent b)
      ∧ u.watch = s.watch ∧ u.queue = s.queue
      ∧ (∀ (next : State → Fin 8 → State) (on : State → Pass → Prop) (v w : State),
        (∀ v p, on v p ↔ ∃ x, v.geometry.piles.get p.pile = some x ∧ x.bed = bed) →
        (∀ v c, v.engine.contexts.get c = none → next v c = v) →
        (∀ v c p, v.engine.contexts.get c = some p → ¬ on v p → next v c = v) →
        (∀ v c p, v.engine.contexts.get c = some p → on v p → p.state ≠ .suspended →
          next v c = if l.reads then v.suspendPass c p else v) →
        (∀ v c p, v.engine.contexts.get c = some p → on v p → p.state = .suspended →
          next v c = { v with
            engine := { v.engine with
              contexts := v.engine.contexts.put c (some { p with machine := l.reads })
              asked := if p.machine = true ∧ p.wind = false ∧ l.reads = false then
                v.engine.asked.put p.main true else v.engine.asked } }) →
        v = { s with
          field := { s.field with
            lines := { s.field.lines with
              machine := s.field.lines.machine.put bed { l with filtered := l.reads, qualify := none } } } } →
        w = (List.finRange 8).foldl next v →
        u = { w with
          engine := { w.engine with
            asked := if l.reads then w.engine.asked else Table.fill 4 true } })
      ∧ ∀ here : Pass → Prop,
        (∀ p, here p ↔ ∃ x, s.geometry.piles.get p.pile = some x ∧ x.bed = bed) →
        (∀ c, s.engine.contexts.get c = none → u.engine.contexts.get c = none)
        ∧ (∀ c p, s.engine.contexts.get c = some p →
          (¬ here p → u.engine.contexts.get c = some p)
          ∧ (here p → p.state = .suspended →
            u.engine.contexts.get c = some { p with machine := l.reads })
          ∧ (here p → p.state ≠ .suspended → l.reads = false → u.engine.contexts.get c = some p)
          ∧ (here p → p.state ≠ .suspended → l.reads = true → ∃ q, u.engine.contexts.get c = some q
            ∧ q = { p with
                state := .suspended, wind := s.engine.blocked.get p.cannon, machine := true
                since := some ⟨s.clock.day, s.clock.second⟩, suspension := q.suspension
                deducted := p.delivered, primeTimer := none, dwellTimer := none
                limitTimer := some (60 * s.watch.model.suspensionLimit) }
            ∧ ((∀ d r, s.engine.contexts.get d = some r → r.main = p.main → r.state ≠ .suspended → d = c) →
              u.engine.mains.get p.main = { s.engine.mains.get p.main with
                state := .opened, openSource := some p.source, context := none })))
        ∧ ∀ m, ((∀ c p, s.engine.contexts.get c = some p → p.main = m →
              ¬ (here p ∧ p.state ≠ .suspended ∧ l.reads = true)) →
            u.engine.mains.get m = s.engine.mains.get m)
          ∧ (u.engine.asked.get m = true ↔ s.engine.asked.get m = true ∨ l.reads = false
            ∨ ∃ c p, s.engine.contexts.get c = some p ∧ p.main = m ∧ here p ∧ p.state ≠ .suspended)

/-! ## Water Table -/

/-- 04 R69, R80, R81, R82; log 17: the low test enters and leaves the low condition by its two bounds, raising
WATER_LOW at entry; an addition beyond Capacity spills; INFLOW is refused RANGE by its tests; else the volume is
added with overflow, turbid water raises Clarity to at least 2 and starts the settle timer, even at volume 0, and a
Settle time of 0 expires at once. The settle timer's expiry returns Clarity to Base clarity; attempts are asked for
exactly where the basin has become READY (R78). An expiry takes effect only where its timer has run out (log 3). -/
def Obligations.InflowLowTestAndSettle : Prop :=
  (∀ (s : State) (b : Fin 5) (x : Basin), x = s.water.basins.get b →
      (x.low = false → (x.level < x.floor ∨ x.level < x.floor + x.reserved) →
        s.lowTest b = { s with
          water := { s.water with basins := s.water.basins.put b { x with low := true } }
          notices := { s.notices with
            pending := s.notices.pending.put NoticeKind.waterLow.place true
            subjects := s.notices.subjects.put NoticeKind.waterLow.place b.val } })
      ∧ (x.low = false → x.floor ≤ x.level → x.floor + x.reserved ≤ x.level → s.lowTest b = s)
      ∧ (x.low = true → x.floor + x.restoreMargin ≤ x.level →
        s.lowTest b = { s with
          water := { s.water with basins := s.water.basins.put b { x with low := false } } })
      ∧ (x.low = true → x.level < x.floor + x.restoreMargin → s.lowTest b = s))
    ∧ (∀ (s : State) (b : Fin 5) (v : Nat) (x : Basin), x = s.water.basins.get b →
      (x.level + v ≤ x.capacity →
        s.addLevel b v = { s with
          water := { s.water with basins := s.water.basins.put b { x with level := x.level + v } } })
      ∧ (x.capacity < x.level + v →
        s.addLevel b v = { s with
          water := { s.water with
            basins := s.water.basins.put b { x with
              level := x.capacity, spilled := min 65535 (x.spilled + (x.level + v - x.capacity)) } }
          notices := { s.notices with
            pending := s.notices.pending.put NoticeKind.spill.place true
            subjects := s.notices.subjects.put NoticeKind.spill.place b.val } }))
    ∧ (∀ (s : State) (source : Byte) (volume : Word16) (kind : Byte), s.Accepts →
      ((4 < source.toNat ∨ 60000 < volume.toNat ∨ 1 < kind.toNat) →
        exec (.inflow source volume kind) s =
          .next (s.commandEnd Code.inflow (some (.range, source))))
      ∧ ∀ (b : Fin 5) (x : Basin), b.val = source.toNat → volume.toNat ≤ 60000 → kind.toNat ≤ 1 →
        x = s.water.basins.get b →
        ∃ (u : State) (y : Basin), exec (.inflow source volume kind) s =
            .next (u.commandEnd Code.inflow (some (.done, source)))
          ∧ u = { s with
              water := { s.water with basins := s.water.basins.put b y }
              notices := u.notices, engine := { s.engine with asked := u.engine.asked } }
          ∧ y = { x with
              level := if x.level + volume.toNat ≤ x.capacity then x.level + volume.toNat else x.capacity
              spilled := y.spilled, clarity := y.clarity, settle := y.settle, low := y.low }
          ∧ (x.level + volume.toNat ≤ x.capacity → y.spilled = x.spilled)
          ∧ (x.capacity < x.level + volume.toNat →
              y.spilled = min 65535 (x.spilled + (x.level + volume.toNat - x.capacity))
                ∧ u.notices.pending.get NoticeKind.spill.place = true
                ∧ u.notices.subjects.get NoticeKind.spill.place = b.val)
          ∧ (x.level + volume.toNat ≤ x.capacity → (x.low = true ∨ y.low = false) →
              u.notices = s.notices)
          ∧ (kind = 0 → y.clarity = x.clarity ∧ y.settle = x.settle)
          ∧ (kind = 1 → 0 < x.settleTime →
              y.clarity = max x.clarity 2 ∧ y.settle = some (60 * x.settleTime))
          ∧ (kind = 1 → x.settleTime = 0 → y.clarity = x.baseClarity ∧ y.settle = none)
          ∧ (y.low = true ↔ if x.low = true then y.level < x.floor + x.restoreMargin
              else y.level < x.floor ∨ y.level < x.floor + x.reserved)
          ∧ ∀ m, u.engine.asked.get m = true ↔ s.engine.asked.get m = true
              ∨ (y.state = .ready ∧ (x.state ≠ .ready ∨ x.available < y.available)))
    ∧ ∀ (s : State) (b : Fin 5) (x : Basin), s.live = true → x = s.water.basins.get b →
      (x.settle = some 0 →
        exec (.settleTimerExpiry b) s = .next (({ s with
          water := { s.water with
            basins := s.water.basins.put b { x with clarity := x.baseClarity, settle := none } }
          engine := { s.engine with
            asked := if x.isolated = false ∧ x.low = false then Table.fill 4 true
              else s.engine.asked } } : State).eventEnd))
      ∧ (x.settle ≠ some 0 → exec (.settleTimerExpiry b) s = .next s.eventEnd)

/-- 04 R83, R78: GAUGE is refused RANGE by its tests. Else Level takes the gauged level and Clarity and Base
clarity the gauged clarity, and each live pass on the basin moves its baseline to what it has delivered. Where the
low test does not enter the low condition, attempts are asked for exactly where the basin is READY and its State or
available volume has risen from before the GAUGE (log 30). Where it enters it, WATER_LOW is raised and every live
pass on the basin ends CUT_SHORT with reason WATER, in ascending context order, each with the attempts of its end
and with no low test on this basin; one low test follows the last end; and attempts are asked for exactly where it
leaves the basin READY: from LOW to READY is a report of R78 in any case (log 30). -/
def Obligations.GaugeSetsTheAccount : Prop :=
  ∀ (s : State) (source : Byte) (level : Word16) (clarity : Byte), s.Accepts →
    ((4 < source.toNat ∨ 3 < clarity.toNat
        ∨ ∃ b : Fin 5, b.val = source.toNat ∧ (s.water.basins.get b).capacity < level.toNat) →
      exec (.gauge source level clarity) s =
        .next (s.commandEnd Code.gauge (some (.range, source))))
    ∧ ∀ (b : Fin 5) (x : Basin) (reserved : Nat), b.val = source.toNat → x = s.water.basins.get b →
      level.toNat ≤ x.capacity → clarity.toNat ≤ 3 →
      reserved = x.reserved - ((List.finRange 8).map fun c =>
        match s.engine.contexts.get c with
        | some p => if p.source.val = b.val then p.delivered - p.deducted else 0
        | none => 0).sum →
      (∃ t, exec (.gauge source level clarity) s = .next t
        ∧ t.frame = { s.frame with
            port := { s.port with command := Code.gauge, result := .done, index := source,
                                  dataOut := [], transaction := .idle, selectLeft := 30 }
            log := t.field.log }
        ∧ (t.water.basins.get b).baseClarity = clarity.toNat)
      ∧ ((x.low = true ∨ (x.floor ≤ level.toNat ∧ x.floor + reserved ≤ level.toNat)) →
        ∃ (u : State) (y : Basin), exec (.gauge source level clarity) s =
            .next (u.commandEnd Code.gauge (some (.done, source)))
          ∧ y = { x with
              level := level.toNat, reserved, clarity := clarity.toNat, baseClarity := clarity.toNat,
              low := x.low && decide (level.toNat < x.floor + x.restoreMargin) }
          ∧ u = { s with
              water := { s.water with basins := s.water.basins.put b y }
              engine := { s.engine with contexts := u.engine.contexts, asked := u.engine.asked } }
          ∧ (∀ c, u.engine.contexts.get c = (s.engine.contexts.get c).map fun p =>
              if p.source.val = b.val then { p with deducted := p.delivered } else p)
          ∧ ∀ m, u.engine.asked.get m = true ↔ s.engine.asked.get m = true
              ∨ (y.state = .ready ∧ (x.state ≠ .ready ∨ x.available < y.available)))
      ∧ (x.low = false → (level.toNat < x.floor ∨ level.toNat < x.floor + reserved) →
        ∀ (next : State → Fin 8 → State) (v w : State),
        (∀ t c, t.engine.contexts.get c = none → next t c = t) →
        (∀ t c p, t.engine.contexts.get c = some p → p.source.val ≠ b.val → next t c = t) →
        (∀ t c p, t.engine.contexts.get c = some p → p.source.val = b.val →
          next t c = (t.endPass (some b) c (.cutShort .water) true).runAttempts (some b)) →
        v = { s with
          water := { s.water with
            basins := s.water.basins.put b { x with
              level := level.toNat, reserved, clarity := clarity.toNat, baseClarity := clarity.toNat,
              low := true } }
          engine := { s.engine with
            contexts := Table.tab fun c => (s.engine.contexts.get c).map fun p =>
              if p.source.val = b.val then { p with deducted := p.delivered } else p }
          notices := { s.notices with
            pending := s.notices.pending.put NoticeKind.waterLow.place true
            subjects := s.notices.subjects.put NoticeKind.waterLow.place b.val } } →
        w = ((List.finRange 8).foldl next v).lowTest b →
        ∃ u : State, exec (.gauge source level clarity) s =
            .next (u.commandEnd Code.gauge (some (.done, source)))
          ∧ u = { w with
              engine := { w.engine with
                asked := if (w.water.basins.get b).state = .ready then Table.fill 4 true
                  else w.engine.asked } }
          ∧ (∀ c p, u.engine.contexts.get c = some p → p.source.val ≠ b.val)
          ∧ u.notices.pending.get NoticeKind.waterLow.place = true)

/-- 04 R85, R86, R78; 06 R131: ISOLATE and RESTORE above 5 are refused RANGE. ISOLATE leaves the source isolated;
then each live pass that draws from it ends CUT_SHORT with reason WATER, in ascending context order, each with the
attempts of its end, and each main still OPEN on it is closed, the pins listed as each closes (log 23); no live
pass draws from it then and no main holds it open. RESTORE clears Isolated and asks for attempts exactly where the
source can then serve passes; each of a source already so changes nothing. -/
def Obligations.IsolateAndRestore : Prop :=
  (∀ (s : State) (source : Byte), s.Accepts →
      (5 < source.toNat →
        exec (.isolate source) s = .next (s.commandEnd Code.isolate (some (.range, source))))
      ∧ ∀ x : Fin 6, x.val = source.toNat →
        (s.water.isIsolated x = true →
          exec (.isolate source) s = .next (s.commandEnd Code.isolate (some (.done, source))))
        ∧ (s.water.isIsolated x = false →
          ∃ t, exec (.isolate source) s = .next t
            ∧ t.frame = { s.frame with
                port := { s.port with command := Code.isolate, result := .done, index := source,
                                      dataOut := [], transaction := .idle, selectLeft := 30 }
                log := t.field.log }
            ∧ t.water.isIsolated x = true
            ∧ (∀ c p, t.engine.contexts.get c = some p → p.source ≠ x)
            ∧ (∀ m, (t.engine.mains.get m).state = .opened →
                (t.engine.mains.get m).openSource ≠ some x)
            ∧ ∀ (next : State → Fin 8 → State) (shut : State → Fin 4 → State) (v : State),
              (∀ w c, w.engine.contexts.get c = none → next w c = w) →
              (∀ w c p, w.engine.contexts.get c = some p → p.source ≠ x → next w c = w) →
              (∀ w c p, w.engine.contexts.get c = some p → p.source = x →
                next w c = (w.endPass none c (.cutShort .water) true).runAttempts none) →
              (∀ w m y, y = w.engine.mains.get m → ¬ (y.state = .opened ∧ y.openSource = some x) →
                shut w m = w) →
              (∀ (w z : State) m y, y = w.engine.mains.get m → y.state = .opened → y.openSource = some x →
                z = { w with
                  engine := { w.engine with
                    mains := w.engine.mains.put m { y with
                      state := .closed, openSource := none, context := none } } } →
                shut w m = { z with
                  field := { z.field with
                    pins := z.pinsFollowed
                    made := z.field.made ++ pinChanges z.field.pins z.pinsFollowed } }) →
              (x = 5 → v = { s with
                water := { s.water with fresh := { s.water.fresh with isolated := true } } }) →
              (∀ b : Fin 5, x.val = b.val → v = { s with
                water := { s.water with
                  basins := s.water.basins.put b { s.water.basins.get b with isolated := true } } }) →
              t = ((List.finRange 4).foldl shut ((List.finRange 8).foldl next v)).commandEnd Code.isolate
                (some (.done, source))))
    ∧ ∀ (s : State) (source : Byte), s.Accepts →
      (5 < source.toNat →
        exec (.restore source) s = .next (s.commandEnd Code.restore (some (.range, source))))
      ∧ (∀ b : Fin 5, b.val = source.toNat →
        ((s.water.basins.get b).isolated = false →
          exec (.restore source) s = .next (s.commandEnd Code.restore (some (.done, source))))
        ∧ ∀ y : Basin, (s.water.basins.get b).isolated = true →
          y = { s.water.basins.get b with isolated := false } →
          exec (.restore source) s = .next (({ s with
            water := { s.water with basins := s.water.basins.put b y }
            engine := { s.engine with
              asked := if y.low = false ∧ y.settle = none then Table.fill 4 true
                else s.engine.asked } } : State).commandEnd Code.restore (some (.done, source))))
      ∧ (source = 5 →
        (s.water.fresh.isolated = false →
          exec (.restore source) s = .next (s.commandEnd Code.restore (some (.done, source))))
        ∧ (s.water.fresh.isolated = true →
          exec (.restore source) s = .next (({ s with
            water := { s.water with fresh := { s.water.fresh with isolated := false } }
            engine := { s.engine with asked := Table.fill 4 true } } : State).commandEnd Code.restore
              (some (.done, source)))))

/-- 04 R68, R74 to R77: the State of a basin and the available volumes; and the choice of source: the
main's open basin where it is admissible; else the admissible basin with the greatest available volume,
the lowest index on a tie; else the fresh supply; else none. -/
def Obligations.ChoiceOfSource : Prop :=
  (∀ (s : State) (b : Basin) (f : Fresh),
      (b.isolated = true → b.state = .isolated)
      ∧ (b.isolated = false → b.low = true → b.state = .low)
      ∧ (b.isolated = false → b.low = false → b.settle.isSome = true → b.state = .settling)
      ∧ (b.isolated = false → b.low = false → b.settle = none → b.state = .ready)
      ∧ (b.floor + b.reserved ≤ b.level → b.available + b.floor + b.reserved = b.level)
      ∧ (b.level ≤ b.floor + b.reserved → b.available = 0)
      ∧ (f.used + f.reserved ≤ f.today → f.available + f.used + f.reserved = f.today)
      ∧ (∀ m limit volume x, s.basinAdmissible m limit volume x = true →
          volume ≤ (s.water.basins.get x).available)
      ∧ ∀ m rank volume, s.freshAdmissible m rank volume = true → volume ≤ s.water.fresh.available)
    ∧ ∀ (s : State) (m : Fin 4) (limit rank volume : Nat) (admits : Fin 5 → Prop) (fresh withheld : Prop),
      (∀ b, admits b ↔ ∃ x : Fin 6, x.val = b.val ∧ (s.engine.mains.get m).sourceMask.get x = true
        ∧ (s.water.basins.get b).state = .ready ∧ (s.water.basins.get b).clarity ≤ limit
        ∧ volume ≤ (s.water.basins.get b).available) →
      (withheld ↔ rank = 1 ∧ ∃ h x, s.clock.hour ≤ h ∧ h ≤ s.clock.hour + 5
        ∧ s.horizon.slotFor h = some x ∧ 2 ≤ x.rainClass) →
      (fresh ↔ (s.engine.mains.get m).sourceMask.get 5 = true ∧ s.water.fresh.isolated = false
        ∧ volume ≤ s.water.fresh.available ∧ ¬ withheld) →
      ∀ answer, answer = s.chooseSource m limit rank volume →
      (∀ (b : Fin 5) (x : Fin 6), x.val = b.val → (s.engine.mains.get m).openSource = some x → admits b →
        answer = some x)
      ∧ ((∀ (b : Fin 5) (x : Fin 6), x.val = b.val → (s.engine.mains.get m).openSource = some x →
          ¬ admits b) →
        (∀ (b : Fin 5) (x : Fin 6), x.val = b.val → admits b →
          (∀ d, admits d → (s.water.basins.get d).available < (s.water.basins.get b).available
            ∨ ((s.water.basins.get d).available = (s.water.basins.get b).available ∧ b ≤ d)) →
          answer = some x)
        ∧ ((∀ b, ¬ admits b) → (fresh → answer = some 5) ∧ (¬ fresh → answer = none)))

/-! ## Yard modes -/

/-- 07 R140, R141; 06 R132: HOLD in ACTIVE makes the yard HELD; then every live pass ends CUT_SHORT with reason
HOLD, in ascending context order, each with what its end asks for, and every main that is not FAULTED is CLOSED; no
live pass is left. In HELD and DRAINED it is DONE with no change, in DRAINING refused STATE. FROST becoming ACTIVE
in ACTIVE does the same, the ends and the mains among it, and raises MODE; otherwise it changes the line's state
alone. -/
def Obligations.HoldAndFrost : Prop :=
  (∀ s : State, s.Accepts →
      (s.control.mode = .active → ∃ t, exec .hold s = .next t
        ∧ t.frame = { s.frame with
            port := { s.port with command := Code.hold, result := .done, index := 0,
                                  dataOut := [], transaction := .idle, selectLeft := 30 }
            mode := .held, log := t.field.log }
        ∧ t.NoPass
        ∧ (∀ m, (t.engine.mains.get m).state = .faulted ∨ (t.engine.mains.get m).state = .closed
          ∧ (t.engine.mains.get m).openSource = none ∧ (t.engine.mains.get m).context = none)
        ∧ (s.MainLaw → ∀ m, (s.engine.mains.get m).state = .faulted →
            t.engine.mains.get m = s.engine.mains.get m)
        ∧ ∀ (next : State → Fin 8 → State) (w : State),
          (∀ v c, v.engine.contexts.get c = none → next v c = v) →
          (∀ v c p, v.engine.contexts.get c = some p →
            next v c = (v.endPass none c (.cutShort .hold) true).runAttempts none) →
          w = (List.finRange 8).foldl next { s with control := { s.control with mode := .held } } →
          t = ({ w with
            engine := { w.engine with
              mains := Table.tab fun m => if (w.engine.mains.get m).state = .faulted then w.engine.mains.get m
                else { w.engine.mains.get m with
                  state := .closed, openSource := none, context := none } } } : State).commandEnd Code.hold
                    (some (.done, 0)))
      ∧ (s.control.mode = .held → exec .hold s = .next (s.commandEnd Code.hold (some (.done, 0))))
      ∧ (s.control.mode = .drained → exec .hold s = .next (s.commandEnd Code.hold (some (.done, 0))))
      ∧ (s.control.mode = .draining → exec .hold s = .next (s.commandEnd Code.hold (some (.state, 0)))))
    ∧ ∀ s : State, s.live = true → s.field.lines.frost.qualify = some 0 →
      (s.field.lines.frost.filtered = false → s.field.lines.frost.raw = s.field.lines.frost.activeHigh →
        s.control.mode = .active →
        ∃ t, exec (.qualifyingTimerExpiry .frost) s = .next t
          ∧ t.frame = { s.frame with
              lines := { s.field.lines with
                frost := { s.field.lines.frost with filtered := true, qualify := none } }
              mode := .held, port := t.port, log := t.field.log }
          ∧ t.NoPass
          ∧ (∀ m, (t.engine.mains.get m).state = .faulted ∨ (t.engine.mains.get m).state = .closed
            ∧ (t.engine.mains.get m).openSource = none ∧ (t.engine.mains.get m).context = none)
          ∧ (s.MainLaw → ∀ m, (s.engine.mains.get m).state = .faulted →
              t.engine.mains.get m = s.engine.mains.get m)
          ∧ t.notices.pending.get NoticeKind.mode.place = true
          ∧ t.notices.subjects.get NoticeKind.mode.place = 0
          ∧ ∀ (next : State → Fin 8 → State) (w : State),
            (∀ v c, v.engine.contexts.get c = none → next v c = v) →
            (∀ v c p, v.engine.contexts.get c = some p →
              next v c = (v.endPass none c (.cutShort .hold) true).runAttempts none) →
            w = (List.finRange 8).foldl next { s with
              field := { s.field with lines := t.field.lines }
              control := { s.control with mode := .held } } →
            t = (({ w with
              engine := { w.engine with
                mains := Table.tab fun m =>
                  if (w.engine.mains.get m).state = .faulted then w.engine.mains.get m
                  else { w.engine.mains.get m with state := .closed, openSource := none, context := none } }
              notices := { w.notices with
                pending := w.notices.pending.put NoticeKind.mode.place true
                subjects := w.notices.subjects.put NoticeKind.mode.place 0 } } :
                  State).runAttempts none).eventEnd)
      ∧ ((s.field.lines.frost.raw = s.field.lines.frost.activeHigh → s.control.mode ≠ .active) →
        s.NoneAsked → exec (.qualifyingTimerExpiry .frost) s = .next ({ s with
          field := { s.field with
            lines := { s.field.lines with
              frost := { s.field.lines.frost with
                filtered := s.field.lines.frost.reads, qualify := none } } } } : State).conclude)

/-- 07 R142, R143; 05 R99; 06 R132: DRAIN in ACTIVE or HELD makes the yard DRAINING; then every live pass ends
CUT_SHORT with reason DRAIN, in ascending context order, each with what its end asks for; no order is left, and a
pile that had one is no longer Carried; every main is DRAINING and its drain timer started; in DRAINING and DRAINED
it changes nothing. A drain timer's expiry makes its main DRAINED; the last one makes the yard DRAINED and raises
MODE. An expiry takes effect only where its timer has run out (log 3). -/
def Obligations.DrainAndItsTimers : Prop :=
  (∀ s : State, s.Accepts →
      ((s.control.mode = .active ∨ s.control.mode = .held) → ∃ t, exec .drain s = .next t
        ∧ t.frame = { s.frame with
            port := { s.port with command := Code.drain, result := .done, index := 0,
                                  dataOut := [], transaction := .idle, selectLeft := 30 }
            mode := .draining
            drainTimers := Table.tab fun m => some (60 * (s.engine.mains.get m).drainTime)
            log := t.field.log }
        ∧ t.NoPass ∧ t.queue = []
        ∧ (∀ m, t.engine.mains.get m = { s.engine.mains.get m with
            state := .draining, openSource := none, context := none, fault := none })
        ∧ ∀ (next : State → Fin 8 → State) (w : State),
          (∀ v c, v.engine.contexts.get c = none → next v c = v) →
          (∀ v c p, v.engine.contexts.get c = some p →
            next v c = (v.endPass none c (.cutShort .drain) true).runAttempts none) →
          w = (List.finRange 8).foldl next { s with control := { s.control with mode := .draining } } →
          t = ({ w with
            queue := []
            watch := { w.watch with
              living := Table.tab fun i => if w.hasOrder i then { w.watch.living.get i with carried := false }
                else w.watch.living.get i }
            engine := { w.engine with mains := t.engine.mains }
            control := { w.control with drainTimers := t.control.drainTimers } } : State).commandEnd Code.drain
              (some (.done, 0)))
      ∧ ((s.control.mode = .draining ∨ s.control.mode = .drained) →
        exec .drain s = .next (s.commandEnd Code.drain (some (.done, 0)))))
    ∧ ∀ (s t : State) (m : Fin 4), s.live = true →
      t = { s with
        control := { s.control with drainTimers := s.control.drainTimers.put m none }
        engine := { s.engine with
          mains := s.engine.mains.put m { s.engine.mains.get m with state := .drained } } } →
      (s.control.drainTimers.get m = some 0 →
        ((∃ n, n ≠ m ∧ (s.engine.mains.get n).state ≠ .drained) →
          exec (.drainTimerExpiry m) s = .next t.eventEnd)
        ∧ ((∀ n, n ≠ m → (s.engine.mains.get n).state = .drained) →
          exec (.drainTimerExpiry m) s = .next (({ t with
            control := { t.control with mode := .drained }
            notices := { t.notices with
              pending := t.notices.pending.put NoticeKind.mode.place true
              subjects := t.notices.subjects.put NoticeKind.mode.place 0 } } : State).eventEnd)))
      ∧ (s.control.drainTimers.get m ≠ some 0 → exec (.drainTimerExpiry m) s = .next s.eventEnd)

/-- 07 R144, R145: RESUME is refused BUSY in DRAINING, DONE in ACTIVE, refused FROST in HELD and DRAINED
while FROST is active; from HELD it makes the yard ACTIVE and asks for every attempt; from DRAINED it also
makes every main CLOSED, with Fault cause none, and re-evaluates every present pile without drying, in ascending
index, each whole with its offer (03 R60; what a re-evaluation does is in EvaluationGrades), before any attempt. -/
def Obligations.ResumeReturnsToActive : Prop :=
  ∀ s : State, s.Accepts →
    (s.control.mode = .draining → exec .resume s = .next (s.commandEnd Code.resume (some (.busy, 0))))
    ∧ (s.control.mode = .active → exec .resume s = .next (s.commandEnd Code.resume (some (.done, 0))))
    ∧ ((s.control.mode = .held ∨ s.control.mode = .drained) → s.field.lines.frost.filtered = true →
      exec .resume s = .next (s.commandEnd Code.resume (some (.frost, 0))))
    ∧ (s.control.mode = .held → s.field.lines.frost.filtered = false →
      exec .resume s = .next (({ s with
        control := { s.control with mode := .active }
        engine := { s.engine with asked := Table.fill 4 true } } : State).commandEnd Code.resume
          (some (.done, 0))))
    ∧ (s.control.mode = .drained → s.field.lines.frost.filtered = false →
      ∀ next : State → Fin 48 → State,
      (∀ v i, v.geometry.piles.get i = none → next v i = v) →
      (∀ v i p, v.geometry.piles.get i = some p → next v i = v.reevaluate i true) →
      ∀ w : State, w = (List.finRange 48).foldl next { s with
        control := { s.control with mode := .active }
        engine := { s.engine with
          mains := Table.tab fun m => { s.engine.mains.get m with
            state := .closed, openSource := none, context := none, fault := none } } } →
      ∃ u : State, exec .resume s = .next (u.commandEnd Code.resume (some (.done, 0)))
        ∧ u = { w with engine := { w.engine with asked := Table.fill 4 true } }
        ∧ u.frame = { s.frame with mode := .active }
        ∧ (∀ m, u.engine.mains.get m = { s.engine.mains.get m with
            state := .closed, openSource := none, context := none, fault := none })
        ∧ u.engine.asked = Table.fill 4 true ∧ u.engine.contexts = s.engine.contexts
        ∧ u.water = s.water
        ∧ ∀ i p, s.geometry.piles.get i = some p →
            (u.watch.living.get i).moisture = (s.watch.living.get i).moisture
              ∧ (u.watch.living.get i).basis = (s.windBasis ⟨s.clock.day, s.clock.second⟩).kind
              ∧ (u.watch.living.get i).deferral = (s.watch.living.get i).deferral)

/-! ## Notices, store, supply, lines -/

/-- 09 R168: ACKNOWLEDGE of a mask beyond the nine kinds is refused RANGE; else the kinds it names are no
longer pending, their subjects stay, MAIN_FAULT takes ALL_FAULTED with it and SPILL every basin's Spilled.
-/
def Obligations.AcknowledgeClears : Prop :=
  ∀ (s : State) (mask : Word16), s.Accepts →
    (512 ≤ mask.toNat →
      exec (.acknowledge mask) s = .next (s.commandEnd Code.acknowledge (some (.range, 0))))
    ∧ (mask.toNat < 512 → ∃ (pending : Table 9 Bool) (basins : Table 5 Basin),
      (∀ k : Fin 9, pending.get k = true ↔ s.notices.pending.get k = true
        ∧ mask.getLsbD k.val = false)
      ∧ (∀ b, basins.get b = { s.water.basins.get b with
          spilled := if mask.getLsbD 4 then 0 else (s.water.basins.get b).spilled })
      ∧ exec (.acknowledge mask) s = .next (({ s with
          notices := { s.notices with
            pending, allFaulted := s.notices.allFaulted && !mask.getLsbD 2 }
          water := { s.water with basins } } : State).commandEnd Code.acknowledge (some (.done, 0))))

/-- 01 R18, R20; 09 R170; logs 13, 24: FIX, CLOSE and TAG: their refusals and early answers in order, and the write
they begin, which makes the port BUSY and leaves the triple to its end. The end of a write puts it in the store
whole and writes the triple; a FIX also sets the exclusion's Fixed flag and moves its Revision on. The end of a
write takes effect only where that write is in progress (log 3). -/
def Obligations.StoreWrites : Prop :=
  (∀ (s : State) (exclusion : Byte) (data : List Byte), s.Accepts →
      ∀ (begun : StoreWrite → State), (begun = fun w =>
        { s with store := { s.store with write := some w } }) →
      (15 < exclusion.toNat →
        exec (.fix exclusion) s = .next (s.commandEnd Code.fix (some (.range, exclusion))))
      ∧ (∀ i : Fin 16, exclusion.toNat = i.val →
        (s.geometry.exclusions.get i = none →
          exec (.fix exclusion) s = .next (s.commandEnd Code.fix (some (.noSuch, exclusion))))
        ∧ ∀ e, s.geometry.exclusions.get i = some e →
          (s.store.closed = true →
            exec (.fix exclusion) s = .next (s.commandEnd Code.fix (some (.closed, exclusion))))
          ∧ (s.store.closed = false → e.fixed = true →
            exec (.fix exclusion) s = .next (s.commandEnd Code.fix (some (.done, exclusion))))
          ∧ (s.store.closed = false → e.fixed = false →
            exec (.fix exclusion) s = .next ((begun (.fix i)).commandEnd Code.fix none)))
      ∧ (s.store.closed = true → exec .close s = .next (s.commandEnd Code.close (some (.done, 0))))
      ∧ (s.store.closed = false → exec .close s = .next ((begun .close).commandEnd Code.close none))
      ∧ (s.store.tag.isSome = true →
        exec (.tag data) s = .next (s.commandEnd Code.tag (some (.closed, 0))))
      ∧ (s.store.tag = none → exec (.tag data) s =
        .next ((begun (.tag ((data ++ List.replicate 16 0).take 16))).commandEnd Code.tag none))
      ∧ ∀ w, (begun w).busy = true)
    ∧ ∀ s : State, s.live = true →
      (∀ i e, s.store.write = some (.fix i) → s.geometry.exclusions.get i = some e →
        exec .fixWriteEnd s = .next (({ s with
          port := { s.port with command := Code.fix, result := .done, index := BitVec.ofNat 8 i.val }
          store := { s.store with
            entries := s.store.entries.put i (some { bed := e.bed, start := e.start, length := e.length })
            write := none }
          geometry := { s.geometry with
            exclusions := s.geometry.exclusions.put i
              (some { e with fixed := true, revision := e.revision + 1 }) } } : State).eventEnd))
      ∧ ((∀ i, s.store.write ≠ some (.fix i)) → exec .fixWriteEnd s = .next s.eventEnd)
      ∧ (s.store.write = some .close → exec .closeWriteEnd s = .next (({ s with
          port := { s.port with command := Code.close, result := .done, index := 0 }
          store := { s.store with closed := true, write := none } } : State).eventEnd))
      ∧ (s.store.write ≠ some .close → exec .closeWriteEnd s = .next s.eventEnd)
      ∧ (∀ bytes, s.store.write = some (.tag bytes) → exec .tagWriteEnd s = .next (({ s with
          port := { s.port with command := Code.tag, result := .done, index := 0 }
          store := { s.store with tag := some bytes, write := none } } : State).eventEnd))
      ∧ ((∀ bytes, s.store.write ≠ some (.tag bytes)) → exec .tagWriteEnd s = .next s.eventEnd)

/-- 09 R171, R172; 01 R19; 02 R41; log 11 for a loss of supply: what power-on, the reset line, a loss of supply and
RESET leave: the reset values of every block, with the fixed exclusions of the store; the supply's and RSTN's
resets also empty the clock and the horizon, which RESET keeps; a write in progress is lost. A rise of RSTN begins
an initialisation where the supply is present; its end makes a drift re-evaluation and the port leaves BUSY. An
INITIALISATION_END before its count is out does nothing (log 3), and nor does a rise of RSTN while it is high (log
12). The states left are given whole, so these parts of them are the model's and not the spec's: the phase of the
seconds base (log 2), the clock's marks of owed and raised events, clear (log 4), the turns kept (log 6), the levels
at the pins kept (log 9), no data-out and no transaction (log 16), the blank living parts of absent piles (log 19),
the count of suspensions (log 21), the gust figure and line last handed (log 22), the list of changes (log 23), and
the values log 29 names. -/
def Obligations.ResetsAndInitialisation : Prop :=
  (∀ (s : State) (left : Clock → Horizon → Startup → State),
      (left = fun clock horizon startup => { State.reset with
        pending := s.pending, clock, horizon, startup
        geometry := { State.reset.geometry with
          exclusions := Table.tab fun i => (s.store.entries.get i).map fun e =>
            { bed := e.bed, start := e.start, length := e.length, fixed := true, revision := 0 } }
        engine := { State.reset.engine with turns := s.engine.turns }
        field :=
          { lines := s.field.lines.reset, pins := State.reset.field.pins
            log := pinChanges s.field.pins State.reset.field.pins, made := [] }
        store := { s.store with write := none } }) →
      exec .powerOn s = .next (left Clock.reset Horizon.reset
        { powered := true, resetLow := s.startup.resetLow, phase := 0,
          initialising := if s.startup.resetLow then none else some 1 })
      ∧ exec .resetLine s = .next (left Clock.reset Horizon.reset
        { powered := s.startup.powered, resetLow := true, phase := 0, initialising := none })
      ∧ exec .powerLoss s = .next (left Clock.reset Horizon.reset
        { powered := false, resetLow := s.startup.resetLow, phase := 0, initialising := none })
      ∧ (s.Accepts → exec .reset s =
        .next (left s.clock s.horizon { s.startup with initialising := some 1 })))
    ∧ ∀ s : State,
      (s.live = true → s.startup.initialising = some 0 →
        exec .initialisationEnd s = .next (({ s with
          startup := { s.startup with initialising := none } } : State).driftReevaluate.eventEnd))
      ∧ (s.live = true → s.startup.initialising ≠ some 0 →
        exec .initialisationEnd s = .next s.eventEnd)
      ∧ (s.startup.resetLow = true →
        exec .resetLineRelease s = .next ({ s with
          startup := { s.startup with
            resetLow := false, initialising := if s.startup.powered then some 1 else none } } :
          State).conclude)
      ∧ (s.startup.resetLow = false → exec .resetLineRelease s = .next s.conclude)

/-- 07 R134, R137: a raw change moves the pin; it starts the qualifying timer where it reads other than the
filtered state, cancels it where it reads the same, starts none under a re-take timer, and with a filter time of 0
is the filtered change itself. A qualifying timer that has run out is taken before a further change of its line,
since the change it follows has lasted exactly the filter time (log 3). At the expiry of a qualifying or a re-take
timer the line takes the state its raw level reads, and delivers it where it is new. R135: a machine line's change
goes to the passes of its bed, a change of GUST makes a drift re-evaluation, and one of RAIN calls for nothing; the
attempts they ask for are made. (Flow lines: FlowLineRunsOrFaults; FROST: HoldAndFrost; what a machine line's
change does: MachineLineSuspends.) -/
def Obligations.LineFilters : Prop :=
  (∀ (s : State) (i : Line) (high : Bool) (l : InputLine), s.live = true → l = s.field.lines.get i →
      ∀ (after : InputLine → State),
        (after = fun x => { s with field := { s.field with lines := s.field.lines.put i x } }) →
      (l.raw = high → exec (.rawLineChange i high) s = .next s.eventEnd)
      ∧ (l.raw ≠ high → l.qualify ≠ some 0 → l.retake.isSome = true →
        exec (.rawLineChange i high) s = .next (after { l with raw := high }).eventEnd)
      ∧ (l.raw ≠ high → l.qualify ≠ some 0 → l.retake = none → (high == l.activeHigh) = l.filtered →
        exec (.rawLineChange i high) s = .next (after { l with raw := high, qualify := none }).eventEnd)
      ∧ (l.raw ≠ high → l.qualify ≠ some 0 → l.retake = none → (high == l.activeHigh) ≠ l.filtered →
        l.filter ≠ .zero →
        exec (.rawLineChange i high) s = .next (after { l with
          raw := high
          qualify := some (match l.filter with | .zero => 0 | .quarter => 5 | .one => 20 | .four => 80)
          }).eventEnd)
      ∧ (l.raw ≠ high → l.qualify ≠ some 0 → l.retake = none → (high == l.activeHigh) ≠ l.filtered →
        l.filter = .zero →
        exec (.rawLineChange i high) s =
          .next ((after { l with raw := high }).deliver i (high == l.activeHigh)).eventEnd)
      ∧ (l.raw ≠ high → l.qualify = some 0 → ∀ u : State,
        ((l.raw == l.activeHigh) = l.filtered → u = after { l with qualify := none }) →
        ((l.raw == l.activeHigh) ≠ l.filtered →
          u = (after { l with qualify := none }).deliver i (l.raw == l.activeHigh)) →
        exec (.rawLineChange i high) s = exec (.rawLineChange i high) u
          ∧ u.field.lines.get i = { l with filtered := (l.raw == l.activeHigh), qualify := none }))
    ∧ (∀ (s : State) (i : Line) (l : InputLine), s.live = true → l = s.field.lines.get i →
      ∀ (after : InputLine → State),
        (after = fun x => { s with field := { s.field with lines := s.field.lines.put i x } }) →
      (l.qualify = some 0 →
        ((l.raw == l.activeHigh) = l.filtered → exec (.qualifyingTimerExpiry i) s =
          .next (after { l with qualify := none }).eventEnd)
        ∧ ((l.raw == l.activeHigh) ≠ l.filtered → exec (.qualifyingTimerExpiry i) s =
          .next ((after { l with qualify := none }).deliver i (l.raw == l.activeHigh)).eventEnd))
      ∧ (l.qualify ≠ some 0 → exec (.qualifyingTimerExpiry i) s = .next s.eventEnd)
      ∧ (l.retake = some 0 →
        ((l.raw == l.activeHigh) = l.filtered → exec (.reTakeTimerExpiry i) s =
          .next (after { l with retake := none }).eventEnd)
        ∧ ((l.raw == l.activeHigh) ≠ l.filtered → exec (.reTakeTimerExpiry i) s =
          .next ((after { l with retake := none }).deliver i (l.raw == l.activeHigh)).eventEnd))
      ∧ (l.retake ≠ some 0 → exec (.reTakeTimerExpiry i) s = .next s.eventEnd))
    ∧ ∀ (s : State) (bed : Fin 8) (active : Bool) (after : Line → State),
      (after = fun i => { s with
        field := { s.field with
          lines := s.field.lines.put i { s.field.lines.get i with filtered := active } } }) →
      s.deliver (.machine bed) active = ((after (.machine bed)).machineChanged bed active).runAttempts none
      ∧ s.deliver .gust active = (after .gust).driftReevaluate.runAttempts none
      ∧ s.deliver .rain active = (after .rain).runAttempts none

/-! ## Laws -/

/-- The values right after power-on that the rules name (01 R2, R3, R6; 02 R22, R28, R34, R37; 03 R46, R48, R56; 04
R66, R67, R69; 05 R89; 06 R106, R109; 07 R133, R138, R139; 08 R150, R155, R162; 09 R163, R165), and every law of
Safety at that state. -/
def Obligations.ResetValuesMeetTheLaws : Prop :=
  (∀ t : State, t = State.reset →
      t.busy = true ∧ t.control.mode = .held ∧ t.clock.state = .unset ∧ t.clock.day = 0
      ∧ t.clock.second = 0 ∧ t.clock.heldFrom = none
      ∧ (∀ k, t.horizon.slots.get k = none) ∧ t.horizon.observation = none ∧ t.horizon.life = none
      ∧ (∀ i, t.geometry.piles.get i = none) ∧ (∀ i, t.geometry.cannons.get i = none)
      ∧ (∀ b, (t.geometry.beds.get b).length = 160 ∧ (t.geometry.beds.get b).collection = none
        ∧ (t.geometry.beds.get b).returnPercent = 0 ∧ (t.geometry.beds.get b).sweepLimit = 0
        ∧ t.watch.passCount.get b = 0 ∧ t.machinePresent b = false
        ∧ (t.geometry.beds.get b).revision = 0 ∧ ∀ k, (t.geometry.beds.get b).exposure.get k = 1)
      ∧ t.queue = [] ∧ t.NoPass
      ∧ (∀ m, (t.engine.mains.get m).state = .closed ∧ (t.engine.mains.get m).openSource = none
        ∧ (t.engine.mains.get m).context = none ∧ (t.engine.mains.get m).fault = none
        ∧ (t.engine.mains.get m).revision = 0
        ∧ (t.engine.mains.get m).warmPrime = 15 ∧ (t.engine.mains.get m).coldPrime = 60
        ∧ (t.engine.mains.get m).drainTime = 10 ∧ ∀ x, (t.engine.mains.get m).sourceMask.get x = true)
      ∧ (∀ b, (t.water.basins.get b).state = .isolated ∧ (t.water.basins.get b).level = 0
        ∧ (t.water.basins.get b).low = true ∧ (t.water.basins.get b).capacity = 60000
        ∧ (t.water.basins.get b).clarity = 3 ∧ (t.water.basins.get b).restoreMargin = 200
        ∧ (t.water.basins.get b).settleTime = 30 ∧ (t.water.basins.get b).floor = 0
        ∧ (t.water.basins.get b).baseClarity = 3 ∧ (t.water.basins.get b).reserved = 0
        ∧ (t.water.basins.get b).settle = none ∧ (t.water.basins.get b).spilled = 0
        ∧ (t.water.basins.get b).isolated = true ∧ (t.water.basins.get b).revision = 0)
      ∧ t.water.fresh = { allowance := 0, today := 0, used := 0, reserved := 0, isolated := true,
                          revision := 0 }
      ∧ t.water.clarity 5 = 0 ∧ t.water.state 5 = .isolated ∧ t.watch.mustCount = 0
      ∧ (∀ k, t.watch.grades.get k
        = { may := 40, need := 60, must := 80, clarityLimit := 3, deferralLimit := 4, revision := 0 })
      ∧ (∀ k, t.notices.pending.get k = false ∧ t.notices.enables.get k = false
        ∧ t.notices.subjects.get k = 0)
      ∧ t.notices.allFaulted = false ∧ t.notices.urgentMode = .each ∧ t.notices.urgentThreshold = 1
      ∧ (∀ k, t.field.pins.valves.get k = false)
      ∧ (∀ m, t.field.pins.pumps.get m = false ∧ t.field.pins.selects.get m = 7)
      ∧ t.field.pins.attention = false
      ∧ (∀ i, t.field.lines.get i = { t.field.lines.get i with
          activeHigh := true, filter := .one, filtered := false, qualify := none, retake := some 20 })
      ∧ t.port.command = 0 ∧ t.port.result = .done ∧ t.port.index = 0 ∧ t.port.latch = [0xEE]
      ∧ (∀ k, t.staging.get k = none)
      ∧ t.watch.model.rainGain = 15 ∧ t.watch.model.observationLife = 20
      ∧ t.watch.model.suspensionLimit = 45 ∧ t.watch.model.revision = 0 ∧ t.control.revision = 0
      ∧ (∀ b : Fin 4, (List.finRange 4).map (t.watch.model.lift.get b).get
        = [[0, 0, 0, 0], [0, 3, 6, 10], [0, 6, 12, 20], [0, 10, 20, 30]].getD b.val [])
      ∧ (∀ b : Fin 4, (List.finRange 4).map (t.watch.model.dry.get b).get
        = [[2, 1, 1, 0], [4, 3, 2, 1], [7, 5, 4, 2], [10, 8, 6, 3]].getD b.val [])
      ∧ (List.finRange 3).map t.watch.model.speed.get = [30, 60, 100]
      ∧ (List.finRange 3).map t.watch.model.humidity.get = [40, 60, 80])
    ∧ ∀ t : State, t = State.reset →
      t.PinsFollow ∧ t.NoneAsked ∧ t.QueueLaw ∧ t.ModeLaw ∧ t.FixedLaw ∧ t.ClosedLaw ∧ t.HorizonLaw
        ∧ t.PlacementLaw ∧ t.UrgencyLaw ∧ t.MustLaw ∧ t.MainLaw ∧ t.EngagedLaw ∧ t.ExclusionLaw
        ∧ t.WaterLaw

/-- 08 R147; 10, sections 10.1 and 10.2: the transaction of a well-formed command spells that command, with every
parameter at every value and with no bit dropped. The bytes of a read show how many the host clocked in all; what
they do not show is how these fall between the events to come and how long SEL had been low before the read acts:
`Instr.heard` is the command with all its bytes clocked before the first event and with no such time (logs 1 and
16). -/
def Obligations.TransactionsRoundTrip : Prop :=
  ∀ (i : Instr) (bytes : List Byte), i.wellFormed = true → encodeTransaction i = some bytes →
    decodeTransaction bytes = some i.heard

/-- 07 R138; 09 R165; 06 R110: after every step the valve, pump, select and attention pins show what they follow,
and no dispatch attempt is left unmade. 06 R107: the valve line of a cannon is on exactly while a RUNNING pass is
on it, the pump line of a main exactly while it is PRIMING or RUNNING, its select code is its open source or 7, and
ATTN is pulled exactly while an enabled kind is pending. 07 R138: the changes from one setting of the pins to
another are each made once, and one main's in this order: valve off, pump off, select, pump on, valve on; the order
between mains and of ATTN is the model's (log 23). The changes of a step are all in its list (log 23). -/
def Obligations.StepsEndSettled : Prop :=
  (∀ s t : State, step s = .next t →
    (s.PinsFollow → t.PinsFollow) ∧ (s.NoneAsked → t.NoneAsked)
      ∧ (s.field.made = [] → t.field.made = []))
    ∧ (∀ s : State,
      (s.PinsFollow ↔ s.field.pins = s.pinsFollowed)
      ∧ (∀ k, s.pinsFollowed.valves.get k = true ↔ ∃ c p, s.engine.contexts.get c = some p ∧ p.cannon = k
          ∧ p.state = .running)
      ∧ (∀ m, s.pinsFollowed.pumps.get m = true ↔ (s.engine.mains.get m).state = .priming
          ∨ (s.engine.mains.get m).state = .running)
      ∧ (∀ m, (∀ x, (s.engine.mains.get m).openSource = some x → s.pinsFollowed.selects.get m = x.val)
          ∧ ((s.engine.mains.get m).openSource = none → s.pinsFollowed.selects.get m = 7))
      ∧ (s.pinsFollowed.attention = true ↔ ∃ k, s.notices.pending.get k = true
          ∧ s.notices.enables.get k = true))
    ∧ ∀ (old new : Pins) (rank : OutputChange → Nat),
      (∀ k, rank (.valve k false) = 0 ∧ rank (.valve k true) = 4) →
      (∀ m v, rank (.pump m false) = 1 ∧ rank (.select m v) = 2 ∧ rank (.pump m true) = 3) →
      (∀ b, rank (.attention b) = 5) →
      (pinChanges old new).Pairwise (fun a b => rank a ≤ rank b ∧ a ≠ b)
      ∧ (∀ k b, .valve k b ∈ pinChanges old new ↔ new.valves.get k = b ∧ old.valves.get k ≠ b)
      ∧ (∀ m b, .pump m b ∈ pinChanges old new ↔ new.pumps.get m = b ∧ old.pumps.get m ≠ b)
      ∧ (∀ m v, .select m v ∈ pinChanges old new ↔ new.selects.get m = v ∧ old.selects.get m ≠ v)
      ∧ ∀ b, .attention b ∈ pinChanges old new ↔ new.attention = b ∧ old.attention ≠ b

/-- 01 R18, R19, R20: every step keeps the fixed exclusions equal to the store's entries; once the closed
flag is set it stays set and no entry changes. -/
def Obligations.ClosedStoreNeverGrows : Prop :=
  ∀ s t : State, step s = .next t →
    (s.FixedLaw → t.FixedLaw)
    ∧ (s.ClosedLaw → t.ClosedLaw
      ∧ (s.store.closed = true → t.store.closed = true ∧ t.store.entries = s.store.entries))

/-- 02 R22, R28, R31, R32: every step keeps the clock a time of day, each slot at its position, and no slot while
the clock is UNSET; and it keeps each slot within the horizon wherever no hour rollover is left to take. That the
law is not asked for between an advance that lands on an hour and its rollover is the model's weakening of R28 (log
4), since the two are steps of their own. -/
def Obligations.StepKeepsTheHorizonLaw : Prop :=
  ∀ s t : State, s.HorizonLaw → step s = .next t → t.HorizonLaw

/-- 01 R1, R6: every step keeps the placement laws and the window indexes. -/
def Obligations.StepKeepsThePlacementLaw : Prop :=
  ∀ s t : State, s.PlacementLaw → step s = .next t → t.PlacementLaw

/-- 03 R54, R56: every step keeps the floors of escalated and sweep-due piles, and the MUST count right.
-/
def Obligations.StepKeepsTheUrgencyLaws : Prop :=
  ∀ s t : State, step s = .next t →
    (s.UrgencyLaw → t.UrgencyLaw) ∧ (s.MustLaw → t.MustLaw)

/-- 05 R89, R90; 06 R107, R110, R130; 07 R139, R143; 03 R44: every step keeps the law of the queue, and
the modes, the mains, the passes, the engaged piles and the exclusions in agreement. -/
def Obligations.StepKeepsThePassLaws : Prop :=
  ∀ s t : State, step s = .next t →
    (s.QueueLaw → t.QueueLaw)
    ∧ (s.ModeLaw → t.ModeLaw)
    ∧ (s.ModeLaw → s.MainLaw → t.MainLaw)
    ∧ (s.EngagedLaw → t.EngagedLaw)
    ∧ (s.EngagedLaw → s.ExclusionLaw → t.ExclusionLaw)

/-- 04 R69, R71, R88: every step keeps the laws of the sources: Reserved is what the live passes hold, a
basin that is low or isolated holds no reservation and any other holds its floor and what is reserved, and
the fresh supply's Used today plus Reserved stays within Today's allowance. -/
def Obligations.StepKeepsTheWaterLaws : Prop :=
  ∀ s t : State, s.WaterLaw → step s = .next t → t.WaterLaw
end

