-- ==== Sys2Proof/Laws/State.lean ====
section
/-! SUPPORT. What each field of the state is after each elementary update: one lemma a field, so that no proof
unfolds a record update. -/

namespace Sys2Proof.Machine

variable (s : State)

/-! ### mapMain -/

@[simp] theorem State.mapMain_pending (m : Fin 4) (f : Main → Main) :
    (s.mapMain m f).pending = s.pending := rfl
@[simp] theorem State.mapMain_port (m : Fin 4) (f : Main → Main) : (s.mapMain m f).port = s.port := rfl
@[simp] theorem State.mapMain_staging (m : Fin 4) (f : Main → Main) :
    (s.mapMain m f).staging = s.staging := rfl
@[simp] theorem State.mapMain_geometry (m : Fin 4) (f : Main → Main) :
    (s.mapMain m f).geometry = s.geometry := rfl
@[simp] theorem State.mapMain_clock (m : Fin 4) (f : Main → Main) :
    (s.mapMain m f).clock = s.clock := rfl
@[simp] theorem State.mapMain_horizon (m : Fin 4) (f : Main → Main) :
    (s.mapMain m f).horizon = s.horizon := rfl
@[simp] theorem State.mapMain_watch (m : Fin 4) (f : Main → Main) :
    (s.mapMain m f).watch = s.watch := rfl
@[simp] theorem State.mapMain_queue (m : Fin 4) (f : Main → Main) :
    (s.mapMain m f).queue = s.queue := rfl
@[simp] theorem State.mapMain_water (m : Fin 4) (f : Main → Main) :
    (s.mapMain m f).water = s.water := rfl
@[simp] theorem State.mapMain_field (m : Fin 4) (f : Main → Main) :
    (s.mapMain m f).field = s.field := rfl
@[simp] theorem State.mapMain_control (m : Fin 4) (f : Main → Main) :
    (s.mapMain m f).control = s.control := rfl
@[simp] theorem State.mapMain_notices (m : Fin 4) (f : Main → Main) :
    (s.mapMain m f).notices = s.notices := rfl
@[simp] theorem State.mapMain_store (m : Fin 4) (f : Main → Main) :
    (s.mapMain m f).store = s.store := rfl
@[simp] theorem State.mapMain_startup (m : Fin 4) (f : Main → Main) :
    (s.mapMain m f).startup = s.startup := rfl
@[simp] theorem State.mapMain_engine_mains (m : Fin 4) (f : Main → Main) :
    (s.mapMain m f).engine.mains = s.engine.mains.modify m f := rfl
@[simp] theorem State.mapMain_engine_contexts (m : Fin 4) (f : Main → Main) :
    (s.mapMain m f).engine.contexts = s.engine.contexts := rfl
@[simp] theorem State.mapMain_engine_blocked (m : Fin 4) (f : Main → Main) :
    (s.mapMain m f).engine.blocked = s.engine.blocked := rfl
@[simp] theorem State.mapMain_engine_gust (m : Fin 4) (f : Main → Main) :
    (s.mapMain m f).engine.gust = s.engine.gust := rfl
@[simp] theorem State.mapMain_engine_gustLine (m : Fin 4) (f : Main → Main) :
    (s.mapMain m f).engine.gustLine = s.engine.gustLine := rfl
@[simp] theorem State.mapMain_engine_suspensions (m : Fin 4) (f : Main → Main) :
    (s.mapMain m f).engine.suspensions = s.engine.suspensions := rfl
@[simp] theorem State.mapMain_engine_asked (m : Fin 4) (f : Main → Main) :
    (s.mapMain m f).engine.asked = s.engine.asked := rfl
@[simp] theorem State.mapMain_engine_turns (m : Fin 4) (f : Main → Main) :
    (s.mapMain m f).engine.turns = s.engine.turns := rfl

/-! ### setContext -/

@[simp] theorem State.setContext_pending (c : Fin 8) (x : Option Pass) :
    (s.setContext c x).pending = s.pending := rfl
@[simp] theorem State.setContext_port (c : Fin 8) (x : Option Pass) :
    (s.setContext c x).port = s.port := rfl
@[simp] theorem State.setContext_staging (c : Fin 8) (x : Option Pass) :
    (s.setContext c x).staging = s.staging := rfl
@[simp] theorem State.setContext_geometry (c : Fin 8) (x : Option Pass) :
    (s.setContext c x).geometry = s.geometry := rfl
@[simp] theorem State.setContext_clock (c : Fin 8) (x : Option Pass) :
    (s.setContext c x).clock = s.clock := rfl
@[simp] theorem State.setContext_horizon (c : Fin 8) (x : Option Pass) :
    (s.setContext c x).horizon = s.horizon := rfl
@[simp] theorem State.setContext_watch (c : Fin 8) (x : Option Pass) :
    (s.setContext c x).watch = s.watch := rfl
@[simp] theorem State.setContext_queue (c : Fin 8) (x : Option Pass) :
    (s.setContext c x).queue = s.queue := rfl
@[simp] theorem State.setContext_water (c : Fin 8) (x : Option Pass) :
    (s.setContext c x).water = s.water := rfl
@[simp] theorem State.setContext_field (c : Fin 8) (x : Option Pass) :
    (s.setContext c x).field = s.field := rfl
@[simp] theorem State.setContext_control (c : Fin 8) (x : Option Pass) :
    (s.setContext c x).control = s.control := rfl
@[simp] theorem State.setContext_notices (c : Fin 8) (x : Option Pass) :
    (s.setContext c x).notices = s.notices := rfl
@[simp] theorem State.setContext_store (c : Fin 8) (x : Option Pass) :
    (s.setContext c x).store = s.store := rfl
@[simp] theorem State.setContext_startup (c : Fin 8) (x : Option Pass) :
    (s.setContext c x).startup = s.startup := rfl
@[simp] theorem State.setContext_engine_mains (c : Fin 8) (x : Option Pass) :
    (s.setContext c x).engine.mains = s.engine.mains := rfl
@[simp] theorem State.setContext_engine_contexts (c : Fin 8) (x : Option Pass) :
    (s.setContext c x).engine.contexts = s.engine.contexts.put c x := rfl
@[simp] theorem State.setContext_engine_blocked (c : Fin 8) (x : Option Pass) :
    (s.setContext c x).engine.blocked = s.engine.blocked := rfl
@[simp] theorem State.setContext_engine_gust (c : Fin 8) (x : Option Pass) :
    (s.setContext c x).engine.gust = s.engine.gust := rfl
@[simp] theorem State.setContext_engine_gustLine (c : Fin 8) (x : Option Pass) :
    (s.setContext c x).engine.gustLine = s.engine.gustLine := rfl
@[simp] theorem State.setContext_engine_suspensions (c : Fin 8) (x : Option Pass) :
    (s.setContext c x).engine.suspensions = s.engine.suspensions := rfl
@[simp] theorem State.setContext_engine_asked (c : Fin 8) (x : Option Pass) :
    (s.setContext c x).engine.asked = s.engine.asked := rfl
@[simp] theorem State.setContext_engine_turns (c : Fin 8) (x : Option Pass) :
    (s.setContext c x).engine.turns = s.engine.turns := rfl

/-! ### mapLiving -/

@[simp] theorem State.mapLiving_pending (i : Fin 48) (f : Living → Living) :
    (s.mapLiving i f).pending = s.pending := rfl
@[simp] theorem State.mapLiving_port (i : Fin 48) (f : Living → Living) :
    (s.mapLiving i f).port = s.port := rfl
@[simp] theorem State.mapLiving_staging (i : Fin 48) (f : Living → Living) :
    (s.mapLiving i f).staging = s.staging := rfl
@[simp] theorem State.mapLiving_geometry (i : Fin 48) (f : Living → Living) :
    (s.mapLiving i f).geometry = s.geometry := rfl
@[simp] theorem State.mapLiving_clock (i : Fin 48) (f : Living → Living) :
    (s.mapLiving i f).clock = s.clock := rfl
@[simp] theorem State.mapLiving_horizon (i : Fin 48) (f : Living → Living) :
    (s.mapLiving i f).horizon = s.horizon := rfl
@[simp] theorem State.mapLiving_queue (i : Fin 48) (f : Living → Living) :
    (s.mapLiving i f).queue = s.queue := rfl
@[simp] theorem State.mapLiving_engine (i : Fin 48) (f : Living → Living) :
    (s.mapLiving i f).engine = s.engine := rfl
@[simp] theorem State.mapLiving_water (i : Fin 48) (f : Living → Living) :
    (s.mapLiving i f).water = s.water := rfl
@[simp] theorem State.mapLiving_field (i : Fin 48) (f : Living → Living) :
    (s.mapLiving i f).field = s.field := rfl
@[simp] theorem State.mapLiving_control (i : Fin 48) (f : Living → Living) :
    (s.mapLiving i f).control = s.control := rfl
@[simp] theorem State.mapLiving_notices (i : Fin 48) (f : Living → Living) :
    (s.mapLiving i f).notices = s.notices := rfl
@[simp] theorem State.mapLiving_store (i : Fin 48) (f : Living → Living) :
    (s.mapLiving i f).store = s.store := rfl
@[simp] theorem State.mapLiving_startup (i : Fin 48) (f : Living → Living) :
    (s.mapLiving i f).startup = s.startup := rfl
@[simp] theorem State.mapLiving_watch_living (i : Fin 48) (f : Living → Living) :
    (s.mapLiving i f).watch.living = s.watch.living.modify i f := rfl
@[simp] theorem State.mapLiving_watch_grades (i : Fin 48) (f : Living → Living) :
    (s.mapLiving i f).watch.grades = s.watch.grades := rfl
@[simp] theorem State.mapLiving_watch_model (i : Fin 48) (f : Living → Living) :
    (s.mapLiving i f).watch.model = s.watch.model := rfl
@[simp] theorem State.mapLiving_watch_passCount (i : Fin 48) (f : Living → Living) :
    (s.mapLiving i f).watch.passCount = s.watch.passCount := rfl
@[simp] theorem State.mapLiving_watch_mustCount (i : Fin 48) (f : Living → Living) :
    (s.mapLiving i f).watch.mustCount = s.watch.mustCount := rfl

/-! ### mapBasin -/

@[simp] theorem State.mapBasin_pending (b : Fin 5) (f : Basin → Basin) :
    (s.mapBasin b f).pending = s.pending := rfl
@[simp] theorem State.mapBasin_port (b : Fin 5) (f : Basin → Basin) :
    (s.mapBasin b f).port = s.port := rfl
@[simp] theorem State.mapBasin_staging (b : Fin 5) (f : Basin → Basin) :
    (s.mapBasin b f).staging = s.staging := rfl
@[simp] theorem State.mapBasin_geometry (b : Fin 5) (f : Basin → Basin) :
    (s.mapBasin b f).geometry = s.geometry := rfl
@[simp] theorem State.mapBasin_clock (b : Fin 5) (f : Basin → Basin) :
    (s.mapBasin b f).clock = s.clock := rfl
@[simp] theorem State.mapBasin_horizon (b : Fin 5) (f : Basin → Basin) :
    (s.mapBasin b f).horizon = s.horizon := rfl
@[simp] theorem State.mapBasin_watch (b : Fin 5) (f : Basin → Basin) :
    (s.mapBasin b f).watch = s.watch := rfl
@[simp] theorem State.mapBasin_queue (b : Fin 5) (f : Basin → Basin) :
    (s.mapBasin b f).queue = s.queue := rfl
@[simp] theorem State.mapBasin_engine (b : Fin 5) (f : Basin → Basin) :
    (s.mapBasin b f).engine = s.engine := rfl
@[simp] theorem State.mapBasin_field (b : Fin 5) (f : Basin → Basin) :
    (s.mapBasin b f).field = s.field := rfl
@[simp] theorem State.mapBasin_control (b : Fin 5) (f : Basin → Basin) :
    (s.mapBasin b f).control = s.control := rfl
@[simp] theorem State.mapBasin_notices (b : Fin 5) (f : Basin → Basin) :
    (s.mapBasin b f).notices = s.notices := rfl
@[simp] theorem State.mapBasin_store (b : Fin 5) (f : Basin → Basin) :
    (s.mapBasin b f).store = s.store := rfl
@[simp] theorem State.mapBasin_startup (b : Fin 5) (f : Basin → Basin) :
    (s.mapBasin b f).startup = s.startup := rfl
@[simp] theorem State.mapBasin_water_basins (b : Fin 5) (f : Basin → Basin) :
    (s.mapBasin b f).water.basins = s.water.basins.modify b f := rfl
@[simp] theorem State.mapBasin_water_fresh (b : Fin 5) (f : Basin → Basin) :
    (s.mapBasin b f).water.fresh = s.water.fresh := rfl

/-! ### mapFresh -/

@[simp] theorem State.mapFresh_pending (f : Fresh → Fresh) : (s.mapFresh f).pending = s.pending := rfl
@[simp] theorem State.mapFresh_port (f : Fresh → Fresh) : (s.mapFresh f).port = s.port := rfl
@[simp] theorem State.mapFresh_staging (f : Fresh → Fresh) : (s.mapFresh f).staging = s.staging := rfl
@[simp] theorem State.mapFresh_geometry (f : Fresh → Fresh) : (s.mapFresh f).geometry = s.geometry := rfl
@[simp] theorem State.mapFresh_clock (f : Fresh → Fresh) : (s.mapFresh f).clock = s.clock := rfl
@[simp] theorem State.mapFresh_horizon (f : Fresh → Fresh) : (s.mapFresh f).horizon = s.horizon := rfl
@[simp] theorem State.mapFresh_watch (f : Fresh → Fresh) : (s.mapFresh f).watch = s.watch := rfl
@[simp] theorem State.mapFresh_queue (f : Fresh → Fresh) : (s.mapFresh f).queue = s.queue := rfl
@[simp] theorem State.mapFresh_engine (f : Fresh → Fresh) : (s.mapFresh f).engine = s.engine := rfl
@[simp] theorem State.mapFresh_field (f : Fresh → Fresh) : (s.mapFresh f).field = s.field := rfl
@[simp] theorem State.mapFresh_control (f : Fresh → Fresh) : (s.mapFresh f).control = s.control := rfl
@[simp] theorem State.mapFresh_notices (f : Fresh → Fresh) : (s.mapFresh f).notices = s.notices := rfl
@[simp] theorem State.mapFresh_store (f : Fresh → Fresh) : (s.mapFresh f).store = s.store := rfl
@[simp] theorem State.mapFresh_startup (f : Fresh → Fresh) : (s.mapFresh f).startup = s.startup := rfl
@[simp] theorem State.mapFresh_water_basins (f : Fresh → Fresh) :
    (s.mapFresh f).water.basins = s.water.basins := rfl
@[simp] theorem State.mapFresh_water_fresh (f : Fresh → Fresh) :
    (s.mapFresh f).water.fresh = f s.water.fresh := rfl

/-! ### mapLine -/

@[simp] theorem State.mapLine_pending (i : Line) (f : InputLine → InputLine) :
    (s.mapLine i f).pending = s.pending := rfl
@[simp] theorem State.mapLine_port (i : Line) (f : InputLine → InputLine) :
    (s.mapLine i f).port = s.port := rfl
@[simp] theorem State.mapLine_staging (i : Line) (f : InputLine → InputLine) :
    (s.mapLine i f).staging = s.staging := rfl
@[simp] theorem State.mapLine_geometry (i : Line) (f : InputLine → InputLine) :
    (s.mapLine i f).geometry = s.geometry := rfl
@[simp] theorem State.mapLine_clock (i : Line) (f : InputLine → InputLine) :
    (s.mapLine i f).clock = s.clock := rfl
@[simp] theorem State.mapLine_horizon (i : Line) (f : InputLine → InputLine) :
    (s.mapLine i f).horizon = s.horizon := rfl
@[simp] theorem State.mapLine_watch (i : Line) (f : InputLine → InputLine) :
    (s.mapLine i f).watch = s.watch := rfl
@[simp] theorem State.mapLine_queue (i : Line) (f : InputLine → InputLine) :
    (s.mapLine i f).queue = s.queue := rfl
@[simp] theorem State.mapLine_engine (i : Line) (f : InputLine → InputLine) :
    (s.mapLine i f).engine = s.engine := rfl
@[simp] theorem State.mapLine_water (i : Line) (f : InputLine → InputLine) :
    (s.mapLine i f).water = s.water := rfl
@[simp] theorem State.mapLine_control (i : Line) (f : InputLine → InputLine) :
    (s.mapLine i f).control = s.control := rfl
@[simp] theorem State.mapLine_notices (i : Line) (f : InputLine → InputLine) :
    (s.mapLine i f).notices = s.notices := rfl
@[simp] theorem State.mapLine_store (i : Line) (f : InputLine → InputLine) :
    (s.mapLine i f).store = s.store := rfl
@[simp] theorem State.mapLine_startup (i : Line) (f : InputLine → InputLine) :
    (s.mapLine i f).startup = s.startup := rfl
@[simp] theorem State.mapLine_field_lines (i : Line) (f : InputLine → InputLine) :
    (s.mapLine i f).field.lines = s.field.lines.put i (f (s.field.lines.get i)) := rfl
@[simp] theorem State.mapLine_field_pins (i : Line) (f : InputLine → InputLine) :
    (s.mapLine i f).field.pins = s.field.pins := rfl
@[simp] theorem State.mapLine_field_log (i : Line) (f : InputLine → InputLine) :
    (s.mapLine i f).field.log = s.field.log := rfl
@[simp] theorem State.mapLine_field_made (i : Line) (f : InputLine → InputLine) :
    (s.mapLine i f).field.made = s.field.made := rfl

/-! ### setQueue -/

@[simp] theorem State.setQueue_pending (q : List Order) : (s.setQueue q).pending = s.pending := rfl
@[simp] theorem State.setQueue_port (q : List Order) : (s.setQueue q).port = s.port := rfl
@[simp] theorem State.setQueue_staging (q : List Order) : (s.setQueue q).staging = s.staging := rfl
@[simp] theorem State.setQueue_geometry (q : List Order) : (s.setQueue q).geometry = s.geometry := rfl
@[simp] theorem State.setQueue_clock (q : List Order) : (s.setQueue q).clock = s.clock := rfl
@[simp] theorem State.setQueue_horizon (q : List Order) : (s.setQueue q).horizon = s.horizon := rfl
@[simp] theorem State.setQueue_watch (q : List Order) : (s.setQueue q).watch = s.watch := rfl
@[simp] theorem State.setQueue_engine (q : List Order) : (s.setQueue q).engine = s.engine := rfl
@[simp] theorem State.setQueue_water (q : List Order) : (s.setQueue q).water = s.water := rfl
@[simp] theorem State.setQueue_field (q : List Order) : (s.setQueue q).field = s.field := rfl
@[simp] theorem State.setQueue_control (q : List Order) : (s.setQueue q).control = s.control := rfl
@[simp] theorem State.setQueue_notices (q : List Order) : (s.setQueue q).notices = s.notices := rfl
@[simp] theorem State.setQueue_store (q : List Order) : (s.setQueue q).store = s.store := rfl
@[simp] theorem State.setQueue_startup (q : List Order) : (s.setQueue q).startup = s.startup := rfl
@[simp] theorem State.setQueue_queue (q : List Order) : (s.setQueue q).queue = q := rfl

/-! ### raise -/

@[simp] theorem State.raise_pending (k : NoticeKind) (n : Nat) : (s.raise k n).pending = s.pending := rfl
@[simp] theorem State.raise_port (k : NoticeKind) (n : Nat) : (s.raise k n).port = s.port := rfl
@[simp] theorem State.raise_staging (k : NoticeKind) (n : Nat) : (s.raise k n).staging = s.staging := rfl
@[simp] theorem State.raise_geometry (k : NoticeKind) (n : Nat) :
    (s.raise k n).geometry = s.geometry := rfl
@[simp] theorem State.raise_clock (k : NoticeKind) (n : Nat) : (s.raise k n).clock = s.clock := rfl
@[simp] theorem State.raise_horizon (k : NoticeKind) (n : Nat) : (s.raise k n).horizon = s.horizon := rfl
@[simp] theorem State.raise_watch (k : NoticeKind) (n : Nat) : (s.raise k n).watch = s.watch := rfl
@[simp] theorem State.raise_queue (k : NoticeKind) (n : Nat) : (s.raise k n).queue = s.queue := rfl
@[simp] theorem State.raise_engine (k : NoticeKind) (n : Nat) : (s.raise k n).engine = s.engine := rfl
@[simp] theorem State.raise_water (k : NoticeKind) (n : Nat) : (s.raise k n).water = s.water := rfl
@[simp] theorem State.raise_field (k : NoticeKind) (n : Nat) : (s.raise k n).field = s.field := rfl
@[simp] theorem State.raise_control (k : NoticeKind) (n : Nat) : (s.raise k n).control = s.control := rfl
@[simp] theorem State.raise_store (k : NoticeKind) (n : Nat) : (s.raise k n).store = s.store := rfl
@[simp] theorem State.raise_startup (k : NoticeKind) (n : Nat) : (s.raise k n).startup = s.startup := rfl
@[simp] theorem State.raise_notices_pending (k : NoticeKind) (n : Nat) :
    (s.raise k n).notices.pending = s.notices.pending.put k.place true := rfl
@[simp] theorem State.raise_notices_subjects (k : NoticeKind) (n : Nat) :
    (s.raise k n).notices.subjects = s.notices.subjects.put k.place n := rfl
@[simp] theorem State.raise_notices_allFaulted (k : NoticeKind) (n : Nat) :
    (s.raise k n).notices.allFaulted = s.notices.allFaulted := rfl
@[simp] theorem State.raise_notices_enables (k : NoticeKind) (n : Nat) :
    (s.raise k n).notices.enables = s.notices.enables := rfl
@[simp] theorem State.raise_notices_urgentMode (k : NoticeKind) (n : Nat) :
    (s.raise k n).notices.urgentMode = s.notices.urgentMode := rfl
@[simp] theorem State.raise_notices_urgentThreshold (k : NoticeKind) (n : Nat) :
    (s.raise k n).notices.urgentThreshold = s.notices.urgentThreshold := rfl

/-! ### ask -/

@[simp] theorem State.ask_pending (m : Fin 4) : (s.ask m).pending = s.pending := rfl
@[simp] theorem State.ask_port (m : Fin 4) : (s.ask m).port = s.port := rfl
@[simp] theorem State.ask_staging (m : Fin 4) : (s.ask m).staging = s.staging := rfl
@[simp] theorem State.ask_geometry (m : Fin 4) : (s.ask m).geometry = s.geometry := rfl
@[simp] theorem State.ask_clock (m : Fin 4) : (s.ask m).clock = s.clock := rfl
@[simp] theorem State.ask_horizon (m : Fin 4) : (s.ask m).horizon = s.horizon := rfl
@[simp] theorem State.ask_watch (m : Fin 4) : (s.ask m).watch = s.watch := rfl
@[simp] theorem State.ask_queue (m : Fin 4) : (s.ask m).queue = s.queue := rfl
@[simp] theorem State.ask_water (m : Fin 4) : (s.ask m).water = s.water := rfl
@[simp] theorem State.ask_field (m : Fin 4) : (s.ask m).field = s.field := rfl
@[simp] theorem State.ask_control (m : Fin 4) : (s.ask m).control = s.control := rfl
@[simp] theorem State.ask_notices (m : Fin 4) : (s.ask m).notices = s.notices := rfl
@[simp] theorem State.ask_store (m : Fin 4) : (s.ask m).store = s.store := rfl
@[simp] theorem State.ask_startup (m : Fin 4) : (s.ask m).startup = s.startup := rfl
@[simp] theorem State.ask_engine_mains (m : Fin 4) : (s.ask m).engine.mains = s.engine.mains := rfl
@[simp] theorem State.ask_engine_contexts (m : Fin 4) :
    (s.ask m).engine.contexts = s.engine.contexts := rfl
@[simp] theorem State.ask_engine_blocked (m : Fin 4) : (s.ask m).engine.blocked = s.engine.blocked := rfl
@[simp] theorem State.ask_engine_gust (m : Fin 4) : (s.ask m).engine.gust = s.engine.gust := rfl
@[simp] theorem State.ask_engine_gustLine (m : Fin 4) :
    (s.ask m).engine.gustLine = s.engine.gustLine := rfl
@[simp] theorem State.ask_engine_suspensions (m : Fin 4) :
    (s.ask m).engine.suspensions = s.engine.suspensions := rfl
@[simp] theorem State.ask_engine_asked (m : Fin 4) :
    (s.ask m).engine.asked = s.engine.asked.put m true := rfl
@[simp] theorem State.ask_engine_turns (m : Fin 4) : (s.ask m).engine.turns = s.engine.turns := rfl

/-! ### askAll -/

@[simp] theorem State.askAll_pending : (s.askAll).pending = s.pending := rfl
@[simp] theorem State.askAll_port : (s.askAll).port = s.port := rfl
@[simp] theorem State.askAll_staging : (s.askAll).staging = s.staging := rfl
@[simp] theorem State.askAll_geometry : (s.askAll).geometry = s.geometry := rfl
@[simp] theorem State.askAll_clock : (s.askAll).clock = s.clock := rfl
@[simp] theorem State.askAll_horizon : (s.askAll).horizon = s.horizon := rfl
@[simp] theorem State.askAll_watch : (s.askAll).watch = s.watch := rfl
@[simp] theorem State.askAll_queue : (s.askAll).queue = s.queue := rfl
@[simp] theorem State.askAll_water : (s.askAll).water = s.water := rfl
@[simp] theorem State.askAll_field : (s.askAll).field = s.field := rfl
@[simp] theorem State.askAll_control : (s.askAll).control = s.control := rfl
@[simp] theorem State.askAll_notices : (s.askAll).notices = s.notices := rfl
@[simp] theorem State.askAll_store : (s.askAll).store = s.store := rfl
@[simp] theorem State.askAll_startup : (s.askAll).startup = s.startup := rfl
@[simp] theorem State.askAll_engine_mains : (s.askAll).engine.mains = s.engine.mains := rfl
@[simp] theorem State.askAll_engine_contexts : (s.askAll).engine.contexts = s.engine.contexts := rfl
@[simp] theorem State.askAll_engine_blocked : (s.askAll).engine.blocked = s.engine.blocked := rfl
@[simp] theorem State.askAll_engine_gust : (s.askAll).engine.gust = s.engine.gust := rfl
@[simp] theorem State.askAll_engine_gustLine : (s.askAll).engine.gustLine = s.engine.gustLine := rfl
@[simp] theorem State.askAll_engine_suspensions :
    (s.askAll).engine.suspensions = s.engine.suspensions := rfl
@[simp] theorem State.askAll_engine_asked : (s.askAll).engine.asked = Table.fill 4 true := rfl
@[simp] theorem State.askAll_engine_turns : (s.askAll).engine.turns = s.engine.turns := rfl

/-! ### takeTurn -/

@[simp] theorem State.takeTurn_pending (m : Fin 4) : (s.takeTurn m).pending = s.pending := rfl
@[simp] theorem State.takeTurn_port (m : Fin 4) : (s.takeTurn m).port = s.port := rfl
@[simp] theorem State.takeTurn_staging (m : Fin 4) : (s.takeTurn m).staging = s.staging := rfl
@[simp] theorem State.takeTurn_geometry (m : Fin 4) : (s.takeTurn m).geometry = s.geometry := rfl
@[simp] theorem State.takeTurn_clock (m : Fin 4) : (s.takeTurn m).clock = s.clock := rfl
@[simp] theorem State.takeTurn_horizon (m : Fin 4) : (s.takeTurn m).horizon = s.horizon := rfl
@[simp] theorem State.takeTurn_watch (m : Fin 4) : (s.takeTurn m).watch = s.watch := rfl
@[simp] theorem State.takeTurn_queue (m : Fin 4) : (s.takeTurn m).queue = s.queue := rfl
@[simp] theorem State.takeTurn_water (m : Fin 4) : (s.takeTurn m).water = s.water := rfl
@[simp] theorem State.takeTurn_field (m : Fin 4) : (s.takeTurn m).field = s.field := rfl
@[simp] theorem State.takeTurn_control (m : Fin 4) : (s.takeTurn m).control = s.control := rfl
@[simp] theorem State.takeTurn_notices (m : Fin 4) : (s.takeTurn m).notices = s.notices := rfl
@[simp] theorem State.takeTurn_store (m : Fin 4) : (s.takeTurn m).store = s.store := rfl
@[simp] theorem State.takeTurn_startup (m : Fin 4) : (s.takeTurn m).startup = s.startup := rfl
@[simp] theorem State.takeTurn_engine_mains (m : Fin 4) :
    (s.takeTurn m).engine.mains = s.engine.mains := rfl
@[simp] theorem State.takeTurn_engine_contexts (m : Fin 4) :
    (s.takeTurn m).engine.contexts = s.engine.contexts := rfl
@[simp] theorem State.takeTurn_engine_blocked (m : Fin 4) :
    (s.takeTurn m).engine.blocked = s.engine.blocked := rfl
@[simp] theorem State.takeTurn_engine_gust (m : Fin 4) :
    (s.takeTurn m).engine.gust = s.engine.gust := rfl
@[simp] theorem State.takeTurn_engine_gustLine (m : Fin 4) :
    (s.takeTurn m).engine.gustLine = s.engine.gustLine := rfl
@[simp] theorem State.takeTurn_engine_suspensions (m : Fin 4) :
    (s.takeTurn m).engine.suspensions = s.engine.suspensions := rfl
@[simp] theorem State.takeTurn_engine_asked (m : Fin 4) :
    (s.takeTurn m).engine.asked = s.engine.asked.put m false := rfl
@[simp] theorem State.takeTurn_engine_turns (m : Fin 4) :
    (s.takeTurn m).engine.turns = s.engine.turns.tail := rfl

/-! ### answer -/

@[simp] theorem State.answer_pending (c : Byte) (r : Result) (i : Byte) :
    (s.answer c r i).pending = s.pending := rfl
@[simp] theorem State.answer_staging (c : Byte) (r : Result) (i : Byte) :
    (s.answer c r i).staging = s.staging := rfl
@[simp] theorem State.answer_geometry (c : Byte) (r : Result) (i : Byte) :
    (s.answer c r i).geometry = s.geometry := rfl
@[simp] theorem State.answer_clock (c : Byte) (r : Result) (i : Byte) :
    (s.answer c r i).clock = s.clock := rfl
@[simp] theorem State.answer_horizon (c : Byte) (r : Result) (i : Byte) :
    (s.answer c r i).horizon = s.horizon := rfl
@[simp] theorem State.answer_watch (c : Byte) (r : Result) (i : Byte) :
    (s.answer c r i).watch = s.watch := rfl
@[simp] theorem State.answer_queue (c : Byte) (r : Result) (i : Byte) :
    (s.answer c r i).queue = s.queue := rfl
@[simp] theorem State.answer_engine (c : Byte) (r : Result) (i : Byte) :
    (s.answer c r i).engine = s.engine := rfl
@[simp] theorem State.answer_water (c : Byte) (r : Result) (i : Byte) :
    (s.answer c r i).water = s.water := rfl
@[simp] theorem State.answer_field (c : Byte) (r : Result) (i : Byte) :
    (s.answer c r i).field = s.field := rfl
@[simp] theorem State.answer_control (c : Byte) (r : Result) (i : Byte) :
    (s.answer c r i).control = s.control := rfl
@[simp] theorem State.answer_notices (c : Byte) (r : Result) (i : Byte) :
    (s.answer c r i).notices = s.notices := rfl
@[simp] theorem State.answer_store (c : Byte) (r : Result) (i : Byte) :
    (s.answer c r i).store = s.store := rfl
@[simp] theorem State.answer_startup (c : Byte) (r : Result) (i : Byte) :
    (s.answer c r i).startup = s.startup := rfl
@[simp] theorem State.answer_port_command (c : Byte) (r : Result) (i : Byte) :
    (s.answer c r i).port.command = c := rfl
@[simp] theorem State.answer_port_result (c : Byte) (r : Result) (i : Byte) :
    (s.answer c r i).port.result = r := rfl
@[simp] theorem State.answer_port_index (c : Byte) (r : Result) (i : Byte) :
    (s.answer c r i).port.index = i := rfl
@[simp] theorem State.answer_port_latch (c : Byte) (r : Result) (i : Byte) :
    (s.answer c r i).port.latch = s.port.latch := rfl
@[simp] theorem State.answer_port_transaction (c : Byte) (r : Result) (i : Byte) :
    (s.answer c r i).port.transaction = s.port.transaction := rfl
@[simp] theorem State.answer_port_dataOut (c : Byte) (r : Result) (i : Byte) :
    (s.answer c r i).port.dataOut = s.port.dataOut := rfl
@[simp] theorem State.answer_port_selectLeft (c : Byte) (r : Result) (i : Byte) :
    (s.answer c r i).port.selectLeft = s.port.selectLeft := rfl

/-! ### send -/

@[simp] theorem State.send_pending (d : List Byte) : (s.send d).pending = s.pending := rfl
@[simp] theorem State.send_staging (d : List Byte) : (s.send d).staging = s.staging := rfl
@[simp] theorem State.send_geometry (d : List Byte) : (s.send d).geometry = s.geometry := rfl
@[simp] theorem State.send_clock (d : List Byte) : (s.send d).clock = s.clock := rfl
@[simp] theorem State.send_horizon (d : List Byte) : (s.send d).horizon = s.horizon := rfl
@[simp] theorem State.send_watch (d : List Byte) : (s.send d).watch = s.watch := rfl
@[simp] theorem State.send_queue (d : List Byte) : (s.send d).queue = s.queue := rfl
@[simp] theorem State.send_engine (d : List Byte) : (s.send d).engine = s.engine := rfl
@[simp] theorem State.send_water (d : List Byte) : (s.send d).water = s.water := rfl
@[simp] theorem State.send_field (d : List Byte) : (s.send d).field = s.field := rfl
@[simp] theorem State.send_control (d : List Byte) : (s.send d).control = s.control := rfl
@[simp] theorem State.send_notices (d : List Byte) : (s.send d).notices = s.notices := rfl
@[simp] theorem State.send_store (d : List Byte) : (s.send d).store = s.store := rfl
@[simp] theorem State.send_startup (d : List Byte) : (s.send d).startup = s.startup := rfl
@[simp] theorem State.send_port_command (d : List Byte) : (s.send d).port.command = s.port.command := rfl
@[simp] theorem State.send_port_result (d : List Byte) : (s.send d).port.result = s.port.result := rfl
@[simp] theorem State.send_port_index (d : List Byte) : (s.send d).port.index = s.port.index := rfl
@[simp] theorem State.send_port_latch (d : List Byte) : (s.send d).port.latch = s.port.latch := rfl
@[simp] theorem State.send_port_transaction (d : List Byte) : (s.send d).port.transaction = .idle := rfl
@[simp] theorem State.send_port_dataOut (d : List Byte) : (s.send d).port.dataOut = d := rfl
@[simp] theorem State.send_port_selectLeft (d : List Byte) :
    (s.send d).port.selectLeft = selectUnits := rfl

/-! ### latchReply -/

@[simp] theorem State.latchReply_pending (d : List Byte) : (s.latchReply d).pending = s.pending := rfl
@[simp] theorem State.latchReply_staging (d : List Byte) : (s.latchReply d).staging = s.staging := rfl
@[simp] theorem State.latchReply_geometry (d : List Byte) : (s.latchReply d).geometry = s.geometry := rfl
@[simp] theorem State.latchReply_clock (d : List Byte) : (s.latchReply d).clock = s.clock := rfl
@[simp] theorem State.latchReply_horizon (d : List Byte) : (s.latchReply d).horizon = s.horizon := rfl
@[simp] theorem State.latchReply_watch (d : List Byte) : (s.latchReply d).watch = s.watch := rfl
@[simp] theorem State.latchReply_queue (d : List Byte) : (s.latchReply d).queue = s.queue := rfl
@[simp] theorem State.latchReply_engine (d : List Byte) : (s.latchReply d).engine = s.engine := rfl
@[simp] theorem State.latchReply_water (d : List Byte) : (s.latchReply d).water = s.water := rfl
@[simp] theorem State.latchReply_field (d : List Byte) : (s.latchReply d).field = s.field := rfl
@[simp] theorem State.latchReply_control (d : List Byte) : (s.latchReply d).control = s.control := rfl
@[simp] theorem State.latchReply_notices (d : List Byte) : (s.latchReply d).notices = s.notices := rfl
@[simp] theorem State.latchReply_store (d : List Byte) : (s.latchReply d).store = s.store := rfl
@[simp] theorem State.latchReply_startup (d : List Byte) : (s.latchReply d).startup = s.startup := rfl
@[simp] theorem State.latchReply_port_command (d : List Byte) :
    (s.latchReply d).port.command = s.port.command := rfl
@[simp] theorem State.latchReply_port_result (d : List Byte) :
    (s.latchReply d).port.result = s.port.result := rfl
@[simp] theorem State.latchReply_port_index (d : List Byte) :
    (s.latchReply d).port.index = s.port.index := rfl
@[simp] theorem State.latchReply_port_latch (d : List Byte) : (s.latchReply d).port.latch = d := rfl
@[simp] theorem State.latchReply_port_transaction (d : List Byte) :
    (s.latchReply d).port.transaction = s.port.transaction := rfl
@[simp] theorem State.latchReply_port_dataOut (d : List Byte) :
    (s.latchReply d).port.dataOut = s.port.dataOut := rfl
@[simp] theorem State.latchReply_port_selectLeft (d : List Byte) :
    (s.latchReply d).port.selectLeft = s.port.selectLeft := rfl

/-! ### deselect -/

@[simp] theorem State.deselect_pending : s.deselect.pending = s.pending := rfl
@[simp] theorem State.deselect_staging : s.deselect.staging = s.staging := rfl
@[simp] theorem State.deselect_geometry : s.deselect.geometry = s.geometry := rfl
@[simp] theorem State.deselect_clock : s.deselect.clock = s.clock := rfl
@[simp] theorem State.deselect_horizon : s.deselect.horizon = s.horizon := rfl
@[simp] theorem State.deselect_watch : s.deselect.watch = s.watch := rfl
@[simp] theorem State.deselect_queue : s.deselect.queue = s.queue := rfl
@[simp] theorem State.deselect_engine : s.deselect.engine = s.engine := rfl
@[simp] theorem State.deselect_water : s.deselect.water = s.water := rfl
@[simp] theorem State.deselect_field : s.deselect.field = s.field := rfl
@[simp] theorem State.deselect_control : s.deselect.control = s.control := rfl
@[simp] theorem State.deselect_notices : s.deselect.notices = s.notices := rfl
@[simp] theorem State.deselect_store : s.deselect.store = s.store := rfl
@[simp] theorem State.deselect_startup : s.deselect.startup = s.startup := rfl
@[simp] theorem State.deselect_port : s.deselect.port = s.port.deselected := rfl

/-! ### openPort -/

section

variable (held : Nat) (x : TransactionState)

@[simp] theorem State.openPort_pending : (s.openPort held x).pending = s.pending := rfl
@[simp] theorem State.openPort_staging : (s.openPort held x).staging = s.staging := rfl
@[simp] theorem State.openPort_geometry : (s.openPort held x).geometry = s.geometry := rfl
@[simp] theorem State.openPort_clock : (s.openPort held x).clock = s.clock := rfl
@[simp] theorem State.openPort_horizon : (s.openPort held x).horizon = s.horizon := rfl
@[simp] theorem State.openPort_watch : (s.openPort held x).watch = s.watch := rfl
@[simp] theorem State.openPort_queue : (s.openPort held x).queue = s.queue := rfl
@[simp] theorem State.openPort_engine : (s.openPort held x).engine = s.engine := rfl
@[simp] theorem State.openPort_water : (s.openPort held x).water = s.water := rfl
@[simp] theorem State.openPort_field : (s.openPort held x).field = s.field := rfl
@[simp] theorem State.openPort_control : (s.openPort held x).control = s.control := rfl
@[simp] theorem State.openPort_notices : (s.openPort held x).notices = s.notices := rfl
@[simp] theorem State.openPort_store : (s.openPort held x).store = s.store := rfl
@[simp] theorem State.openPort_startup : (s.openPort held x).startup = s.startup := rfl
@[simp] theorem State.openPort_port :
    (s.openPort held x).port =
      { s.port with
        dataOut := [], transaction := x
        selectLeft := max s.port.selectLeft (selectUnits - held) } := rfl

end

/-! ### startRead -/

/-- A read that has acted is a transaction that goes on. -/
@[simp] theorem State.startRead_eq (c : Byte) (a : Answer) (streams : Bool) (n : Clocking) :
    s.startRead c a streams n = s.openPort n.held (.reading c a streams n.counts) := rfl

/-! ### abandon -/

@[simp] theorem State.abandon_pending (c : Byte) : (s.abandon c).pending = s.pending := rfl
@[simp] theorem State.abandon_staging (c : Byte) : (s.abandon c).staging = s.staging := rfl
@[simp] theorem State.abandon_geometry (c : Byte) : (s.abandon c).geometry = s.geometry := rfl
@[simp] theorem State.abandon_clock (c : Byte) : (s.abandon c).clock = s.clock := rfl
@[simp] theorem State.abandon_horizon (c : Byte) : (s.abandon c).horizon = s.horizon := rfl
@[simp] theorem State.abandon_watch (c : Byte) : (s.abandon c).watch = s.watch := rfl
@[simp] theorem State.abandon_queue (c : Byte) : (s.abandon c).queue = s.queue := rfl
@[simp] theorem State.abandon_engine (c : Byte) : (s.abandon c).engine = s.engine := rfl
@[simp] theorem State.abandon_water (c : Byte) : (s.abandon c).water = s.water := rfl
@[simp] theorem State.abandon_field (c : Byte) : (s.abandon c).field = s.field := rfl
@[simp] theorem State.abandon_control (c : Byte) : (s.abandon c).control = s.control := rfl
@[simp] theorem State.abandon_notices (c : Byte) : (s.abandon c).notices = s.notices := rfl
@[simp] theorem State.abandon_store (c : Byte) : (s.abandon c).store = s.store := rfl
@[simp] theorem State.abandon_startup (c : Byte) : (s.abandon c).startup = s.startup := rfl
@[simp] theorem State.abandon_port (c : Byte) :
    (s.abandon c).port =
      { s.port with
        command := c, result := .timeout, index := 0
        transaction := .abandoned, selectLeft := selectUnits } := rfl

/-! ### setClock -/

@[simp] theorem State.setClock_pending (c : Clock) : (s.setClock c).pending = s.pending := rfl
@[simp] theorem State.setClock_port (c : Clock) : (s.setClock c).port = s.port := rfl
@[simp] theorem State.setClock_staging (c : Clock) : (s.setClock c).staging = s.staging := rfl
@[simp] theorem State.setClock_geometry (c : Clock) : (s.setClock c).geometry = s.geometry := rfl
@[simp] theorem State.setClock_horizon (c : Clock) : (s.setClock c).horizon = s.horizon := rfl
@[simp] theorem State.setClock_watch (c : Clock) : (s.setClock c).watch = s.watch := rfl
@[simp] theorem State.setClock_queue (c : Clock) : (s.setClock c).queue = s.queue := rfl
@[simp] theorem State.setClock_engine (c : Clock) : (s.setClock c).engine = s.engine := rfl
@[simp] theorem State.setClock_water (c : Clock) : (s.setClock c).water = s.water := rfl
@[simp] theorem State.setClock_field (c : Clock) : (s.setClock c).field = s.field := rfl
@[simp] theorem State.setClock_control (c : Clock) : (s.setClock c).control = s.control := rfl
@[simp] theorem State.setClock_notices (c : Clock) : (s.setClock c).notices = s.notices := rfl
@[simp] theorem State.setClock_store (c : Clock) : (s.setClock c).store = s.store := rfl
@[simp] theorem State.setClock_startup (c : Clock) : (s.setClock c).startup = s.startup := rfl
@[simp] theorem State.setClock_clock (c : Clock) : (s.setClock c).clock = c := rfl

/-! ### setMode -/

@[simp] theorem State.setMode_pending (m : YardMode) : (s.setMode m).pending = s.pending := rfl
@[simp] theorem State.setMode_port (m : YardMode) : (s.setMode m).port = s.port := rfl
@[simp] theorem State.setMode_staging (m : YardMode) : (s.setMode m).staging = s.staging := rfl
@[simp] theorem State.setMode_geometry (m : YardMode) : (s.setMode m).geometry = s.geometry := rfl
@[simp] theorem State.setMode_clock (m : YardMode) : (s.setMode m).clock = s.clock := rfl
@[simp] theorem State.setMode_horizon (m : YardMode) : (s.setMode m).horizon = s.horizon := rfl
@[simp] theorem State.setMode_watch (m : YardMode) : (s.setMode m).watch = s.watch := rfl
@[simp] theorem State.setMode_queue (m : YardMode) : (s.setMode m).queue = s.queue := rfl
@[simp] theorem State.setMode_engine (m : YardMode) : (s.setMode m).engine = s.engine := rfl
@[simp] theorem State.setMode_water (m : YardMode) : (s.setMode m).water = s.water := rfl
@[simp] theorem State.setMode_field (m : YardMode) : (s.setMode m).field = s.field := rfl
@[simp] theorem State.setMode_notices (m : YardMode) : (s.setMode m).notices = s.notices := rfl
@[simp] theorem State.setMode_store (m : YardMode) : (s.setMode m).store = s.store := rfl
@[simp] theorem State.setMode_startup (m : YardMode) : (s.setMode m).startup = s.startup := rfl
@[simp] theorem State.setMode_control_mode (m : YardMode) : (s.setMode m).control.mode = m := rfl
@[simp] theorem State.setMode_control_drainTimers (m : YardMode) :
    (s.setMode m).control.drainTimers = s.control.drainTimers := rfl
@[simp] theorem State.setMode_control_revision (m : YardMode) :
    (s.setMode m).control.revision = s.control.revision := rfl
@[simp] theorem State.setMode_control_lastEnded (m : YardMode) :
    (s.setMode m).control.lastEnded = s.control.lastEnded := rfl

/-! ### setBuffer -/

@[simp] theorem State.setBuffer_pending (b : Fin 2) (x : Option Staged) :
    (s.setBuffer b x).pending = s.pending := rfl
@[simp] theorem State.setBuffer_port (b : Fin 2) (x : Option Staged) :
    (s.setBuffer b x).port = s.port := rfl
@[simp] theorem State.setBuffer_geometry (b : Fin 2) (x : Option Staged) :
    (s.setBuffer b x).geometry = s.geometry := rfl
@[simp] theorem State.setBuffer_clock (b : Fin 2) (x : Option Staged) :
    (s.setBuffer b x).clock = s.clock := rfl
@[simp] theorem State.setBuffer_horizon (b : Fin 2) (x : Option Staged) :
    (s.setBuffer b x).horizon = s.horizon := rfl
@[simp] theorem State.setBuffer_watch (b : Fin 2) (x : Option Staged) :
    (s.setBuffer b x).watch = s.watch := rfl
@[simp] theorem State.setBuffer_queue (b : Fin 2) (x : Option Staged) :
    (s.setBuffer b x).queue = s.queue := rfl
@[simp] theorem State.setBuffer_engine (b : Fin 2) (x : Option Staged) :
    (s.setBuffer b x).engine = s.engine := rfl
@[simp] theorem State.setBuffer_water (b : Fin 2) (x : Option Staged) :
    (s.setBuffer b x).water = s.water := rfl
@[simp] theorem State.setBuffer_field (b : Fin 2) (x : Option Staged) :
    (s.setBuffer b x).field = s.field := rfl
@[simp] theorem State.setBuffer_control (b : Fin 2) (x : Option Staged) :
    (s.setBuffer b x).control = s.control := rfl
@[simp] theorem State.setBuffer_notices (b : Fin 2) (x : Option Staged) :
    (s.setBuffer b x).notices = s.notices := rfl
@[simp] theorem State.setBuffer_store (b : Fin 2) (x : Option Staged) :
    (s.setBuffer b x).store = s.store := rfl
@[simp] theorem State.setBuffer_startup (b : Fin 2) (x : Option Staged) :
    (s.setBuffer b x).startup = s.startup := rfl
@[simp] theorem State.setBuffer_staging (b : Fin 2) (x : Option Staged) :
    (s.setBuffer b x).staging = s.staging.put b x := rfl

/-! ### follow -/

@[simp] theorem State.follow_pending : (s.follow).pending = s.pending := by
  simp only [State.follow]
@[simp] theorem State.follow_port : (s.follow).port = s.port := by
  simp only [State.follow]
@[simp] theorem State.follow_staging : (s.follow).staging = s.staging := by
  simp only [State.follow]
@[simp] theorem State.follow_geometry : (s.follow).geometry = s.geometry := by
  simp only [State.follow]
@[simp] theorem State.follow_clock : (s.follow).clock = s.clock := by
  simp only [State.follow]
@[simp] theorem State.follow_horizon : (s.follow).horizon = s.horizon := by
  simp only [State.follow]
@[simp] theorem State.follow_watch : (s.follow).watch = s.watch := by
  simp only [State.follow]
@[simp] theorem State.follow_queue : (s.follow).queue = s.queue := by
  simp only [State.follow]
@[simp] theorem State.follow_engine : (s.follow).engine = s.engine := by
  simp only [State.follow]
@[simp] theorem State.follow_water : (s.follow).water = s.water := by
  simp only [State.follow]
@[simp] theorem State.follow_control : (s.follow).control = s.control := by
  simp only [State.follow]
@[simp] theorem State.follow_notices : (s.follow).notices = s.notices := by
  simp only [State.follow]
@[simp] theorem State.follow_store : (s.follow).store = s.store := by
  simp only [State.follow]
@[simp] theorem State.follow_startup : (s.follow).startup = s.startup := by
  simp only [State.follow]
@[simp] theorem State.follow_field_lines :
    (s.follow).field.lines = s.field.lines := by
  simp only [State.follow]
@[simp] theorem State.follow_field_pins :
    (s.follow).field.pins = s.pinsFollowed := by
  simp only [State.follow]
@[simp] theorem State.follow_field_log :
    (s.follow).field.log = s.field.log := by
  simp only [State.follow]
@[simp] theorem State.follow_field_made :
    (s.follow).field.made = s.field.made ++ pinChanges s.field.pins s.pinsFollowed := by
  simp only [State.follow]

/-! ### conclude -/

@[simp] theorem State.conclude_pending :
    (s.conclude).pending = s.pending := by
  simp only [State.conclude]
@[simp] theorem State.conclude_port :
    (s.conclude).port = s.port.streamed s.statusRecord := by
  simp only [State.conclude]
@[simp] theorem State.conclude_staging :
    (s.conclude).staging = s.staging := by
  simp only [State.conclude]
@[simp] theorem State.conclude_geometry :
    (s.conclude).geometry = s.geometry := by
  simp only [State.conclude]
@[simp] theorem State.conclude_clock : (s.conclude).clock = s.clock := by
  simp only [State.conclude]
@[simp] theorem State.conclude_horizon :
    (s.conclude).horizon = s.horizon := by
  simp only [State.conclude]
@[simp] theorem State.conclude_watch : (s.conclude).watch = s.watch := by
  simp only [State.conclude]
@[simp] theorem State.conclude_queue : (s.conclude).queue = s.queue := by
  simp only [State.conclude]
@[simp] theorem State.conclude_engine : (s.conclude).engine = s.engine := by
  simp only [State.conclude]
@[simp] theorem State.conclude_water : (s.conclude).water = s.water := by
  simp only [State.conclude]
@[simp] theorem State.conclude_control :
    (s.conclude).control = s.control := by
  simp only [State.conclude]
@[simp] theorem State.conclude_notices :
    (s.conclude).notices = s.notices := by
  simp only [State.conclude]
@[simp] theorem State.conclude_store : (s.conclude).store = s.store := by
  simp only [State.conclude]
@[simp] theorem State.conclude_startup :
    (s.conclude).startup = s.startup := by
  simp only [State.conclude]
@[simp] theorem State.conclude_field_lines :
    (s.conclude).field.lines = s.field.lines := by
  simp only [State.conclude]
@[simp] theorem State.conclude_field_pins :
    (s.conclude).field.pins = s.pinsFollowed := by
  simp only [State.conclude]
@[simp] theorem State.conclude_field_log :
    (s.conclude).field.log = s.field.made ++ pinChanges s.field.pins s.pinsFollowed := by
  simp only [State.conclude]
@[simp] theorem State.conclude_field_made :
    (s.conclude).field.made = [] := by
  simp only [State.conclude]

end Sys2Proof.Machine
end

