-- ==== Sys2Proof/Laws/Frame.lean ====
section
/-! SUPPORT. What the shared operations leave alone: the frame of a state is kept by every operation of the
Order Queue, the Water Table, Pile Watch and the Pass Engine, by every pass end and by every dispatch
attempt. -/

namespace Sys2Proof.Machine

variable (s : State)

/-! ## Elementary updates -/

@[simp] theorem State.mapMain_frame (m : Fin 4) (f : Main → Main) : (s.mapMain m f).frame = s.frame := rfl
@[simp] theorem State.setContext_frame (c : Fin 8) (x : Option Pass) :
    (s.setContext c x).frame = s.frame := rfl
@[simp] theorem State.mapLiving_frame (i : Fin 48) (f : Living → Living) :
    (s.mapLiving i f).frame = s.frame := rfl
@[simp] theorem State.mapBasin_frame (b : Fin 5) (f : Basin → Basin) :
    (s.mapBasin b f).frame = s.frame := rfl
@[simp] theorem State.mapFresh_frame (f : Fresh → Fresh) : (s.mapFresh f).frame = s.frame := rfl
@[simp] theorem State.setQueue_frame (q : List Order) : (s.setQueue q).frame = s.frame := rfl
@[simp] theorem State.raise_frame (k : NoticeKind) (n : Nat) : (s.raise k n).frame = s.frame := rfl
@[simp] theorem State.ask_frame (m : Fin 4) : (s.ask m).frame = s.frame := rfl
@[simp] theorem State.askAll_frame : s.askAll.frame = s.frame := rfl
@[simp] theorem State.follow_frame : s.follow.frame = s.frame := by
  simp only [State.follow, State.frame]
@[simp] theorem State.takeTurn_frame (m : Fin 4) : (s.takeTurn m).frame = s.frame := rfl

@[simp] theorem State.askAllIf_frame (b : Bool) : (s.askAllIf b).frame = s.frame := by
  cases b <;> rfl

/-- A fold keeps what each of its steps keeps. -/
theorem State.forEach_keeps {α β : Type} (p : State → β) (l : List α) (f : State → α → State)
    (h : ∀ t x, p (f t x) = p t) : p (s.forEach l f) = p s := by
  unfold State.forEach
  induction l generalizing s with
  | nil => rfl
  | cons x l ih => rw [List.foldl_cons, ih, h]

/-- A fold keeps an invariant that each of its steps keeps. -/
theorem State.forEach_inv {α : Type} (p : State → Prop) (l : List α) (f : State → α → State)
    (h : ∀ t x, x ∈ l → p t → p (f t x)) (h0 : p s) : p (s.forEach l f) := by
  unfold State.forEach
  induction l generalizing s with
  | nil => exact h0
  | cons x l ih =>
    rw [List.foldl_cons]
    exact ih (f s x) (fun t y hy ht => h t y (List.mem_cons_of_mem x hy) ht)
      (h s x List.mem_cons_self h0)

/-! ## Order Queue -/

@[simp] theorem State.dropOrder_frame (i : Fin 48) : (s.dropOrder i).frame = s.frame := rfl

@[simp] theorem State.mapOrder_frame (i : Fin 48) (f : Order → Order) :
    (s.mapOrder i f).frame = s.frame := rfl

@[simp] theorem State.updateOrder_frame (o : Order) (f : Order → Order) :
    (s.updateOrder o f).frame = s.frame := by
  simp [State.updateOrder]

@[simp] theorem State.appendOrder_frame (o : Order) : (s.appendOrder o).frame = s.frame := rfl

theorem State.join_frame {s t : State} {o : Order} (h : s.join o = some t) : t.frame = s.frame := by
  unfold State.join at h
  split at h
  · cases h
    simp
  · split at h
    · cases h
      simp
    · cases h

@[simp] theorem State.offer_frame (i : Fin 48) (u : Urgency) : (s.offer i u).frame = s.frame := by
  unfold State.offer
  split
  · simp
  · split
    · rfl
    · split <;> simp
  · rfl
  · split
    · next h => exact State.join_frame h
    · rfl

@[simp] theorem State.mergeOrder_frame (o : Order) (r : Priority) (n : Option (Fin 24)) :
    (s.mergeOrder o r n).frame = s.frame := by
  simp [State.mergeOrder]

@[simp] theorem State.withdrawOrder_frame (o : Order) : (s.withdrawOrder o).frame = s.frame := by
  unfold State.withdrawOrder
  split <;> simp

@[simp] theorem State.clearNames_frame (p : Order → Bool) : (s.clearNames p).frame = s.frame := rfl

@[simp] theorem State.emptyQueue_frame : s.emptyQueue.frame = s.frame :=
  s.forEach_keeps State.frame _ _ fun t i => t.dropOrder_frame i

/-! ## Water Table -/

@[simp] theorem State.lowTest_frame (b : Fin 5) : (s.lowTest b).frame = s.frame := by
  unfold State.lowTest
  dsimp only
  split <;> simp

@[simp] theorem State.addLevel_frame (b : Fin 5) (v : Nat) : (s.addLevel b v).frame = s.frame := by
  unfold State.addLevel
  dsimp only
  split <;> simp

@[simp] theorem State.mapReserved_frame (x : Fin 6) (f : Nat → Nat) :
    (s.mapReserved x f).frame = s.frame := by
  unfold State.mapReserved
  split <;> rfl

@[simp] theorem State.reserve_frame (x : Fin 6) (v : Nat) : (s.reserve x v).frame = s.frame := by
  simp [State.reserve]

@[simp] theorem State.deduct_frame (x : Fin 6) (d : Nat) : (s.deduct x d).frame = s.frame := by
  unfold State.deduct
  split <;> rfl

@[simp] theorem State.release_frame (x : Fin 6) (v : Nat) : (s.release x v).frame = s.frame := by
  simp [State.release]

@[simp] theorem State.lowTestUnless_frame (e : Option (Fin 5)) (x : Fin 6) :
    (s.lowTestUnless e x).frame = s.frame := by
  unfold State.lowTestUnless
  split
  · split <;> simp
  · rfl

@[simp] theorem State.addRunoff_frame (b : Fin 5) (v : Nat) : (s.addRunoff b v).frame = s.frame := by
  simp [State.addRunoff]

@[simp] theorem State.settle_frame (e : Option (Fin 5)) (p : Pass) (v : Nat) :
    (s.settle e p v).frame = s.frame := by
  unfold State.settle
  dsimp only
  split
  · split <;> simp
  · split <;> simp

@[simp] theorem State.reportRise_frame (b : Fin 5) (x : Basin) : (s.reportRise b x).frame = s.frame := by
  simp [State.reportRise]

@[simp] theorem State.reportReady_frame (b : Fin 5) (x : Basin) :
    (s.reportReady b x).frame = s.frame := by
  simp [State.reportReady]

/-! ## Pile Watch -/

@[simp] theorem State.countMust_frame (i : Fin 48) (a b : Urgency) :
    (s.countMust i a b).frame = s.frame := by
  unfold State.countMust
  dsimp only
  repeat' split
  all_goals rfl

@[simp] theorem State.offerRule_frame (i : Fin 48) : (s.offerRule i).frame = s.frame := by
  unfold State.offerRule
  repeat' split
  all_goals simp

@[simp] theorem State.evaluate_frame (i : Fin 48) (w : WindBasis) (a b : Bool) :
    (s.evaluate i w a b).frame = s.frame := by
  unfold State.evaluate
  dsimp only
  repeat' split
  all_goals simp

@[simp] theorem State.reevaluate_frame (i : Fin 48) (b : Bool) : (s.reevaluate i b).frame = s.frame := by
  simp [State.reevaluate]

@[simp] theorem State.reevaluateWhere_frame (p : Pile → Bool) :
    (s.reevaluateWhere p).frame = s.frame := by
  refine s.forEach_keeps State.frame _ _ fun t i => ?_
  repeat' split
  all_goals simp

@[simp] theorem State.assessPile_frame (w : WindBasis) (r : Bool) (i : Fin 48) :
    (s.assessPile w r i).frame = s.frame := by
  unfold State.assessPile
  dsimp only
  split <;> simp

@[simp] theorem State.assess_frame (t : Stamp) : (s.assess t).frame = s.frame :=
  s.forEach_keeps State.frame _ _ fun u i => u.assessPile_frame _ _ i

@[simp] theorem State.creditPass_frame (r : EndReport) (b : Fin 8) :
    (s.creditPass r b).frame = s.frame := rfl

@[simp] theorem State.markSweepDue_frame (i : Fin 48) : (s.markSweepDue i).frame = s.frame := by
  simp [State.markSweepDue]

@[simp] theorem State.sweepTest_frame (b : Fin 8) (i : Fin 48) : (s.sweepTest b i).frame = s.frame := by
  refine s.forEach_keeps State.frame _ _ fun t i => ?_
  repeat' split
  all_goals simp

@[simp] theorem State.takeEndReport_frame (r : EndReport) (b : Bool) :
    (s.takeEndReport r b).frame = s.frame := by
  unfold State.takeEndReport
  dsimp only
  repeat' split
  all_goals simp

/-! ## Pass Engine -/

@[simp] theorem State.recordReasons_frame (m : Fin 4) : (s.recordReasons m).frame = s.frame := by
  unfold State.recordReasons
  rw [State.forEach_keeps _ State.frame _ _ fun t o => t.raise_frame _ _]
  rfl

@[simp] theorem State.takeOrder_frame (i : Fin 48) : (s.takeOrder i).frame = s.frame := rfl

@[simp] theorem State.faultMain_frame (m : Fin 4) (c : FaultCause) :
    (s.faultMain m c).frame = s.frame := rfl

@[simp] theorem State.mainAfterEnd_frame (p : Pass) (e : PassEnd) :
    (s.mainAfterEnd p e).frame = s.frame := by
  unfold State.mainAfterEnd
  repeat' split
  all_goals simp

@[simp] theorem State.recordEnd_frame (i : Fin 48) (e : PassEnd) :
    (s.recordEnd i e).frame = s.frame := rfl

@[simp] theorem State.endPass_frame (x : Option (Fin 5)) (c : Fin 8) (e : PassEnd) (b : Bool) :
    (s.endPass x c e b).frame = s.frame := by
  unfold State.endPass
  split <;> simp

@[simp] theorem State.prime_frame (x : Option (Fin 5)) (c : Fin 8) (p : Pass) :
    (s.prime x c p).frame = s.frame := by
  unfold State.prime
  dsimp only
  split <;> simp

@[simp] theorem State.startPass_frame (x : Option (Fin 5)) (c : Fin 8) (m : Fin 4) (k : Candidate) :
    (s.startPass x c m k).frame = s.frame := by
  unfold State.startPass
  split <;> simp

@[simp] theorem State.resumePass_frame (x : Option (Fin 5)) (c : Fin 8) (p : Pass) :
    (s.resumePass x c p).frame = s.frame := by
  simp [State.resumePass]

@[simp] theorem State.finishBay_frame (x : Option (Fin 5)) (c : Fin 8) (p : Pass) :
    (s.finishBay x c p).frame = s.frame := by
  unfold State.finishBay
  dsimp only
  split <;> simp

@[simp] theorem State.confirmFlow_frame (m : Fin 4) : (s.confirmFlow m).frame = s.frame := by
  unfold State.confirmFlow
  dsimp only
  repeat' split
  all_goals simp

@[simp] theorem State.loseFlow_frame (m : Fin 4) : (s.loseFlow m).frame = s.frame := by
  unfold State.loseFlow
  dsimp only
  repeat' split
  all_goals simp

@[simp] theorem State.countSuspension_frame : s.countSuspension.frame = s.frame := rfl

@[simp] theorem State.suspendPass_frame (c : Fin 8) (p : Pass) :
    (s.suspendPass c p).frame = s.frame := by
  unfold State.suspendPass
  dsimp only
  split <;> simp

@[simp] theorem State.setWind_frame (c : Fin 8) (p : Pass) (b : Bool) :
    (s.setWind c p b).frame = s.frame := by
  unfold State.setWind
  dsimp only
  split <;> simp

@[simp] theorem State.setMachine_frame (c : Fin 8) (p : Pass) (b : Bool) :
    (s.setMachine c p b).frame = s.frame := by
  unfold State.setMachine
  dsimp only
  split <;> simp

/-! ## Dispatch -/

@[simp] theorem State.requestAndStart_frame (x : Option (Fin 5)) (m : Fin 4) (c : Fin 8) :
    (s.requestAndStart x m c).frame = s.frame := by
  unfold State.requestAndStart
  split <;> simp

@[simp] theorem State.attempt_frame (x : Option (Fin 5)) (m : Fin 4) :
    (s.attempt x m).frame = s.frame := by
  unfold State.attempt
  repeat' split
  all_goals simp

@[simp] theorem State.runAttemptsFor_frame (x : Option (Fin 5)) (n : Nat) :
    (s.runAttemptsFor x n).frame = s.frame := by
  induction n generalizing s with
  | zero => rfl
  | succ n ih =>
    unfold State.runAttemptsFor
    split
    · rfl
    · rw [ih]; simp

/-- The attempts of an event keep the frame. -/
@[simp] theorem State.runAttempts_frame (x : Option (Fin 5)) : (s.runAttempts x).frame = s.frame := by
  simp [State.runAttempts]

@[simp] theorem State.endWhere_frame (x : Option (Fin 5)) (p : Pass → Bool) (e : PassEnd) :
    (s.endWhere x p e).frame = s.frame := by
  refine s.forEach_keeps State.frame _ _ fun t c => ?_
  repeat' split
  all_goals simp

@[simp] theorem State.holdPasses_frame : s.holdPasses.frame = s.frame := by
  unfold State.holdPasses
  rw [State.forEach_keeps _ State.frame _ _ fun t m => by split <;> simp]
  simp

@[simp] theorem State.drainPasses_frame : s.drainPasses.frame = s.frame := by
  unfold State.drainPasses
  rw [State.forEach_keeps _ State.frame _ _ fun t m => t.mapMain_frame m _]
  simp

@[simp] theorem State.closeSource_frame (x : Fin 6) : (s.closeSource x).frame = s.frame := by
  refine s.forEach_keeps State.frame _ _ fun t m => ?_
  split <;> simp

@[simp] theorem State.trimPass_frame (c : Fin 8) (p : Pass) (a b : Nat) :
    (s.trimPass c p a b).frame = s.frame := by
  unfold State.trimPass
  dsimp only
  split <;> simp

@[simp] theorem State.trimPasses_frame (bed : Fin 8) (a b : Nat) :
    (s.trimPasses bed a b).frame = s.frame := by
  refine s.forEach_keeps State.frame _ _ fun t c => ?_
  repeat' split
  all_goals simp

/-! ## Consequences of drift and of the lines -/

@[simp] theorem State.followFlag_frame (c : Fin 8) (p : Pass) : (s.followFlag c p).frame = s.frame := by
  unfold State.followFlag
  repeat' split
  all_goals simp

@[simp] theorem State.followFlags_frame (f : Pass → Bool) : (s.followFlags f).frame = s.frame := by
  refine s.forEach_keeps State.frame _ _ fun t c => ?_
  repeat' split
  all_goals simp

/-- A judging of flags changes nothing of the frame but the flags. -/
@[simp] theorem State.setFlags_frame (t : Table 24 Bool) :
    (s.setFlags t).frame = { s.frame with blocked := t } := by
  simp only [State.setFlags, State.askAllIf_frame]
  rfl

/-- Handing the gust figure changes nothing of the frame but what is handed. -/
@[simp] theorem State.handGust_frame :
    s.handGust.frame =
      { s.frame with gust := s.gustFigure, gustLine := s.field.lines.gust.filtered } := by
  unfold State.handGust
  dsimp only
  split <;> rfl

/-- A drift re-evaluation changes nothing of the frame but the figure, the line state and the flags. -/
theorem State.driftReevaluate_frame :
    s.driftReevaluate.frame =
      { s.frame with
        gust := s.gustFigure
        gustLine := s.field.lines.gust.filtered
        blocked := s.handGust.judgedFlags } := by
  simp [State.driftReevaluate]

@[simp] theorem State.machineChanged_frame (b : Fin 8) (p : Bool) :
    (s.machineChanged b p).frame = s.frame := by
  unfold State.machineChanged
  rw [State.askAllIf_frame]
  refine s.forEach_keeps State.frame _ _ fun t c => ?_
  repeat' split
  all_goals simp

@[simp] theorem State.holdYard_frame : s.holdYard.frame = { s.frame with mode := .held } := by
  simp only [State.holdYard, State.holdPasses_frame]
  rfl

/-! ## Host commands on sources, orders and piles -/

@[simp] theorem State.moveBaselines_frame (b : Fin 5) : (s.moveBaselines b).frame = s.frame := by
  refine s.forEach_keeps State.frame _ _ fun t c => ?_
  repeat' split
  all_goals simp

@[simp] theorem State.cutLow_frame (b : Fin 5) : (s.cutLow b).frame = s.frame := by
  simp [State.cutLow]

@[simp] theorem State.takeGauge_frame (b : Fin 5) (l c : Nat) : (s.takeGauge b l c).frame = s.frame := by
  unfold State.takeGauge
  dsimp only
  split <;> simp

@[simp] theorem State.takeInflow_frame (b : Fin 5) (v : Nat) (t : Bool) :
    (s.takeInflow b v t).frame = s.frame := by
  unfold State.takeInflow
  dsimp only
  split <;> simp

@[simp] theorem State.setIsolated_frame (x : Fin 6) (v : Bool) : (s.setIsolated x v).frame = s.frame := by
  unfold State.setIsolated
  split <;> rfl

@[simp] theorem State.isolateSource_frame (x : Fin 6) : (s.isolateSource x).frame = s.frame := by
  simp [State.isolateSource]

@[simp] theorem State.restoreSource_frame (x : Fin 6) : (s.restoreSource x).frame = s.frame := by
  simp [State.restoreSource]

@[simp] theorem State.settled_frame (b : Fin 5) : (s.settled b).frame = s.frame := by
  simp [State.settled]

@[simp] theorem State.rolloverDay_frame : s.rolloverDay.frame = s.frame := by
  simp [State.rolloverDay]

/-! ## Fields of the frame, after the attempts of an event -/

@[simp] theorem State.runAttempts_pending (x : Option (Fin 5)) :
    (s.runAttempts x).pending = s.pending := congrArg Frame.pending (s.runAttempts_frame x)
@[simp] theorem State.runAttempts_port (x : Option (Fin 5)) :
    (s.runAttempts x).port = s.port := congrArg Frame.port (s.runAttempts_frame x)
@[simp] theorem State.runAttempts_staging (x : Option (Fin 5)) :
    (s.runAttempts x).staging = s.staging := congrArg Frame.staging (s.runAttempts_frame x)
@[simp] theorem State.runAttempts_geometry (x : Option (Fin 5)) :
    (s.runAttempts x).geometry = s.geometry := congrArg Frame.geometry (s.runAttempts_frame x)
@[simp] theorem State.runAttempts_clock (x : Option (Fin 5)) :
    (s.runAttempts x).clock = s.clock := congrArg Frame.clock (s.runAttempts_frame x)
@[simp] theorem State.runAttempts_horizon (x : Option (Fin 5)) :
    (s.runAttempts x).horizon = s.horizon := congrArg Frame.horizon (s.runAttempts_frame x)
@[simp] theorem State.runAttempts_grades (x : Option (Fin 5)) :
    (s.runAttempts x).watch.grades = s.watch.grades := congrArg Frame.grades (s.runAttempts_frame x)
@[simp] theorem State.runAttempts_model (x : Option (Fin 5)) :
    (s.runAttempts x).watch.model = s.watch.model := congrArg Frame.model (s.runAttempts_frame x)
@[simp] theorem State.runAttempts_blocked (x : Option (Fin 5)) :
    (s.runAttempts x).engine.blocked = s.engine.blocked :=
  congrArg Frame.blocked (s.runAttempts_frame x)
@[simp] theorem State.runAttempts_gust (x : Option (Fin 5)) :
    (s.runAttempts x).engine.gust = s.engine.gust := congrArg Frame.gust (s.runAttempts_frame x)
@[simp] theorem State.runAttempts_gustLine (x : Option (Fin 5)) :
    (s.runAttempts x).engine.gustLine = s.engine.gustLine :=
  congrArg Frame.gustLine (s.runAttempts_frame x)
@[simp] theorem State.runAttempts_lines (x : Option (Fin 5)) :
    (s.runAttempts x).field.lines = s.field.lines := congrArg Frame.lines (s.runAttempts_frame x)
@[simp] theorem State.runAttempts_mode (x : Option (Fin 5)) :
    (s.runAttempts x).control.mode = s.control.mode := congrArg Frame.mode (s.runAttempts_frame x)
@[simp] theorem State.runAttempts_drainTimers (x : Option (Fin 5)) :
    (s.runAttempts x).control.drainTimers = s.control.drainTimers :=
  congrArg Frame.drainTimers (s.runAttempts_frame x)
@[simp] theorem State.runAttempts_enables (x : Option (Fin 5)) :
    (s.runAttempts x).notices.enables = s.notices.enables :=
  congrArg Frame.enables (s.runAttempts_frame x)
@[simp] theorem State.runAttempts_store (x : Option (Fin 5)) :
    (s.runAttempts x).store = s.store := congrArg Frame.store (s.runAttempts_frame x)
@[simp] theorem State.runAttempts_startup (x : Option (Fin 5)) :
    (s.runAttempts x).startup = s.startup := congrArg Frame.startup (s.runAttempts_frame x)

end Sys2Proof.Machine
end

