-- ==== Sys2Proof/Laws/Step.lean ====
section
/-! SUPPORT. The frame of every step: what a host command, an event and the attempts at their end come to, said
once, so that no later proof unfolds them. -/

namespace Sys2Proof.Machine

variable (s : State)

/-! ## Attempts that find nothing to do -/

/-- No main comes next exactly where none is asked for. -/
theorem Engine.nextAsked_eq_none (e : Engine) : e.nextAsked = none ↔ ∀ m, e.asked.get m = false := by
  have hf : (List.finRange 4).find? e.asked.get = none ↔ ∀ m, e.asked.get m = false := by
    simp [List.find?_eq_none]
  unfold Engine.nextAsked
  split
  · next m hm =>
    split
    · next h =>
      constructor
      · intro hc; cases hc
      · intro hc; simp [hc m] at h
    · exact hf
  · exact hf

/-- The main that comes next is asked for. -/
theorem Engine.nextAsked_asked {e : Engine} {m : Fin 4} (h : e.nextAsked = some m) :
    e.asked.get m = true := by
  unfold Engine.nextAsked at h
  split at h
  · split at h
    · next hm => cases h; exact hm
    · exact List.find?_some h
  · exact List.find?_some h

/-- Where no attempt is asked for, none is made. -/
theorem State.runAttempts_of_noneAsked {s : State} (x : Option (Fin 5)) (h : s.NoneAsked) :
    s.runAttempts x = s := by
  have hn : s.engine.nextAsked = none := (Engine.nextAsked_eq_none _).2 h
  simp [State.runAttempts, attemptBound, State.runAttemptsFor, hn]

/-- An attempt on a main that is not available does nothing (06 R110). -/
theorem State.attempt_of_not_available {s : State} (x : Option (Fin 5)) {m : Fin 4}
    (h : s.available m = false) : s.attempt x m = s := by
  simp [State.attempt, h]

/-- Outside ACTIVE no main is available (06 R107). -/
theorem State.available_of_not_active {s : State} (m : Fin 4) (h : s.control.mode ≠ .active) :
    s.available m = false := by
  simp [State.available, h]

/-! ## Host commands and events -/

/-- A command that the part accepts is taken whole (08 R148). -/
theorem State.hostCommand_of_accepts {s : State} (h : s.Accepts) (code i : Byte)
    (act : State → State × Answer) :
    s.hostCommand code i act = (act s).1.commandEnd code (act s).2 := by
  simp [State.hostCommand, h.1, h.2]

/-- A command at a BUSY port is refused (08 R151). -/
theorem State.hostCommand_of_busy {s : State} (hl : s.live = true) (hb : s.busy = true) (code i : Byte)
    (act : State → State × Answer) : s.hostCommand code i act = s.refuseBusy code i := by
  simp [State.hostCommand, hl, hb]

/-- A part without supply or in reset takes no command (logs 11, 12). -/
theorem State.hostCommand_of_dead {s : State} (h : s.live = false) (code i : Byte)
    (act : State → State × Answer) : s.hostCommand code i act = s.conclude := by
  simp [State.hostCommand, h]

/-- An event of a part in service is taken whole. -/
theorem State.event_of_live {s : State} (h : s.live = true) (act : State → State) :
    s.event act = (act s).eventEnd := by
  simp [State.event, h]

/-- A part without supply or in reset takes no event. -/
theorem State.event_of_dead {s : State} (h : s.live = false) (act : State → State) :
    s.event act = s.conclude := by
  simp [State.event, h]

/-! ## Pins -/

/-- Pins that do not move make no change. -/
@[simp] theorem pinChanges_self (p : Pins) : pinChanges p p = [] := by
  simp [pinChanges]

/-- Pins that follow already do not move. -/
theorem State.follow_of_pinsFollow {s : State} (h : s.PinsFollow) : s.follow = s := by
  unfold State.PinsFollow at h
  simp only [State.follow, ← h, pinChanges_self, List.append_nil]

/-- What the pins follow is read off the state, and following changes none of it. -/
@[simp] theorem State.follow_pinsFollowed : s.follow.pinsFollowed = s.pinsFollowed := by
  simp only [State.pinsFollowed, State.follow_engine, State.follow_notices]

@[simp] theorem State.follow_follow : s.follow.follow = s.follow :=
  State.follow_of_pinsFollow (by simp [State.PinsFollow])

/-! ## Timers of passes -/

/-- The expiry of a timer that has run out is its work (06 R117, R118, R124). -/
theorem State.passTimer_of_due {s : State} {c : Fin 8} {p : Pass} {timer : Pass → Option Nat}
    (h : s.engine.contexts.get c = some p) (ht : timer p = some 0) (f : State → Pass → State) :
    s.passTimer c timer f = f s p := by
  simp [State.passTimer, h, ht]

/-- Where no such timer has run out there is no expiry (06 R129; log 3). -/
theorem State.passTimer_of_not_due {s : State} {c : Fin 8} {timer : Pass → Option Nat}
    (h : ∀ p, s.engine.contexts.get c = some p → timer p ≠ some 0) (f : State → Pass → State) :
    s.passTimer c timer f = s := by
  unfold State.passTimer
  split
  · next p hp => simp [h p hp]
  · rfl

/-! ## What the end of a command leaves alone -/

/-- The list of changes, and a read that goes on, are all that the end of a step changes in the frame. -/
@[simp] theorem State.conclude_frame :
    s.conclude.frame =
      { s.frame with
        port := s.port.streamed s.statusRecord
        log := s.field.made ++ pinChanges s.field.pins s.pinsFollowed } := by
  simp only [State.conclude, State.frame]

/-- Where no read goes on, the end of a step leaves the port alone. -/
theorem Port.streamed_of_idle {p : Port} (h : p.transaction = .idle) (record : List Byte) :
    p.streamed record = p := by
  simp [Port.streamed, h]

/-- The deselect of a read writes its triple (08 R150). -/
theorem Port.deselected_of_answer {p : Port} {c i : Byte} {r : Result} {streams : Bool} {later : List Nat}
    (h : p.transaction = .reading c (some (r, i)) streams later) :
    p.deselected = { p.risen with command := c, result := r, index := i } := by
  simp [Port.deselected, h]

/-- The deselect of any other read ends it, and writes nothing. -/
theorem Port.deselected_of_no_answer {p : Port} {c : Byte} (hc : p.readCode = some c)
    (h : ∀ c a streams later, p.transaction ≠ .reading c (some a) streams later) :
    p.deselected = p.risen := by
  unfold Port.deselected
  unfold Port.readCode at hc
  split
  · next hp => exact absurd hp (h _ _ _ _)
  · rfl
  · rfl
  · next hp => simp [hp] at hc
  · next hp => simp [hp] at hc

@[simp] theorem Port.deselected_latch (p : Port) : p.deselected.latch = p.latch := by
  unfold Port.deselected; split <;> rfl

@[simp] theorem Port.deselected_dataOut (p : Port) : p.deselected.dataOut = p.dataOut := by
  unfold Port.deselected; split <;> rfl

@[simp] theorem Port.deselected_transaction (p : Port) : p.deselected.transaction = .idle := by
  unfold Port.deselected; split <;> first | rfl | assumption

/-- A read that goes on with its last bytes is deselected. -/
theorem Port.streamed_of_last {p : Port} {c : Byte} {a : Option (Result × Byte)} {streams : Bool} {n : Nat}
    (h : p.transaction = .reading c a streams [n]) (record : List Byte) :
    p.streamed record =
      ({ p with
        dataOut := p.dataOut ++ p.readBytes streams n
        transaction := .reading c a streams [] } : Port).deselected := by
  simp [Port.streamed, h]

/-- A read that goes on with more bytes to come after the next event. -/
theorem Port.streamed_of_more {p : Port} {c : Byte} {a : Option (Result × Byte)} {streams : Bool} {n m : Nat}
    {later : List Nat} (h : p.transaction = .reading c a streams (n :: m :: later)) (record : List Byte) :
    p.streamed record =
      { p with
        dataOut := p.dataOut ++ p.readBytes streams n
        transaction := .reading c a streams (m :: later) } := by
  simp [Port.streamed, h]

/-! ## The 1.5 s of a select -/

/-- Where no read goes on, no timeout falls due. -/
theorem Port.timedOut_of_closed {p : Port} (h : p.readCode = none) : p.timedOut = none := by
  simp [Port.timedOut, h]

/-- Before the count is out, no timeout falls due (08 R149). -/
theorem Port.timedOut_of_left {p : Port} (h : p.selectLeft ≠ 0) : p.timedOut = none := by
  simp [Port.timedOut, h]

/-- Before the count is out, the command of a timeout does nothing (08 R149; log 3). -/
theorem execTransactionTimeout_of_left {s : State} (h : s.port.selectLeft ≠ 0) (received : List Byte) :
    execTransactionTimeout received s = .next s.conclude := by
  simp [execTransactionTimeout, State.portStep, h]

/-- A timeout falls due exactly where a read goes on and its count is out (08 R149). -/
theorem Port.timedOut_eq_none (p : Port) :
    p.timedOut = none ↔ (p.selectLeft = 0 → p.transaction = .idle ∨ p.transaction = .abandoned) := by
  unfold Port.timedOut Port.readCode
  split <;> (try split) <;> simp_all

/-! ## Events that are due (log 5) -/

/-- What a search for a due event finds is due. -/
theorem due_of_firstThat {α : Type} {items : List α} {isDue : α → Bool} {f : α → Instr} {c : Instr}
    (h : firstThat items isDue f = some c) : ∃ a, isDue a = true ∧ f a = c := by
  unfold firstThat at h
  rw [Option.map_eq_some_iff] at h
  obtain ⟨a, ha, hf⟩ := h
  exact ⟨a, List.find?_some ha, hf⟩

/-- A search over every item finds nothing exactly where nothing is due. -/
theorem firstThat_eq_none {α : Type} {items : List α} (all : ∀ a, a ∈ items) (isDue : α → Bool)
    (f : α → Instr) : firstThat items isDue f = none ↔ ∀ a, isDue a = false := by
  simp [firstThat, List.find?_eq_none, all]

/-- A pass timer is due where it shows 0. -/
theorem State.passDue_eq_true {timer : Pass → Option Nat} {c : Fin 8} :
    s.passDue timer c = true ↔ ∃ p, s.engine.contexts.get c = some p ∧ timer p = some 0 := by
  unfold State.passDue
  split <;> simp_all

theorem State.passDue_eq_false {timer : Pass → Option Nat} {c : Fin 8} :
    s.passDue timer c = false ↔ ∀ p, s.engine.contexts.get c = some p → timer p ≠ some 0 := by
  unfold State.passDue
  split <;> simp_all

/-- Every line stands in the record's order (07 R136). -/
theorem mem_allLines (i : Line) : i ∈ allLines := by
  rcases i with b | _ | _ | _ | m
  · revert b; decide
  · decide
  · decide
  · decide
  · revert m; decide

/-! ## Read commands -/

section

variable {s : State} (code i : Byte) (clocked : Clocking) (form : State → Reading)

/-- No select has lasted more than 1.5 s before the count is out (08 R149). -/
theorem Port.outlasted_of_left {p : Port} (h : p.selectLeft ≠ 0) (held : Nat) : p.outlasted held = false := by
  simp [Port.outlasted, h]

/-- A select that fell no more than 1.5 s ago has lasted no longer (08 R149). -/
theorem Port.outlasted_of_held (p : Port) {held : Nat} (h : held ≤ 30) : p.outlasted held = false := by
  simp [Port.outlasted, selectUnits, Nat.not_lt.2 h]

/-- A read whose select is in time acts. -/
theorem State.readSelect_of_inTime {held : Nat} (h : s.port.deselected.outlasted held = false)
    (act : State → State) : s.readSelect code held act = act s.deselect := by
  simp only [State.readSelect, State.deselect, h]
  rfl

/-- A read whose select has outlasted its 1.5 s is abandoned, with nothing sent (08 R149). -/
theorem State.readSelect_of_outlasted {held : Nat} (h : s.port.deselected.outlasted held = true)
    (act : State → State) : s.readSelect code held act = (s.deselect.send []).abandon (lateCode code) := by
  simp only [State.readSelect, State.deselect, h]
  rfl

variable (hs : s.port.deselected.outlasted clocked.held = false)
include hs

/-- A read at a BUSY port is refused at once (08 R151). -/
theorem State.openRead_of_busy (h : s.busy = true) :
    s.openRead code i clocked form = (s.deselect.answer code .busy i).startRead code none false clocked := by
  rw [State.openRead, State.readSelect_of_inTime code hs, h]
  rfl

/-- A read that forms a reply latches it (08 R153). -/
theorem State.openRead_of_reply (h : s.busy = false) {reply : List Byte} (hr : (form s).reply = some reply) :
    s.openRead code i clocked form =
      (s.deselect.latchReply reply).startRead code (some ((form s).result, (form s).index)) true clocked := by
  rw [State.openRead, State.readSelect_of_inTime code hs, h]
  simp only [hr]
  rfl

/-- A refused read leaves the latch (08 R153). -/
theorem State.openRead_of_none (h : s.busy = false) (hr : (form s).reply = none) :
    s.openRead code i clocked form =
      s.deselect.startRead code (some ((form s).result, (form s).index)) false clocked := by
  rw [State.openRead, State.readSelect_of_inTime code hs, h]
  simp only [hr]
  rfl

end

/-- The triple of an answer. -/
def Port.answered (p : Port) (code : Byte) (a : Answer) : Port :=
  match a with
  | some (r, i) => { p with command := code, result := r, index := i }
  | none => p

@[simp] theorem State.answerWith_frame (code : Byte) (a : Answer) :
    (s.answerWith code a).frame = { s.frame with port := s.port.answered code a } := by
  unfold State.answerWith Port.answered
  split <;> rfl

/-- The frame after a command: its own work's, with the triple and the list of output changes. -/
theorem State.commandEnd_frame (code : Byte) (a : Answer) :
    (s.commandEnd code a).frame =
      { s.frame with
        port := ({ s.port.deselected.risen with dataOut := [] } : Port).answered code a
        log := (s.commandEnd code a).field.log } := by
  have hp : (s.runAttempts none).port = s.port := s.runAttempts_port none
  have hf : (s.runAttempts none).frame = s.frame := s.runAttempts_frame none
  have hi : (((s.runAttempts none).deselect.send []).answerWith code a).port.transaction = .idle := by
    unfold State.answerWith
    split <;> rfl
  have hq : (((s.runAttempts none).deselect.send []).answerWith code a).port =
      ({ s.port.deselected.risen with dataOut := [] } : Port).answered code a := by
    rw [← hp]
    unfold State.answerWith Port.answered
    split <;> rfl
  have h1 : ((s.runAttempts none).deselect.send []).frame =
      { (s.runAttempts none).frame with
        port := { (s.runAttempts none).port.deselected.risen with dataOut := [] } } := rfl
  unfold State.commandEnd
  rw [State.conclude_frame, State.answerWith_frame, Port.streamed_of_idle hi, hq, h1, hf]
  simp only [State.conclude_field_log]

/-- The frame after an event: its own work's, with the list of output changes, and what a read that goes on
streams. -/
theorem State.eventEnd_frame :
    s.eventEnd.frame =
      { s.frame with port := s.eventEnd.port, log := s.eventEnd.field.log } := by
  unfold State.eventEnd
  rw [State.conclude_frame, State.runAttempts_frame]
  simp only [State.conclude_field_log, State.conclude_port]

end Sys2Proof.Machine
end

