-- ==== Sys2Proof/Laws/Contexts.lean ====
section
/-! SUPPORT. Work that takes the live passes, the mains or the orders one after another: each is a walk in
ascending order, and any step that does what the rule says at each place makes the same walk. -/

namespace Sys2Proof.Machine

variable (s : State)

/-- Two walks whose steps agree are one walk. -/
theorem foldl_of_step {α : Type} {f g : State → α → State} (h : ∀ t a, f t a = g t a) (l : List α) (s : State) :
    l.foldl f s = l.foldl g s := by
  induction l generalizing s with
  | nil => rfl
  | cons a l ih => simp only [List.foldl_cons, h, ih]

/-- The passes that `p` finds end in ascending context order, each with the attempts of its end (06 R127, R131,
R132). -/
theorem State.endWhere_eq {x : Option (Fin 5)} {p : Pass → Bool} {e : PassEnd} {next : State → Fin 8 → State}
    (free : ∀ t c, t.engine.contexts.get c = none → next t c = t)
    (other : ∀ t c q, t.engine.contexts.get c = some q → p q = false → next t c = t)
    (ends : ∀ t c q, t.engine.contexts.get c = some q → p q = true →
      next t c = (t.endPass x c e true).runAttempts x) :
    s.endWhere x p e = (List.finRange 8).foldl next s := by
  refine foldl_of_step (fun t c => ?_) _ s
  cases h : t.engine.contexts.get c with
  | none => simp [free t c h]
  | some q =>
    cases hp : p q with
    | true => simp [hp, ends t c q h hp]
    | false => simp [hp, other t c q h hp]

/-- The WIND reason of a SUSPENDED pass, written out (06 R122). -/
theorem State.setWind_eq {p : Pass} (h : p.state = .suspended) (c : Fin 8) (b : Bool) :
    s.setWind c p b =
      { s with
        engine := { s.engine with
          contexts := s.engine.contexts.put c (some { p with wind := b })
          asked := if p.wind = true ∧ p.machine = false ∧ b = false then s.engine.asked.put p.main true
            else s.engine.asked } } := by
  have hr : (p.wind && ({ p with wind := b } : Pass).resumable)
      = decide (p.wind = true ∧ p.machine = false ∧ b = false) := by
    simp only [Pass.resumable, h]
    cases p.wind <;> cases p.machine <;> cases b <;> rfl
  unfold State.setWind
  simp only [hr, decide_eq_true_eq]
  by_cases hc : p.wind = true ∧ p.machine = false ∧ b = false
  · rw [if_pos hc, if_pos hc]; rfl
  · rw [if_neg hc, if_neg hc]; rfl

/-- The MACHINE reason of a SUSPENDED pass, written out (06 R122). -/
theorem State.setMachine_eq {p : Pass} (h : p.state = .suspended) (c : Fin 8) (b : Bool) :
    s.setMachine c p b =
      { s with
        engine := { s.engine with
          contexts := s.engine.contexts.put c (some { p with machine := b })
          asked := if p.machine = true ∧ p.wind = false ∧ b = false then s.engine.asked.put p.main true
            else s.engine.asked } } := by
  have hr : (p.machine && ({ p with machine := b } : Pass).resumable)
      = decide (p.machine = true ∧ p.wind = false ∧ b = false) := by
    simp only [Pass.resumable, h]
    cases p.machine <;> cases p.wind <;> cases b <;> rfl
  unfold State.setMachine
  simp only [hr, decide_eq_true_eq]
  by_cases hc : p.machine = true ∧ p.wind = false ∧ b = false
  · rw [if_pos hc, if_pos hc]; rfl
  · rw [if_neg hc, if_neg hc]; rfl

/-- A judging of drift flags reaches the passes it concerns in ascending context order (06 R121, R122). -/
theorem State.followFlags_eq {p : Pass → Bool} {next : State → Fin 8 → State}
    (free : ∀ t c, t.engine.contexts.get c = none → next t c = t)
    (other : ∀ t c q, t.engine.contexts.get c = some q → p q = false → next t c = t)
    (live : ∀ t c q, t.engine.contexts.get c = some q → p q = true → q.state ≠ .suspended →
      next t c = if t.engine.blocked.get q.cannon then t.suspendPass c q else t)
    (held : ∀ t c q, t.engine.contexts.get c = some q → p q = true → q.state = .suspended →
      next t c = t.setWind c q (t.engine.blocked.get q.cannon)) :
    s.followFlags p = (List.finRange 8).foldl next s := by
  refine foldl_of_step (fun t c => ?_) _ s
  cases h : t.engine.contexts.get c with
  | none => simp [free t c h]
  | some q =>
    cases hp : p q with
    | false => simp [hp, other t c q h hp]
    | true =>
      cases hs : q.state with
      | suspended => simp [hp, held t c q h hp hs, State.followFlag, hs]
      | priming => simp [hp, live t c q h hp (by simp [hs]), State.followFlag, hs]
      | running => simp [hp, live t c q h hp (by simp [hs]), State.followFlag, hs]

/-- A bed's machine line reaches the passes on the bed in ascending context order (07 R135; 06 R121, R122). -/
theorem State.machineChanged_eq {bed : Fin 8} {present : Bool} {next : State → Fin 8 → State}
    (free : ∀ t c, t.engine.contexts.get c = none → next t c = t)
    (other : ∀ t c q, t.engine.contexts.get c = some q → t.bedOf q.pile ≠ some bed → next t c = t)
    (live : ∀ t c q, t.engine.contexts.get c = some q → t.bedOf q.pile = some bed → q.state ≠ .suspended →
      next t c = if present then t.suspendPass c q else t)
    (held : ∀ t c q, t.engine.contexts.get c = some q → t.bedOf q.pile = some bed → q.state = .suspended →
      next t c = t.setMachine c q present) :
    s.machineChanged bed present = ((List.finRange 8).foldl next s).askAllIf !present := by
  unfold State.machineChanged State.forEach
  rw [foldl_of_step (g := next) (fun t c => ?_) allContexts s, allContexts]
  cases h : t.engine.contexts.get c with
  | none => simp [free t c h]
  | some q =>
    by_cases hb : t.bedOf q.pile = some bed
    · cases hs : q.state with
      | suspended => simp only [hb, if_true, hs, held t c q h hb hs]
      | priming => simp [hb, hs, live t c q h hb (by simp [hs])]
      | running => simp [hb, hs, live t c q h hb (by simp [hs])]
    · simp [hb, other t c q h hb]

/-- A new exclusion trims the passes it meets in ascending context order (06 R130). -/
theorem State.trimPasses_eq {bed : Fin 8} {start length : Nat} {next : State → Fin 8 → State}
    (free : ∀ t c, t.engine.contexts.get c = none → next t c = t)
    (meets : ∀ t c q, t.engine.contexts.get c = some q → t.bedOf q.pile = some bed →
      q.meetsWindow start length = true → next t c = t.trimPass c q start length)
    (other : ∀ t c q, t.engine.contexts.get c = some q →
      ¬ (t.bedOf q.pile = some bed ∧ q.meetsWindow start length = true) → next t c = t) :
    s.trimPasses bed start length = (List.finRange 8).foldl next s := by
  refine foldl_of_step (fun t c => ?_) _ s
  cases h : t.engine.contexts.get c with
  | none => simp [free t c h]
  | some q =>
    by_cases hm : t.bedOf q.pile = some bed ∧ q.meetsWindow start length = true
    · simp [hm, meets t c q h hm.1 hm.2]
    · simp only [if_neg hm, other t c q h hm]

/-- The sweep-due test takes the piles of the bed in ascending index; each it finds due is marked, raised and
offered before the next is tested (03 R63). -/
theorem State.sweepTest_eq {bed : Fin 8} {wetted : Fin 48} {next : State → Fin 48 → State}
    (absent : ∀ t j, t.geometry.piles.get j = none → next t j = t)
    (due : ∀ t j q, t.geometry.piles.get j = some q → q.bed = bed ∧ j ≠ wetted ∧ t.sweepFindsDue bed j = true
      ∧ (t.watch.living.get j).sweepDue = false → next t j = t.markSweepDue j)
    (other : ∀ t j q, t.geometry.piles.get j = some q → ¬ (q.bed = bed ∧ j ≠ wetted
      ∧ t.sweepFindsDue bed j = true ∧ (t.watch.living.get j).sweepDue = false) → next t j = t) :
    s.sweepTest bed wetted = (List.finRange 48).foldl next s := by
  refine foldl_of_step (fun t j => ?_) _ s
  cases h : t.geometry.piles.get j with
  | none => simp [absent t j h]
  | some q =>
    by_cases hm : q.bed = bed ∧ j ≠ wetted ∧ t.sweepFindsDue bed j = true
        ∧ (t.watch.living.get j).sweepDue = false
    · simp only [if_pos hm, due t j q h hm]
    · simp only [if_neg hm, other t j q h hm]

/-- Every main replaced, each by a function of itself, is the table of what they become. -/
theorem State.forEach_mapMain (f : Main → Main) :
    s.forEach (List.finRange 4) (fun t m => t.mapMain m f) =
      { s with engine := { s.engine with mains := Table.tab fun m => f (s.engine.mains.get m) } } := by
  have h : List.finRange 4 = [0, 1, 2, 3] := by decide
  have ht : ((((s.engine.mains.modify 0 f).modify 1 f).modify 2 f).modify 3 f)
      = Table.tab fun m => f (s.engine.mains.get m) := by
    apply Table.ext_get
    intro m
    fin_cases m <;> simp
  rw [← ht, h]
  rfl

/-- The orders of some piles leave one after another (05 R99). -/
theorem State.dropOrders_eq (l : List (Fin 48)) (s : State) : l.foldl State.dropOrder s = { s with
    queue := s.queue.filter (fun o => decide (o.pile ∉ l))
    watch := { s.watch with
      living := Table.tab fun i => if i ∈ l then { s.watch.living.get i with carried := false }
        else s.watch.living.get i } } := by
  induction l generalizing s with
  | nil =>
    have h : (Table.tab fun i => s.watch.living.get i) = s.watch.living := Table.ext_get (by simp)
    simp [h]
  | cons a l ih =>
    have hq : ((s.dropOrder a).queue.filter fun o => decide (o.pile ∉ l))
        = s.queue.filter (fun o => decide (o.pile ∉ a :: l)) := by
      show ((s.queue.filter fun o => o.pile != a).filter fun o => decide (o.pile ∉ l)) = _
      rw [List.filter_filter]
      refine List.filter_congr fun o _ => ?_
      by_cases h1 : o.pile = a <;> by_cases h2 : o.pile ∈ l <;> simp [h1, h2]
    have hl : (Table.tab fun i => if i ∈ l then { (s.dropOrder a).watch.living.get i with carried := false }
          else (s.dropOrder a).watch.living.get i)
        = Table.tab fun i => if i ∈ a :: l then { s.watch.living.get i with carried := false }
          else s.watch.living.get i := by
      apply Table.ext_get
      intro i
      rcases eq_or_ne i a with rfl | h1
      · by_cases h2 : i ∈ l <;> simp [State.dropOrder, State.setQueue, State.mapLiving, Table.modify, h2]
      · by_cases h2 : i ∈ l <;>
          simp [State.dropOrder, State.setQueue, State.mapLiving, Table.modify, h2, h1, Ne.symm h1]
    rw [List.foldl_cons, ih, hq, hl]
    rfl

/-- The queue emptied (05 R99): no order is left, and no pile that had one is carried. -/
theorem State.emptyQueue_eq : s.emptyQueue = { s with
    queue := []
    watch := { s.watch with
      living := Table.tab fun i => if s.hasOrder i then { s.watch.living.get i with carried := false }
        else s.watch.living.get i } } := by
  have hm : ∀ i, i ∈ s.queue.map (·.pile) ↔ s.hasOrder i = true := by
    intro i
    simp [State.hasOrder, List.any_eq_true]
  have hq : (s.queue.filter fun o => decide (o.pile ∉ s.queue.map (·.pile))) = [] := by
    refine List.filter_eq_nil_iff.2 fun o ho => ?_
    simpa using ⟨o, ho, rfl⟩
  unfold State.emptyQueue State.forEach
  rw [State.dropOrders_eq, hq]
  simp only [hm]

end Sys2Proof.Machine
end

