-- ==== Sys2Proof/Laws/PerInstr.lean ====
section
/-! SUPPORT. The transaction of each command spells that command: one lemma for each constructor of Instr. -/

namespace Sys2Proof

/-! ## Words in bytes (10 R173) -/

theorem join2_split2 (w : Word16) : join2 (w.extractLsb' 8 8) (w.extractLsb' 0 8) = w := by
  unfold join2
  rw [BitVec.extractLsb'_append_extractLsb'_eq_extractLsb' (start₁ := 0) (start₂ := 8) (len₁ := 8) rfl]
  simp

theorem join3_split3 (w : Word24) :
    join3 (w.extractLsb' 16 8) (w.extractLsb' 8 8) (w.extractLsb' 0 8) = w := by
  unfold join3
  rw [BitVec.extractLsb'_append_extractLsb'_eq_extractLsb' (start₁ := 8) (start₂ := 16) (len₁ := 8) rfl,
    BitVec.extractLsb'_append_extractLsb'_eq_extractLsb' (start₁ := 0) (start₂ := 8) (len₁ := 8) rfl]
  simp

@[simp] theorem zeroBytes_length (n : Nat) : (zeroBytes n).length = n := by simp [zeroBytes]

/-- A code of the list whose parameters spell a command is that command's transaction. -/
theorem decodeTransaction_of_params {code : Byte} {rest : List Byte} {i : Instr} (h : code ∈ Code.all)
    (hi : decodeParams code rest = some i) : decodeTransaction (code :: rest) = some i := by
  simp [decodeTransaction, h, hi]

/-- Parameters that stop short spell no command (08 R147). -/
theorem decodeParams_of_short {code : Byte} {params : List Byte} (h : paramsShort code params = true) :
    decodeParams code params = none := by
  unfold paramsShort at h
  split at h
  · next hc =>
    subst hc
    show decodeClock params = none
    unfold decodeClock
    split
    · rfl
    · next sub rest =>
      simp only at h ⊢
      split at h
      · cases h
      · next h2 =>
        split
        · simp at h; omega
        · rfl
      · cases h
      · next h1 h2 h3 => rfl
  · next hc =>
    have hl : params.length < paramBytes code := by simpa using h
    unfold paramBytes at hl
    unfold decodeParams
    split
    all_goals first
      | rfl
      | (next hn => exact absurd (BitVec.eq_of_toNat_eq hn) hc)
      | (next hn => simp only [hn] at hl; split <;> first | rfl | (simp at hl; try omega))
      | (next hn => simp only [hn] at hl; omega)

namespace Laws.RoundTrip

/-- The bytes of a well-formed command's transaction spell that command, as far as bytes can. -/
def Statement (i : Instr) : Prop :=
  i.wellFormed = true → ∀ bytes, encodeTransaction i = some bytes → decodeTransaction bytes = some i.heard

theorem status (clocked : Clocking) : Statement (.status clocked) := by
  intro _ bytes hb
  cases hb
  exact decodeTransaction_of_params (by decide)
    (by simp [Instr.heard, Clocking.heard, decodeParams, Code.status])

theorem look (cls index : Byte) (clocked : Clocking) : Statement (.look cls index clocked) := by
  intro _ bytes hb
  cases hb
  exact decodeTransaction_of_params (by decide)
    (by simp [Instr.heard, Clocking.heard, decodeParams, Code.look])

theorem locate (bed bay : Byte) (clocked : Clocking) : Statement (.locate bed bay clocked) := by
  intro _ bytes hb
  cases hb
  exact decodeTransaction_of_params (by decide)
    (by simp [Instr.heard, Clocking.heard, decodeParams, Code.locate])

theorem notices (clocked : Clocking) : Statement (.notices clocked) := by
  intro _ bytes hb
  cases hb
  exact decodeTransaction_of_params (by decide)
    (by simp [Instr.heard, Clocking.heard, decodeParams, Code.notices])

theorem ident (clocked : Clocking) : Statement (.ident clocked) := by
  intro _ bytes hb
  cases hb
  exact decodeTransaction_of_params (by decide)
    (by simp [Instr.heard, Clocking.heard, decodeParams, Code.ident])

theorem stage (buffer cls index : Byte) : Statement (.stage buffer cls index) := by
  intro _ bytes hb
  cases hb
  exact decodeTransaction_of_params (by decide)
    (by simp [Instr.heard, decodeParams, Code.stage])

theorem fill (buffer : Option Byte) (data : List Byte) : Statement (.fill buffer data) := by
  intro hw bytes hb
  cases hb
  have hd : buffer = none → data = [] := by
    intro hn
    simpa [Instr.wellFormed, hn] using hw
  cases buffer with
  | some b =>
    exact decodeTransaction_of_params (by decide)
      (by simp [Instr.heard, decodeParams, Code.fill])
  | none =>
    rw [hd rfl]
    rfl

theorem matchBuffer (buffer : Byte) : Statement (.matchBuffer buffer) := by
  intro _ bytes hb
  cases hb
  exact decodeTransaction_of_params (by decide)
    (by simp [Instr.heard, decodeParams, Code.matchBuffer])

theorem commit (buffer : Byte) : Statement (.commit buffer) := by
  intro _ bytes hb
  cases hb
  exact decodeTransaction_of_params (by decide)
    (by simp [Instr.heard, decodeParams, Code.commit])

theorem retire (cls index : Byte) : Statement (.retire cls index) := by
  intro _ bytes hb
  cases hb
  exact decodeTransaction_of_params (by decide)
    (by simp [Instr.heard, decodeParams, Code.retire])

theorem clockHold : Statement .clockHold := by
  intro _ bytes hb
  cases hb
  exact decodeTransaction_of_params (by decide)
    (by simp [Instr.heard, decodeParams, decodeClock, Code.clock])

theorem clockSet (day : Word16) (second : Word24) : Statement (.clockSet day second) := by
  intro _ bytes hb
  cases hb
  exact decodeTransaction_of_params (by decide)
    (by simp [Instr.heard, decodeParams, decodeClock, split2, split3, join2_split2, join3_split3, Code.clock])

theorem clockRun : Statement .clockRun := by
  intro _ bytes hb
  cases hb
  exact decodeTransaction_of_params (by decide)
    (by simp [Instr.heard, decodeParams, decodeClock, Code.clock])

theorem forecast (hour : Word24) (issue : Word16) (sector : Byte) (meanSpeed gust : Word16)
    (humidity temperature rainClass : Byte) :
    Statement (.forecast hour issue sector meanSpeed gust humidity temperature rainClass) := by
  intro _ bytes hb
  cases hb
  exact decodeTransaction_of_params (by decide)
    (by simp [Instr.heard, decodeParams, split2, split3, join2_split2, join3_split3, Code.forecast])

theorem observe (speed gust : Word16) (sector humidity : Byte) :
    Statement (.observe speed gust sector humidity) := by
  intro _ bytes hb
  cases hb
  exact decodeTransaction_of_params (by decide)
    (by simp [Instr.heard, decodeParams, split2, join2_split2, Code.observe])

theorem order (pile priority cannon : Byte) : Statement (.order pile priority cannon) := by
  intro _ bytes hb
  cases hb
  exact decodeTransaction_of_params (by decide)
    (by simp [Instr.heard, decodeParams, Code.order])

theorem withdraw (pile : Byte) : Statement (.withdraw pile) := by
  intro _ bytes hb
  cases hb
  exact decodeTransaction_of_params (by decide)
    (by simp [Instr.heard, decodeParams, Code.withdraw])

theorem inflow (source : Byte) (volume : Word16) (kind : Byte) :
    Statement (.inflow source volume kind) := by
  intro _ bytes hb
  cases hb
  exact decodeTransaction_of_params (by decide)
    (by simp [Instr.heard, decodeParams, split2, join2_split2, Code.inflow])

theorem gauge (source : Byte) (level : Word16) (clarity : Byte) :
    Statement (.gauge source level clarity) := by
  intro _ bytes hb
  cases hb
  exact decodeTransaction_of_params (by decide)
    (by simp [Instr.heard, decodeParams, split2, join2_split2, Code.gauge])

theorem isolate (source : Byte) : Statement (.isolate source) := by
  intro _ bytes hb
  cases hb
  exact decodeTransaction_of_params (by decide)
    (by simp [Instr.heard, decodeParams, Code.isolate])

theorem restore (source : Byte) : Statement (.restore source) := by
  intro _ bytes hb
  cases hb
  exact decodeTransaction_of_params (by decide)
    (by simp [Instr.heard, decodeParams, Code.restore])

theorem clear (main : Byte) : Statement (.clear main) := by
  intro _ bytes hb
  cases hb
  exact decodeTransaction_of_params (by decide)
    (by simp [Instr.heard, decodeParams, Code.clear])

theorem hold : Statement .hold := by
  intro _ bytes hb
  cases hb
  exact decodeTransaction_of_params (by decide)
    (by simp [Instr.heard, decodeParams, Code.hold])

theorem drain : Statement .drain := by
  intro _ bytes hb
  cases hb
  exact decodeTransaction_of_params (by decide)
    (by simp [Instr.heard, decodeParams, Code.drain])

theorem resume : Statement .resume := by
  intro _ bytes hb
  cases hb
  exact decodeTransaction_of_params (by decide)
    (by simp [Instr.heard, decodeParams, Code.resume])

theorem acknowledge (mask : Word16) : Statement (.acknowledge mask) := by
  intro _ bytes hb
  cases hb
  exact decodeTransaction_of_params (by decide)
    (by simp [Instr.heard, decodeParams, split2, join2_split2, Code.acknowledge])

theorem fix (exclusion : Byte) : Statement (.fix exclusion) := by
  intro _ bytes hb
  cases hb
  exact decodeTransaction_of_params (by decide)
    (by simp [Instr.heard, decodeParams, Code.fix])

theorem close : Statement .close := by
  intro _ bytes hb
  cases hb
  exact decodeTransaction_of_params (by decide)
    (by simp [Instr.heard, decodeParams, Code.close])

theorem tag (data : List Byte) : Statement (.tag data) := by
  intro _ bytes hb
  cases hb
  exact decodeTransaction_of_params (by decide)
    (by simp [Instr.heard, decodeParams, Code.tag])

theorem reset : Statement .reset := by
  intro _ bytes hb
  cases hb
  exact decodeTransaction_of_params (by decide)
    (by simp [Instr.heard, decodeParams, Code.reset])

theorem unknownCommand (code : Byte) : Statement (.unknownCommand code) := by
  intro h bytes hb
  cases hb
  simp only [Instr.wellFormed, Bool.not_eq_true', decide_eq_false_iff_not] at h
  simp [decodeTransaction, Instr.heard, h]

theorem shortParameterDeselect (code : Byte) (params : List Byte) :
    Statement (.shortParameterDeselect code params) := by
  intro h bytes hb
  cases hb
  simp only [Instr.wellFormed, Bool.and_eq_true, decide_eq_true_eq] at h
  simp [decodeTransaction, Instr.heard, h.1, decodeParams_of_short h.2]

theorem transactionTimeout (received : List Byte) : Statement (.transactionTimeout received) := by
  intro _ bytes hb
  cases hb

theorem fixWriteEnd : Statement .fixWriteEnd := by
  intro _ bytes hb
  cases hb

theorem closeWriteEnd : Statement .closeWriteEnd := by
  intro _ bytes hb
  cases hb

theorem tagWriteEnd : Statement .tagWriteEnd := by
  intro _ bytes hb
  cases hb

theorem powerOn : Statement .powerOn := by
  intro _ bytes hb
  cases hb

theorem resetLine : Statement .resetLine := by
  intro _ bytes hb
  cases hb

theorem initialisationEnd : Statement .initialisationEnd := by
  intro _ bytes hb
  cases hb

theorem yardClockAdvance : Statement .yardClockAdvance := by
  intro _ bytes hb
  cases hb

theorem assessment : Statement .assessment := by
  intro _ bytes hb
  cases hb

theorem hourRollover : Statement .hourRollover := by
  intro _ bytes hb
  cases hb

theorem dayRollover : Statement .dayRollover := by
  intro _ bytes hb
  cases hb

theorem observationLifeExpiry : Statement .observationLifeExpiry := by
  intro _ bytes hb
  cases hb

theorem settleTimerExpiry (basin : Fin 5) : Statement (.settleTimerExpiry basin) := by
  intro _ bytes hb
  cases hb

theorem primeTimerExpiry (context : Fin 8) : Statement (.primeTimerExpiry context) := by
  intro _ bytes hb
  cases hb

theorem bayDwellExpiry (context : Fin 8) : Statement (.bayDwellExpiry context) := by
  intro _ bytes hb
  cases hb

theorem suspensionLimitExpiry (context : Fin 8) : Statement (.suspensionLimitExpiry context) := by
  intro _ bytes hb
  cases hb

theorem drainTimerExpiry (main : Fin 4) : Statement (.drainTimerExpiry main) := by
  intro _ bytes hb
  cases hb

theorem rawLineChange (line : Line) (high : Bool) : Statement (.rawLineChange line high) := by
  intro _ bytes hb
  cases hb

theorem qualifyingTimerExpiry (line : Line) : Statement (.qualifyingTimerExpiry line) := by
  intro _ bytes hb
  cases hb

theorem reTakeTimerExpiry (line : Line) : Statement (.reTakeTimerExpiry line) := by
  intro _ bytes hb
  cases hb

theorem resetLineRelease : Statement .resetLineRelease := by
  intro _ bytes hb
  cases hb

theorem powerLoss : Statement .powerLoss := by
  intro _ bytes hb
  cases hb

end Laws.RoundTrip

end Sys2Proof
end

