-- ==== Sys2Proof/Tests/Slice0.lean ====
section
/-! SUPPORT. The author's tests: the ill-formed commands that the check refuses, transactions written out from
10 (10.2), one or two steps of each command on small states, and for each statement of Obligations a state
and operands that meet its hypotheses. -/

set_option Elab.async false

namespace Sys2Proof.Tests

open Sys2Proof.Machine

/-! ## Small states -/

/-- A part past its initialisation. -/
def ready : State := { State.reset with startup := { State.reset.startup with initialising := none } }

/-- A pile of four bays, covered by one cannon. -/
def pile0 : Pile := { bed := 0, start := 0, length := 4, grade := 0, revision := 0 }

def cannon0 : Cannon :=
  { main := 0, bed := 0, reachStart := 0, reachLength := 160, flow := 12, dwell := 15, skip := 0,
    repeats := 1, reverse := false, alternate := false, driftLimit := 100, gain := 20, enabled := true,
    revision := 0 }

/-- A basin in service. -/
def basin0 : Basin :=
  { Basin.reset with level := 3000, low := false, isolated := false, clarity := 1 }

/-- A HELD yard with that pile, cannon and basin. -/
def yard : State :=
  { ready with
    geometry :=
      { ready.geometry with
        piles := ready.geometry.piles.put 0 (some pile0)
        cannons := ready.geometry.cannons.put 0 (some cannon0)
        index := ready.geometry.index.put 0 [0] }
    watch := { ready.watch with
      living := ready.watch.living.put 0 { Living.blank with moisture := 50 } }
    water := { ready.water with basins := ready.water.basins.put 0 basin0 } }

/-- The same yard ACTIVE. -/
def active : State := yard.setMode .active

/-- A pass of cannon 0 on pile 0 that primes main 0 from basin 0. -/
def pass0 : Pass :=
  { newPass yard.geometry 0 pile0 0 cannon0 0 0 1 with primeTimer := some 60 }

/-- The active yard with a pass in context 0 and its main in a given state. -/
def serving (p : Pass) (m : MainState) (opened : Option (Fin 6)) (context : Option (Fin 8)) : State :=
  { active with
    engine := { active.engine with
      contexts := active.engine.contexts.put 0 (some p)
      mains := active.engine.mains.put 0
        { Main.reset with state := m, openSource := opened, context := context } }
    watch := { active.watch with
      living := active.watch.living.put 0 { Living.blank with moisture := 50, engaged := true } }
    water := { active.water with basins := active.water.basins.put 0 { basin0 with reserved := 12 } }
    field := { active.field with
      pins := { active.field.pins with
        pumps := active.field.pins.pumps.put 0 (decide (m ≠ .opened))
        valves := active.field.pins.valves.put 0 (decide (m = .running))
        selects := active.field.pins.selects.put 0 0 } } }

def priming : State := serving pass0 .priming (some 0) (some 0)

def running : State :=
  serving { pass0 with state := .running, primeTimer := none, dwellTimer := some 15 } .running (some 0)
    (some 0)

def suspended : State :=
  serving { pass0 with
    state := .suspended, machine := true, primeTimer := none, limitTimer := some 2700,
    since := some ⟨0, 0⟩ } .opened (some 0) none

/-- The pass in context 0 changed. -/
def withPass (s : State) (f : Pass → Pass) : State :=
  s.setContext 0 ((s.engine.contexts.get 0).map f)

/-- The pass of the suspended yard with no reason left to wait. -/
def resumable : State := withPass suspended fun p => { p with machine := false }

/-- A part with a fixed exclusion at position 0. -/
def fixed0 : State :=
  ready.setExclusion 0 (some { bed := 0, start := 0, length := 1, fixed := true, revision := 0 })

/-- An order for pile 0 with a NORMAL operator part. -/
def order0 : Order :=
  { pile := 0, watch := none, operator := some .normal, named := none, entered := ⟨0, 0⟩,
    waiting := .none }

/-- What a field of the state is after a command. -/
def after {α : Type} (i : Instr) (s : State) (f : State → α) : Option α :=
  match exec i s with
  | .next t => some (f t)
  | .fault _ => none
  | .refused _ => none

/-- The last result triple. -/
def triple (s : State) : Byte × Result × Byte := (s.port.command, s.port.result, s.port.index)

/-! ## Well-formed commands -/

theorem test_unknownCommand_of_known_code_is_ill_formed :
    Instr.wellFormed (.unknownCommand 0x01) = false := by decide
theorem test_unknownCommand_of_unknown_code_is_well_formed :
    Instr.wellFormed (.unknownCommand 0x06) = true := by decide
theorem test_short_of_unknown_code_is_ill_formed :
    Instr.wellFormed (.shortParameterDeselect 0x00 []) = false := by decide
theorem test_short_of_whole_parameters_is_ill_formed :
    Instr.wellFormed (.shortParameterDeselect 0x30 [0, 0, 0xFF]) = false := by decide
theorem test_short_of_clock_run_is_ill_formed :
    Instr.wellFormed (.shortParameterDeselect 0x20 [3]) = false := by decide
theorem test_short_of_two_order_bytes_is_well_formed :
    Instr.wellFormed (.shortParameterDeselect 0x30 [0, 0]) = true := by decide
theorem test_fill_of_no_buffer_with_data_is_ill_formed :
    Instr.wellFormed (.fill none [2, 7]) = false := by decide

/-! ## Transactions written out (10, section 10.2) -/

theorem test_transaction_status : decodeTransaction [0x01, 0, 0, 0, 0] = some (.status ⟨0, [4]⟩) := by decide
theorem test_transaction_look : decodeTransaction [0x02, 0x0B, 0x00] = some (.look 11 0 ⟨0, [0]⟩) := by decide
theorem test_transaction_fill :
    decodeTransaction [0x11, 0x01, 0x01, 0xA0] = some (.fill (some 1) [1, 160]) := by decide
theorem test_transaction_fill_of_no_buffer : decodeTransaction [0x11] = some (.fill none []) := by decide
theorem test_transaction_clockSet :
    decodeTransaction [0x20, 0x02, 0x01, 0x02, 0x01, 0x51, 0x7F] = some (.clockSet 258 86399) := by
  decide
theorem test_transaction_clockRun : decodeTransaction [0x20, 0x03] = some .clockRun := by decide
theorem test_transaction_clock_of_no_operation :
    decodeTransaction [0x20, 0x04] = some (.shortParameterDeselect 0x20 [4]) := by decide
theorem test_transaction_forecast :
    decodeTransaction [0x21, 0, 0, 5, 0, 7, 3, 0, 80, 0, 120, 55, 0xF6, 2]
      = some (.forecast 5 7 3 80 120 55 0xF6 2) := by decide
theorem test_transaction_inflow :
    decodeTransaction [0x40, 0x04, 0xEA, 0x60, 0x01] = some (.inflow 4 60000 1) := by decide
theorem test_transaction_acknowledge :
    decodeTransaction [0x60, 0x01, 0xFF] = some (.acknowledge 511) := by decide
theorem test_transaction_unknown : decodeTransaction [0x06] = some (.unknownCommand 6) := by decide
theorem test_transaction_short :
    decodeTransaction [0x30, 0x00, 0x00] = some (.shortParameterDeselect 0x30 [0, 0]) := by decide
theorem test_table_word_spells_nothing : decodeTableWord 8 1 = none := rfl

/-! ## One step of each command -/

theorem test_status_at_reset :
    after (.status ⟨0, [5]⟩) State.reset (·.port.dataOut) = some [0xA0, 0, 0, 0, 0xA0] := by decide +kernel
/-- A STATUS in its second repeat when a write of CLOSE ends: 3 bytes of that repeat go out as sampled, and the
third repeat shows the write's end. -/
theorem test_status_samples_each_repeat :
    after (.status ⟨0, [5, 5]⟩) (ready.beginWrite .close) (fun t =>
        (t.port.dataOut, after .closeWriteEnd t (·.port.dataOut)))
      = some ([0xA0, 0, 0, 0, 0xA0],
          some [0xA0, 0, 0, 0, 0xA0, 0, 0, 0, 0x20, 0x71]) := by decide +kernel
theorem test_look_absent_pile :
    after (.look 2 47 ⟨0, [2]⟩) ready (fun t => (triple t, t.port.dataOut))
      = some ((0x02, .absent, 47), [0xEE, 0xEE]) := by decide +kernel
theorem test_look_grade :
    after (.look 3 7 ⟨0, [7]⟩) ready (·.port.dataOut) = some [40, 60, 80, 3, 4, 0, 0] := by decide +kernel
theorem test_locate_pile :
    after (.locate 0 3 ⟨0, [4]⟩) yard (·.port.dataOut) = some [0, 0, 1, 0] := by decide +kernel
theorem test_locate_no_pile :
    after (.locate 0 4 ⟨0, [4]⟩) yard (·.port.dataOut) = some [0xFF, 0, 1, 0] := by decide +kernel
theorem test_notices_at_reset :
    after (.notices ⟨0, [0]⟩) ready (·.port.latch) = some (List.replicate 13 0) := by decide +kernel
theorem test_ident_part_number :
    after (.ident ⟨0, [2]⟩) ready (·.port.dataOut) = some [0x59, 0x18] := by decide +kernel
theorem test_stage_new_pile :
    after (.stage 0 2 5) ready (fun t => (triple t, (t.staging.get 0).map (·.base)))
      = some ((0x10, .done, 5), some none) := by decide +kernel

/-- A part with pile 5 staged as a new record. -/
def staged : State := ready.setBuffer 0 (some (ready.stagedOf .pile 5))

theorem test_fill_two_fields :
    after (.fill (some 0) [2, 7, 3, 9]) staged (fun t => (triple t, (t.staging.get 0).map fun b =>
      (b.values.take 4, b.written.take 4)))
      = some ((0x11, .done, 0), some ([0, 7, 9, 0], [false, true, true, false])) := by decide +kernel
theorem test_fill_readonly :
    after (.fill (some 0) [2, 7, 6, 1]) staged (fun t => (triple t, (t.staging.get 0).map (·.values.take 2)))
      = some ((0x11, .readonly, 6), some [0, 0]) := by decide +kernel
theorem test_fill_of_no_buffer_while_busy :
    after (.fill none []) State.reset triple = some (0x11, .busy, 0)
      ∧ after (.fill none []) staged triple = some (0x11, .range, 0) := by decide +kernel
theorem test_match_of_a_new_record_is_absent :
    after (.matchBuffer 0) staged triple = some (0x12, .absent, 5) := by decide +kernel
theorem test_match_of_an_untouched_copy_is_same :
    after (.matchBuffer 1) (ready.setBuffer 1 (some (ready.stagedOf .bed 3))) triple
      = some (0x12, .same, 3) := by decide +kernel
theorem test_commit_uncovered :
    after (.commit 0) staged triple = some (0x13, .uncovered, 5) := by decide +kernel
theorem test_commit_pile :
    after (.commit 0) (active.setBuffer 0 (some
        { (ready.stagedOf .pile 5) with values := (ready.stagedOf .pile 5).values.set 1 10 }))
      (fun t => (triple t, t.geometry.index.get 0, (t.geometry.piles.get 5).map (·.start)))
      = some ((0x13, .done, 5), [0, 5], some 10) := by decide +kernel
theorem test_retire_pile_ends_its_pass :
    after (.retire 2 0) running (fun t => (triple t, (t.geometry.piles.get 0).isSome,
      t.control.lastEnded, (t.engine.contexts.get 0).isSome))
      = some ((0x14, .done, 0), false, some (0, .cutShort .retired), false) := by decide +kernel
theorem test_clockHold_unset : after .clockHold ready triple = some (0x20, .state, 0) := by
  decide +kernel
theorem test_clockSet_last_second :
    after (.clockSet 1 86399) ready (fun t => (triple t, t.clock.state, t.clock.hour))
      = some ((0x20, .done, 0), .held, 47) := by decide +kernel

/-- A clock that runs one second before midnight and owes an advance, with the day before held in the store of its
fields. -/
def beforeMidnight : State :=
  { ready with
    clock := { ready.clock with state := .running, day := 65535, second := 86399, advanceDue := true }
    water := { ready.water with fresh := { ready.water.fresh with allowance := 500, isolated := false } } }

theorem test_clockRun_takes_the_quota :
    after .clockRun { beforeMidnight with clock := { beforeMidnight.clock with state := .held } }
      (fun t => (triple t, t.clock.state, t.water.fresh.today))
      = some ((0x20, .done, 0), .running, 500) := by decide +kernel
theorem test_forecast_of_the_current_hour :
    after (.forecast 1572863 1 3 80 120 50 20 0) beforeMidnight
      (fun t => (triple t, (t.horizon.slots.get 23).map (·.hour), t.engine.gust))
      = some ((0x21, .done, 23), some 1572863, some 120) := by decide +kernel
theorem test_observe_starts_the_life :
    after (.observe 40 60 3 50) ready (fun t => (triple t, t.horizon.life, t.engine.gust))
      = some ((0x22, .done, 0), some 1200, some 60) := by decide +kernel
theorem test_order_joins :
    after (.order 0 1 0xFF) yard (fun t => (triple t, t.queue.map fun o => (o.pile, o.operator)))
      = some ((0x30, .done, 0), [(0, some .high)]) := by decide +kernel
theorem test_order_starts_a_pass :
    after (.order 0 0 0xFF) active
      (fun t => (t.queue, (t.engine.mains.get 0).state, t.field.pins.pumps.get 0, t.field.log))
      = some ([], .priming, true, [.select 0 0, .pump 0 true]) := by decide +kernel
theorem test_withdraw_removes_the_order :
    after (.withdraw 0) (yard.setQueue [order0]) (fun t => (triple t, t.queue))
      = some ((0x31, .done, 0), []) := by decide +kernel
theorem test_inflow_overflows :
    after (.inflow 0 60000 1) yard (fun t => (triple t, (t.water.basins.get 0).level,
      (t.water.basins.get 0).spilled, (t.water.basins.get 0).clarity, (t.water.basins.get 0).settle))
      = some ((0x40, .done, 0), 60000, 3000, 2, some 1800) := by decide +kernel
theorem test_gauge_cuts_a_pass :
    after (.gauge 0 5 3) running (fun t => (triple t, t.control.lastEnded, (t.water.basins.get 0).low,
      (t.water.basins.get 0).reserved))
      = some ((0x41, .done, 0), some (0, .cutShort .water), true, 0) := by decide +kernel
theorem test_isolate_cuts_a_pass :
    after (.isolate 0) running (fun t => (triple t, t.control.lastEnded, (t.engine.mains.get 0).state))
      = some ((0x42, .done, 0), some (0, .cutShort .water), .closed) := by decide +kernel
theorem test_restore_leaves_a_low_basin_low :
    after (.restore 4) ready (fun t => (triple t, (t.water.basins.get 4).state))
      = some ((0x43, .done, 4), .low) := by decide +kernel
theorem test_clear_of_a_closed_main : after (.clear 3) ready triple = some (0x50, .state, 3) := by
  decide +kernel
theorem test_hold_ends_the_pass :
    after .hold running (fun t => (t.control.mode, t.control.lastEnded, t.field.log))
      = some (.held, some (0, .cutShort .hold), [.valve 0 false, .pump 0 false, .select 0 7]) := by
  decide +kernel
theorem test_drain_starts_the_timers :
    after .drain active (fun t => (triple t, t.control.mode, t.control.drainTimers.get 3))
      = some ((0x52, .done, 0), .draining, some 600) := by decide +kernel
theorem test_resume_from_held :
    after .resume yard (fun t => (triple t, t.control.mode)) = some ((0x53, .done, 0), .active) := by
  decide +kernel
theorem test_acknowledge_beyond_the_kinds :
    after (.acknowledge 512) ready triple = some (0x60, .range, 0) := by decide +kernel
theorem test_fix_absent : after (.fix 15) ready triple = some (0x70, .noSuch, 15) := by decide +kernel
theorem test_close_makes_the_port_busy :
    after .close ready (fun t => (t.busy, t.store.closed)) = some (true, false) := by decide +kernel
theorem test_tag_pads_with_zeros :
    after (.tag [1]) ready (·.store.write)
      = some (some (.tag [1, 0, 0, 0, 0, 0, 0, 0, 0, 0, 0, 0, 0, 0, 0, 0])) := by decide +kernel
theorem test_reset_keeps_the_clock :
    after .reset beforeMidnight (fun t => (t.clock.state, t.clock.second, t.busy))
      = some (.running, 86399, true) := by decide +kernel
theorem test_unknown_command : after (.unknownCommand 6) ready triple = some (0, .unknown, 0) := by
  decide +kernel
theorem test_short_parameters :
    after (.shortParameterDeselect 0x30 [0]) ready triple = some (0x30, .range, 0) := by decide +kernel
/-- The state with SEL as it is for 1.5 s. -/
def afterSelectUnits (s : State) : State := { s with port := Nat.repeat Port.tick 30 s.port }

theorem test_timeout_of_a_read_keeps_its_copy :
    after (.transactionTimeout [0x02, 0x03, 0x00]) (afterSelectUnits ready) (fun t => (triple t, t.port.latch.length))
      = some ((0x02, .timeout, 0), 7) := by decide +kernel

/-- A LOOK of GRADE 0 that has sent two bytes, and a CLOCK that has raised an assessment. -/
def lookGoesOn : Option State :=
  after (.look 3 0 ⟨0, [2, 3, 1]⟩)
    { ready with clock := { ready.clock with assessmentRaised := some ⟨0, 0⟩ } } id

theorem test_look_goes_on_over_events :
    (lookGoesOn.map fun t => (triple t, t.port.dataOut)) = some ((0, .done, 0), [40, 60])
      ∧ (lookGoesOn.bind fun t => after .assessment t fun u => (triple u, u.port.dataOut))
        = some ((0, .done, 0), [40, 60, 80, 3, 4])
      ∧ (lookGoesOn.bind fun t => (after .assessment t id).bind fun u =>
          after .assessment u fun v => (triple v, v.port.dataOut))
        = some ((0x02, .done, 0), [40, 60, 80, 3, 4, 0]) := by decide +kernel
/-- A record that changes between the copy and the timeout is not in the latch, and what was sent stays sent. -/
theorem test_timeout_keeps_the_copy_of_the_read :
    (lookGoesOn.bind fun t =>
        after (.transactionTimeout [0x02])
          { afterSelectUnits t with watch := { t.watch with grades := t.watch.grades.modify 0 fun g => { g with may := 1 } } }
          fun u => (triple u, u.port.latch, u.port.dataOut))
      = some ((0x02, .timeout, 0), [40, 60, 80, 3, 4, 0, 0], [40, 60]) := by decide +kernel
/-- A timeout before the 1.5 s are out does nothing to a read that goes on. -/
theorem test_timeout_waits_for_the_count :
    (lookGoesOn.bind fun t => after (.transactionTimeout [0x02])
        { t with port := Nat.repeat Port.tick 29 t.port } fun u => (triple u, u.port.transaction))
      = some ((0, .done, 0), .reading 0x02 (some (.done, 0)) true [1]) := by decide +kernel

/-- A STATUS with one unit left of its 1.5 s: the unit passes, and then its timeout is due. -/
theorem test_timeout_falls_due :
    let s := { running with
      port := { running.port with transaction := .streaming [] [0, 0], selectLeft := 1 } }
    s.due = none ∧ s.pending = [] ∧ s.unit.conclude.due = some (.transactionTimeout [0x01])
      ∧ s.unit.conclude.port.transaction = .streaming [] [0] := by decide +kernel
/-- A read whose select fell a second before it acts has ten units of its 1.5 s left, and no less than what is left
since SEL was last high. -/
theorem test_select_counts_from_its_fall :
    after (.status ⟨20, [1, 0]⟩) (afterSelectUnits ready) (·.port.selectLeft) = some 10
      ∧ after (.look 3 0 ⟨20, [1, 0]⟩) (afterSelectUnits ready) (·.port.selectLeft) = some 10
      ∧ after (.status ⟨20, [1, 0]⟩) ready (·.port.selectLeft) = some 30 := by decide +kernel
/-- A read that would act more than 1.5 s after the fall of SEL has been abandoned, at a BUSY port too: it sends and
latches nothing. One that acts at 1.5 s is in time, and so is any where SEL was high since. -/
theorem test_select_outlasts_its_time :
    after (.look 3 0 ⟨31, [7]⟩) (afterSelectUnits ready) (fun t => (triple t, t.port.latch, t.port.dataOut))
        = some ((0x02, .timeout, 0), [0xEE], [])
      ∧ after (.status ⟨31, [4]⟩) (afterSelectUnits State.reset) (fun t => (triple t, t.port.dataOut))
        = some ((0x01, .timeout, 0), [])
      ∧ after (.ident ⟨31, [1, 0]⟩) (afterSelectUnits State.reset) (fun t => (triple t, t.port.transaction))
        = some ((0, .timeout, 0), .abandoned)
      ∧ after (.notices ⟨31, [13]⟩) (afterSelectUnits ready) (fun t => (triple t, t.port.latch))
        = some ((0, .timeout, 0), [0xEE]) := by decide +kernel
theorem test_select_is_in_time :
    after (.look 3 0 ⟨30, [1]⟩) (afterSelectUnits ready) triple = some (0x02, .done, 0)
      ∧ after (.look 3 0 ⟨31, [1]⟩) ready triple = some (0x02, .done, 0) := by decide +kernel
/-- No select has lasted 1.5 s just after a deselect: a timeout does nothing. -/
theorem test_timeout_waits_for_a_select :
    after (.transactionTimeout [0x30, 0]) ready (fun t => (triple t, t.port)) = some ((0, .done, 0), ready.port)
      ∧ after (.transactionTimeout [0x30, 0]) (afterSelectUnits ready) triple
        = some ((0x30, .timeout, 0)) := by decide +kernel
theorem test_fix_write_end_of_no_write :
    after .fixWriteEnd ready triple = some (0, .done, 0) := by decide +kernel
theorem test_close_write_end :
    after .closeWriteEnd (ready.beginWrite .close) (fun t => (triple t, t.store.closed, t.busy))
      = some ((0x71, .done, 0), true, false) := by decide +kernel
theorem test_tag_write_end :
    after .tagWriteEnd (ready.beginWrite (.tag [7])) (fun t => (triple t, t.store.tag))
      = some ((0x72, .done, 0), some [7]) := by decide +kernel
theorem test_power_on : after .powerOn yard (fun t => (t.busy, (t.geometry.piles.get 0).isSome))
    = some (true, false) := by decide +kernel
theorem test_power_loss : after .powerLoss running (fun t => (t.live, t.field.pins.valves.get 0))
    = some (false, false) := by decide +kernel
theorem test_reset_line : after .resetLine beforeMidnight (fun t => (t.live, t.clock.state))
    = some (false, .unset) := by decide +kernel
theorem test_reset_line_release :
    after .resetLineRelease { ready with startup := { ready.startup with resetLow := true } }
      (·.startup.initialising) = some (some 1) := by decide +kernel
theorem test_initialisation_end_is_blind :
    after .initialisationEnd { State.reset with startup := { State.reset.startup with initialising := some 0 } }
      (fun t => (t.busy, t.notices.pending.get 6))
      = some (false, true) := by decide +kernel
theorem test_advance_past_the_last_day :
    after .yardClockAdvance beforeMidnight (fun t => (t.clock.now, t.clock.assessmentRaised,
      t.clock.hourRaised, t.clock.dayRaised))
      = some (⟨0, 0⟩, some ⟨0, 0⟩, true, true) := by decide +kernel
theorem test_assessment_dries :
    after .assessment { yard with clock := { yard.clock with assessmentRaised := some ⟨0, 900⟩ } }
      (fun t => ((t.watch.living.get 0).moisture, (t.watch.living.get 0).urgency,
        (t.watch.living.get 0).carried)) = some (40, .must, true) := by decide +kernel
theorem test_hour_rollover_retires_a_slot :
    after .hourRollover
      { ready with
        clock := { ready.clock with state := .running, second := 3600, hourRaised := true }
        horizon := { ready.horizon with slots := ready.horizon.slots.put 0 (some
          { hour := 0, issue := 0, sector := 0, meanSpeed := 0, gust := 0, humidity := 0,
            temperature := 0, rainClass := 0 }) } }
      (fun t => ((t.horizon.slots.get 0).isSome, t.clock.hourRaised)) = some (false, false) := by
  decide +kernel
theorem test_day_rollover_takes_the_quota :
    after .dayRollover
      { beforeMidnight with clock := { beforeMidnight.clock with dayRaised := true } }
      (·.water.fresh.today) = some 500 := by decide +kernel
theorem test_observation_life_expiry_is_blind :
    after .observationLifeExpiry
      { ready with horizon := { ready.horizon with
          observation := some { speed := 0, gust := 0, sector := 0, humidity := 0, stamp := ⟨0, 0⟩,
                                fresh := true }
          life := some 0 } }
      (fun t => (t.horizon.observation.map (·.fresh), t.engine.gust))
      = some (some false, none) := by decide +kernel
theorem test_settle_timer_expiry :
    after (.settleTimerExpiry 0) (yard.mapBasin 0 fun b => { b with settle := some 0, baseClarity := 0 })
      (fun t => ((t.water.basins.get 0).clarity, (t.water.basins.get 0).state)) = some (0, .ready) := by
  decide +kernel
theorem test_prime_timer_expiry_faults :
    after (.primeTimerExpiry 0) (withPass priming fun p => { p with primeTimer := some 0 })
      (fun t => ((t.engine.mains.get 0).state,
      (t.engine.mains.get 0).fault, t.control.lastEnded))
      = some (.faulted, some .noFlow, some (0, .noFlow .noFlow)) := by decide +kernel
theorem test_prime_timer_that_runs_has_no_expiry :
    after (.primeTimerExpiry 0) priming (fun t => (t.engine.contexts, t.engine.mains))
      = some (priming.engine.contexts, priming.engine.mains) := by decide +kernel
theorem test_bay_dwell_expiry_moves_on :
    after (.bayDwellExpiry 0) (withPass running fun p => { p with dwellTimer := some 0 })
      (fun t => (t.engine.contexts.get 0).map fun p =>
      (p.baysDone, p.rest, p.dwellTimer)) = some (some (1, [1, 2, 3], some 15)) := by decide +kernel
theorem test_suspension_limit_expiry :
    after (.suspensionLimitExpiry 0) (withPass suspended fun p => { p with limitTimer := some 0 })
      (·.control.lastEnded)
      = some (some (0, .cutShort .suspendLimit)) := by decide +kernel
theorem test_drain_timer_expiry_of_the_last_main :
    after (.drainTimerExpiry 0)
      { ready with
        control := { ready.control with
          mode := .draining, drainTimers := ready.control.drainTimers.put 0 (some 0) }
        engine := { ready.engine with
          mains := (Table.fill 4 { Main.reset with state := .drained }).put 0
            { Main.reset with state := .draining } } }
      (fun t => (t.control.mode, t.notices.pending.get 8)) = some (.drained, true) := by decide +kernel
theorem test_raw_change_under_a_re_take :
    after (.rawLineChange .rain true) ready (fun t => (t.field.lines.rain.raw,
      t.field.lines.rain.qualify, t.field.lines.rain.filtered)) = some (true, none, false) := by
  decide +kernel
theorem test_qualifying_timer_runs_the_main :
    after (.qualifyingTimerExpiry (.flow 0))
      (priming.mapLine (.flow 0) fun l => { l with raw := true, qualify := some 0 })
      (fun t => ((t.engine.mains.get 0).state, t.field.log))
      = some (.running, [.valve 0 true]) := by decide +kernel
theorem test_re_take_suspends :
    after (.reTakeTimerExpiry (.machine 0))
      (running.mapLine (.machine 0) fun l => { l with raw := true, retake := some 0 })
      (fun t => ((t.engine.contexts.get 0).map fun p => (p.state, p.machine), t.field.log))
      = some (some (.suspended, true), [.valve 0 false, .pump 0 false]) := by decide +kernel

theorem test_raw_change_after_a_whole_filter_time :
    after (.rawLineChange (.machine 0) false)
      (running.mapLine (.machine 0) fun l => { l with raw := true, retake := none, qualify := some 0 })
      (fun t => ((t.engine.contexts.get 0).map fun p => (p.state, p.machine), t.machinePresent 0,
        (t.field.lines.machine.get 0).qualify))
      = some (some (.suspended, true), true, some 20) := by decide +kernel
theorem test_resume_primes_the_kept_pass :
    (resumable.attempt none 0).engine.contexts.get 0
      = (resumable.engine.contexts.get 0).map fun p => { p with
          state := .priming, since := none, limitTimer := none, prime := .warm, primeTimer := some 15 } := by
  decide +kernel
theorem test_stray_flow_is_seen_at_the_pins :
    after (.order 0 0 0xFF) (active.mapLine (.flow 0) fun l => { l with filtered := true })
      (fun t => (t.control.lastEnded, (t.engine.mains.get 0).fault, t.field.log))
      = some (some (0, .noFlow .stray), some .stray, [.select 0 0, .select 0 7]) := by decide +kernel

/-! ## States and operands that meet the hypotheses of the statements -/

/-- A part without its supply. -/
def dead : State := { ready with startup := { ready.startup with powered := false } }

theorem ready_accepts : ready.Accepts := ⟨rfl, rfl⟩
theorem yard_accepts : yard.Accepts := ⟨rfl, rfl⟩
theorem active_accepts : active.Accepts := ⟨rfl, rfl⟩
theorem running_accepts : running.Accepts := ⟨rfl, rfl⟩

theorem ready_noneAsked : ready.NoneAsked := by unfold State.NoneAsked; decide
theorem yard_noneAsked : yard.NoneAsked := by unfold State.NoneAsked; decide
theorem running_noneAsked : running.NoneAsked := by unfold State.NoneAsked; decide

/-- There is a walk of the contexts that leaves a FREE one and does `act` at a live pass. -/
theorem walk_exists (act : State → Fin 8 → Pass → State) :
    ∃ next : State → Fin 8 → State,
      (∀ v c, v.engine.contexts.get c = none → next v c = v)
      ∧ ∀ v c p, v.engine.contexts.get c = some p → next v c = act v c p :=
  ⟨fun v c => match v.engine.contexts.get c with
    | none => v
    | some p => act v c p, by intro v c h; simp [h], by intro v c p h; simp [h]⟩

/-! ### Steps and the record port -/

theorem test_hypotheses_of_EmptyQueueLetsTimePass_dead : dead.pending = [] ∧ dead.live = false := by decide +kernel
theorem test_hypotheses_of_EmptyQueueLetsTimePass_due :
    let s := { State.reset with startup := { State.reset.startup with initialising := some 0 } }
    s.pending = [] ∧ s.live = true ∧ s.due = some .initialisationEnd := by decide +kernel
theorem test_hypotheses_of_EmptyQueueLetsTimePass_second :
    let s := { running with startup := { running.startup with phase := 19 } }
    s.pending = [] ∧ s.live = true ∧ s.due = none ∧ s.startup.phase = 19 := by decide +kernel
theorem test_hypotheses_of_EmptyQueueLetsTimePass_fraction :
    let s := { running with clock := { running.clock with state := .running, fraction := 19 } }
    s.pending = [] ∧ s.live = true ∧ s.due = none ∧ s.clock.state = .running ∧ 19 ≤ s.clock.fraction := by
  decide +kernel
theorem test_hypotheses_of_EmptyQueueLetsTimePass_counting :
    let s := { running with clock := { running.clock with state := .running, fraction := 18 } }
    s.pending = [] ∧ s.live = true ∧ s.due = none ∧ s.clock.state = .running ∧ s.clock.fraction < 19 := by
  decide +kernel
theorem test_hypotheses_of_EmptyQueueLetsTimePass_held :
    let s := { running with clock := { running.clock with state := .held } }
    s.pending = [] ∧ s.live = true ∧ s.due = none ∧ s.clock.state ≠ .running := by decide +kernel
theorem test_hypotheses_of_EmptyQueueLetsTimePass_open :
    (after (.status ⟨0, [1, 0]⟩) running fun t =>
        (t.port.readCode, t.port.selectLeft, t.due, (afterSelectUnits t).port.selectLeft, (afterSelectUnits t).due))
      = some (some 0x01, 30, none, 0, some (.transactionTimeout [0x01]))
      ∧ (lookGoesOn.map fun t => (t.port.readCode, (afterSelectUnits t).port.selectLeft, (afterSelectUnits t).due))
        = some (some 0x02, 0, some .assessment)
      ∧ running.port.transaction = .idle
      ∧ (after (.transactionTimeout []) (afterSelectUnits ready) fun t => t.port.transaction)
        = some .abandoned := by
  decide +kernel
theorem test_hypotheses_of_EmptyQueueLetsTimePass_events :
    (withPass priming fun p => { p with primeTimer := some 0 }).due = some (.primeTimerExpiry 0)
      ∧ (withPass running fun p => { p with dwellTimer := some 0 }).due = some (.bayDwellExpiry 0)
      ∧ (running.mapLine .rain fun l => { l with qualify := some 0 }).due = some (.qualifyingTimerExpiry .rain)
      ∧ (yard.mapBasin 3 fun b => { b with settle := some 0 }).due = some (.settleTimerExpiry 3)
      ∧ beforeMidnight.due = some .yardClockAdvance
      ∧ (ready.beginWrite (.tag [7])).due = some .tagWriteEnd := by decide +kernel
theorem test_hypotheses_of_EmptyQueueLetsTimePass_between_seconds :
    running.pending = [] ∧ running.live = true ∧ running.due = none ∧ running.startup.phase % 20 ≠ 19 := by
  decide +kernel
theorem test_hypotheses_of_EndOfACommand : ready.NoneAsked ∧ ready.control.mode ≠ .active :=
  ⟨ready_noneAsked, by decide⟩
theorem test_hypotheses_of_EndOfACommand_asked :
    (active.ask 3).engine.nextAsked = some 3 ∧ (active.ask 3).control.mode = .active := by decide +kernel
theorem test_hypotheses_of_BusyOrDeadPart :
    State.reset.live = true ∧ State.reset.busy = true ∧ dead.live = false := by decide +kernel
theorem test_hypotheses_of_BusyOrDeadPart_select :
    State.reset.SelectInTime 30 ∧ State.reset.SelectInTime 31 ∧ (afterSelectUnits ready).SelectInTime 30
      ∧ ¬ (afterSelectUnits ready).SelectInTime 31 ∧ ready.SelectInTime 31 := by
  unfold State.SelectInTime
  decide
theorem test_hypotheses_of_RepliesOfTheReadCommands : State.reset.live = true ∧ ready.Accepts :=
  ⟨by decide, ready_accepts⟩
theorem test_hypotheses_of_RepliesOfTheReadCommands_streaming :
    (after (.status ⟨0, [5, 0]⟩) ready fun t => t.port.transaction) = some (.streaming [0, 0, 0] [0])
      ∧ (after (.status ⟨0, [4, 9]⟩) ready fun t => t.port.transaction) = some (.streaming [] [9]) := by
  decide +kernel
theorem test_hypotheses_of_RepliesOfTheReadCommands_reading :
    (lookGoesOn.map fun t => t.port.transaction) = some (.reading 0x02 (some (.done, 0)) true [3, 1])
      ∧ (after (.notices ⟨0, [1, 0]⟩) State.reset fun t => t.port.transaction)
        = some (.reading 0x04 none false [0]) := by decide +kernel
theorem test_hypotheses_of_LookCopiesARecord_layouts :
    running.geometry.piles.get 0 = some pile0 ∧ running.geometry.cannons.get 0 = some cannon0
      ∧ (fixed0.geometry.exclusions.get 0).isSome = true ∧ (running.engine.contexts.get 0).isSome = true
      ∧ running.engine.contexts.get 7 = none ∧ (running.watch.living.get 0).wetting = none
      ∧ ((running.endPass none 0 .full true).watch.living.get 0).wetting.isSome = true
      ∧ (after (.observe 0 0 0 0) ready fun t => t.horizon.observation.isSome) = some true := by
  decide +kernel
theorem test_hypotheses_of_LookCopiesARecord :
    ready.Accepts ∧ classOf 2 = some .pile ∧ (47 : Byte).toNat < RecordClass.pile.size
      ∧ classOf 14 = none ∧ classOf 0 = none ∧ RecordClass.pile.size ≤ (48 : Byte).toNat :=
  ⟨ready_accepts, by decide⟩
theorem test_hypotheses_of_LookReadsTheQueue :
    let s := ready.setQueue [order0]
    s.Accepts ∧ s.NoneAsked ∧ s.queue[(0 : Byte).toNat]? = some order0
      ∧ s.queue.length ≤ (15 : Byte).toNat ∧ (15 : Byte).toNat < 16 :=
  ⟨⟨rfl, rfl⟩, ready_noneAsked, by decide +kernel⟩

/-- The piles of the small yard. -/
theorem yard_piles (i : Fin 48) : yard.geometry.piles.get i = if i = 0 then some pile0 else none := by
  revert i
  decide +kernel

theorem yard_pile {i : Fin 48} {p : Pile} (h : yard.geometry.piles.get i = some p) :
    i = 0 ∧ p = pile0 := by
  rw [yard_piles] at h
  split at h
  · next hi => exact ⟨hi, (Option.some.inj h).symm⟩
  · cases h

theorem yard_disjoint : yard.geometry.Disjoint := by
  intro i j p q h hi hj _
  exact absurd ((yard_pile hi).1.trans (yard_pile hj).1.symm) h

theorem yard_indexed : yard.geometry.Indexed := by
  refine ⟨fun b i => ?_, fun b => ?_⟩
  · constructor
    · intro h
      have hb : b = 0 ∧ i = 0 := by revert b i; decide +kernel
      obtain ⟨rfl, rfl⟩ := hb
      exact ⟨pile0, by decide +kernel, rfl⟩
    · rintro ⟨p, hp, rfl⟩
      obtain ⟨rfl, rfl⟩ := yard_pile hp
      decide +kernel
  · have hb : yard.geometry.index.get b = [] ∨ yard.geometry.index.get b = [0] := by
      revert b
      decide +kernel
    rcases hb with hb | hb <;> rw [hb] <;> simp

theorem test_hypotheses_of_LocateReports :
    yard.Accepts ∧ yard.geometry.Disjoint ∧ yard.geometry.Indexed ∧ (0 : Byte).toNat = (0 : Fin 8).val
      ∧ (159 : Byte).toNat < 160 ∧ 7 < (8 : Byte).toNat ∧ 159 < (160 : Byte).toNat :=
  ⟨yard_accepts, yard_disjoint, yard_indexed, by decide⟩
theorem test_hypotheses_of_FramingAndTimeout :
    State.reset.live = true ∧ State.reset.busy = true ∧ ready.live = true ∧ ready.busy = false
      ∧ ready.port.transaction = .idle ∧ ready.port.selectLeft ≠ 0
      ∧ (afterSelectUnits ready).port.selectLeft = 0 ∧ (afterSelectUnits ready).live = true
      ∧ (afterSelectUnits ready).port.transaction = .idle
      ∧ (lookGoesOn.map fun t => (t.live, t.port.readCode)) = some (true, some 0x02)
      ∧ (lookGoesOn.map fun t => (afterSelectUnits t).port.selectLeft) = some 0
      ∧ (after (.status ⟨0, [1, 0]⟩) ready fun t => (t.live, t.port.readCode, (afterSelectUnits t).port.selectLeft))
        = some (true, some 0x01, 0)
      ∧ (after (.transactionTimeout []) (afterSelectUnits ready) fun t =>
          (t.port.transaction, (afterSelectUnits t).port.selectLeft)) = some (.abandoned, 0) := by
  decide +kernel

/-! ### The Staging Unit -/

theorem test_hypotheses_of_StageAndMatch :
    ready.Accepts ∧ (1 : Byte).toNat = (1 : Fin 2).val ∧ classOf 13 = some .yard
      ∧ RecordClass.yard.stagedClass = true ∧ (0 : Byte).toNat < RecordClass.yard.size
      ∧ 2 ≤ (2 : Byte).toNat ∧ RecordClass.order.stagedClass = false
      ∧ RecordClass.yard.size ≤ (1 : Byte).toNat :=
  ⟨ready_accepts, by decide⟩
theorem test_hypotheses_of_StageAndMatch_buffers :
    staged.staging.get 1 = none ∧ (staged.staging.get 0).isSome = true
      ∧ staged.liveValues .pile 5 = none ∧ (ready.liveValues .bed 3).isSome = true := by decide +kernel
theorem test_hypotheses_of_FillWritesAllPairsOrNone :
    staged.Accepts ∧ (staged.staging.get 0).map (fun b => (b.cls, b.index, b.base)) = some (.pile, 5, none)
      ∧ findField (layout .pile 5) 2 = some (1, hostField 2 1 0 159)
      ∧ (hostField 2 1 0 159).takes none 159 ∧ ¬ (hostField 2 1 0 159).takes none 160
      ∧ findField (layout .pile 5) 12 = some (11, partField 12 2)
      ∧ ¬ (partField 12 2).takes none 0
      ∧ findField (layout .pile 5) 31 = none
      ∧ [0x02, 0x9F] = [(1, hostField 2 1 0 159, 159)].flatMap
          (fun x => BitVec.ofNat 8 x.2.1.number :: bytesOf x.2.1.width x.2.2) := by
  refine ⟨⟨rfl, rfl⟩, ?_⟩
  unfold FieldSpec.takes
  decide +kernel

/-- A buffer staged from the live record of a class and index. -/
def withBuffer (s : State) (cls : RecordClass) (i : Nat) (f : List Nat → List Nat) : State :=
  s.setBuffer 0 (some { s.stagedOf cls i with values := f (s.stagedOf cls i).values })

/-- The content of buffer 0. -/
def buffer0 (s : State) : Staged := (s.staging.get 0).getD (s.stagedOf .bed 0)

theorem test_hypotheses_of_CommitStagingRefusals :
    let b := buffer0 (withBuffer ready .bed 7 id)
    ready.staging.get 0 = none ∧ b.lost = false ∧ b.base = some 0
      ∧ ready.liveRevision .bed 7 = some 0
      ∧ (withBuffer yard .pile 1 id).liveRevision .pile 1 = none
      ∧ yard.liveRevision .pile 0 = some 0 := by decide +kernel
theorem test_hypotheses_of_CommitBed :
    let s := withBuffer yard .bed 0 id
    let b := buffer0 s
    s.staging.get 0 = some b ∧ b.cls = .bed ∧ b.index = 0 ∧ b.lost = false
      ∧ b.base = some (s.geometry.beds.get 0).revision
      ∧ fieldValue b.values 1 = 160 ∧ cannon0.reachStart + cannon0.reachLength = 160
      ∧ fieldValue (buffer0 (withBuffer yard .bed 0 (·.set 0 159))).values 1 = 159 := by decide +kernel
theorem test_hypotheses_of_CommitPile :
    let s := withBuffer active .pile 5 fun v => v.set 1 4
    let b := buffer0 s
    let x := pileFrom b.values 0
    s.staging.get 0 = some b ∧ b.cls = .pile ∧ b.index = 5 ∧ b.lost = false
      ∧ b.base = (s.geometry.piles.get 5).map (·.revision)
      ∧ x.start + x.length ≤ (s.geometry.beds.get x.bed).length
      ∧ windowsMeet pile0.start pile0.length x.start x.length = false
      ∧ cannon0.coversPile x = true ∧ (s.watch.living.get 5).engaged = false := by decide +kernel
theorem test_hypotheses_of_CommitPile_refusals :
    let at5 := fun v : List Nat => pileFrom (buffer0 (withBuffer active .pile 5 fun _ => v)).values 0
    160 < (at5 [0, 160, 1, 0]).start + (at5 [0, 160, 1, 0]).length
      ∧ windowsMeet pile0.start pile0.length (at5 [0, 3, 1, 0]).start (at5 [0, 3, 1, 0]).length = true
      ∧ cannon0.coversPile (at5 [1, 0, 1, 0]) = false
      ∧ (running.watch.living.get 0).engaged = true
      ∧ (pileFrom [0, 0, 5, 0] 1).sameWindow pile0 = false := by decide +kernel
theorem test_hypotheses_of_CommitCannon :
    let s := withBuffer running .cannon 0 id
    let b := buffer0 s
    s.staging.get 0 = some b ∧ b.cls = .cannon ∧ b.index = 0 ∧ b.lost = false
      ∧ b.base = (s.geometry.cannons.get 0).map (·.revision)
      ∧ (cannonFrom b.values 1).samePlan cannon0 = true
      ∧ (cannonFrom b.values 1).reachStart + (cannonFrom b.values 1).reachLength = 160
      ∧ (cannonFrom (b.values.set 5 16) 1).samePlan cannon0 = false
      ∧ (cannonFrom (b.values.set 3 3) 1).coversPile pile0 = false
      ∧ 160 < (cannonFrom (b.values.set 2 1) 1).reachStart
          + (cannonFrom (b.values.set 2 1) 1).reachLength := by decide +kernel
theorem test_hypotheses_of_CommitCannon_walk (i : Fin 24) :
    ∃ next : State → Fin 8 → State,
      (∀ v c, v.engine.contexts.get c = none → next v c = v)
      ∧ (∀ v c p, v.engine.contexts.get c = some p → p.cannon ≠ i → next v c = v)
      ∧ (∀ v c p, v.engine.contexts.get c = some p → p.cannon = i → p.state ≠ .suspended →
        next v c = if v.engine.blocked.get i then v.suspendPass c p else v)
      ∧ ∀ v c p, v.engine.contexts.get c = some p → p.cannon = i → p.state = .suspended →
        next v c = v.setWind c p (v.engine.blocked.get i) := by
  obtain ⟨next, free, live⟩ := walk_exists fun v c p =>
    if p.cannon ≠ i then v
    else if p.state = .suspended then v.setWind c p (v.engine.blocked.get i)
    else if v.engine.blocked.get i then v.suspendPass c p else v
  exact ⟨next, free, fun v c p h hc => by simp [live v c p h, hc],
    fun v c p h hc hs => by simp [live v c p h, hc, hs], fun v c p h hc hs => by simp [live v c p h, hc, hs]⟩
/-- A COMMIT that lowers the Drift limit of cannon 0 below the gust suspends its pass. -/
theorem test_commit_cannon_suspends :
    (after (.commit 0) ({ withBuffer running .cannon 0 fun v => v.set 10 0 with
        engine := { running.engine with gust := some 100 } }) fun t =>
          ((t.engine.contexts.get 0).map fun p => (p.state, p.wind), t.engine.suspensions))
      = some (some (.suspended, true), 1) := by decide +kernel
theorem test_hypotheses_of_CommitExclusion :
    let s := withBuffer running .exclusion 15 fun v => v.set 1 3
    let b := buffer0 s
    let x := exclusionFrom b.values 0
    s.staging.get 0 = some b ∧ b.cls = .exclusion ∧ b.index = 15 ∧ b.lost = false
      ∧ b.base = (s.geometry.exclusions.get 15).map (·.revision)
      ∧ s.geometry.isFixed 15 = false ∧ x.length = 1 ∧ x.start = 3
      ∧ x.start + x.length ≤ (s.geometry.beds.get x.bed).length := by decide +kernel

/-- The pass of the running yard. -/
def passR0 : Pass := { pass0 with state := .running, primeTimer := none, dwellTimer := some 15 }

theorem test_hypotheses_of_CommitExclusion_trims :
    (running.engine.contexts.get 0).map (·.rest) = some (0 :: [1, 2, 3])
      ∧ (passR0.trimmed 0 1).rest = [1, 2, 3] ∧ (passR0.trimmed 3 1).rest = [0, 1, 2]
      ∧ (passR0.trimmed 0 4).rest = [] ∧ (passR0.trimmed 4 156) = passR0
      ∧ (({ passR0 with repeats := 2, rest := [3] }).trimmed 3 1).rest = [0, 1, 2] := by decide +kernel
/-- An EXCLUSION COMMIT over the whole window ends the pass, and no live pass is left on the bed. -/
theorem test_hypotheses_of_CommitExclusion_ends :
    (after (.commit 0) (withBuffer running .exclusion 15 fun v => (v.set 1 0).set 2 4) fun t =>
        ((t.engine.contexts.get 0).isSome, t.control.lastEnded, triple t))
      = some (false, some (0, .cutShort .excluded), (0x13, .done, 15))
      ∧ running.geometry.piles.get passR0.pile = some pile0 ∧ (4 : Fin 8) ≠ pile0.bed := by decide +kernel
theorem test_hypotheses_of_CommitExclusion_fixed :
    let s := withBuffer fixed0 .exclusion 0 id
    let b := buffer0 s
    s.staging.get 0 = some b ∧ b.cls = .exclusion ∧ b.index = 0 ∧ b.lost = false
      ∧ b.base = (s.geometry.exclusions.get 0).map (·.revision) ∧ s.geometry.isFixed 0 = true := by
  decide +kernel
theorem test_hypotheses_of_CommitMain :
    let s := withBuffer running .main 0 fun v => v.set 0 62
    let b := buffer0 s
    s.staging.get 0 = some b ∧ b.cls = .main ∧ b.index = 0 ∧ b.lost = false
      ∧ b.base = some (s.engine.mains.get 0).revision
      ∧ flagsOf 6 (fieldValue b.values 1) ≠ (s.engine.mains.get 0).sourceMask
      ∧ flagsOf 6 63 = (s.engine.mains.get 0).sourceMask
      ∧ s.mainServes 0 = true ∧ s.mainServes 3 = false := by decide +kernel
theorem test_hypotheses_of_CommitSource :
    let s := withBuffer yard .source 0 fun v => v.set 0 3000
    let b := buffer0 s
    s.staging.get 0 = some b ∧ b.cls = .source ∧ b.index = 0 ∧ b.lost = false
      ∧ b.base = some (s.water.basins.get 0).revision
      ∧ (s.water.basins.get 0).level ≤ fieldValue b.values 1
      ∧ fieldValue b.values 2 ≤ fieldValue b.values 1 ∧ (s.water.basins.get 0).reserved = 0
      ∧ (buffer0 (withBuffer yard .source 5 id)).base = some yard.water.fresh.revision
      ∧ 2999 < (s.water.basins.get 0).level := by decide +kernel
theorem test_hypotheses_of_CommitGradeAndModel :
    let b := buffer0 (withBuffer yard .grade 7 fun v => v.set 2 140)
    let m := buffer0 (withBuffer yard .model 0 id)
    b.cls = .grade ∧ b.index = 7 ∧ b.lost = false ∧ b.base = some (yard.watch.grades.get 7).revision
      ∧ fieldValue b.values 1 < fieldValue b.values 2 ∧ fieldValue b.values 2 < fieldValue b.values 3
      ∧ fieldValue b.values 3 ≤ 140 ∧ ¬ fieldValue (b.values.set 2 60) 2 < fieldValue (b.values.set 2 60) 3
      ∧ m.cls = .model ∧ m.index = 0 ∧ m.base = some yard.watch.model.revision
      ∧ fieldValue m.values 1 < fieldValue m.values 2 ∧ fieldValue m.values 2 < fieldValue m.values 3
      ∧ fieldValue m.values 4 < fieldValue m.values 5 ∧ fieldValue m.values 5 < fieldValue m.values 6 := by
  decide +kernel
theorem test_hypotheses_of_CommitGradeAndModel_piles (i : Fin 8) :
    ∃ next : State → Fin 48 → State,
      (∀ v j, v.geometry.piles.get j = none → next v j = v)
      ∧ (∀ v j p, v.geometry.piles.get j = some p → p.grade ≠ i → next v j = v)
      ∧ ∀ v j p, v.geometry.piles.get j = some p → p.grade = i → next v j = v.reevaluate j true :=
  ⟨fun v j => match v.geometry.piles.get j with
    | none => v
    | some p => if p.grade = i then v.reevaluate j true else v,
    by intro v j h; simp [h], by intro v j p h hp; simp [h, hp], by intro v j p h hp; simp [h, hp]⟩
theorem test_grade_commit_reevaluates :
    (after (.commit 0) (withBuffer yard .grade 0 fun v => v.set 2 140) fun t =>
      (triple t, (t.watch.living.get 0).dryness, (t.watch.living.get 0).urgency, t.queue.map (·.pile)))
      = some ((0x13, .done, 0), 80, .need, [0]) := by decide +kernel
theorem test_hypotheses_of_CommitYard :
    let s := withBuffer yard .yard 0 fun v => (v.set 22 0).set 37 3
    let b := buffer0 s
    s.staging.get 0 = some b ∧ b.cls = .yard ∧ b.index = 0 ∧ b.lost = false
      ∧ b.base = some s.control.revision ∧ FilterTime.ofCode (fieldValue b.values 23) = .zero
      ∧ allLines[0]? = some (.machine 0) ∧ allLines[14]? = some (.flow 3) := by decide +kernel
/-- A re-take of filter time 0 that gives a new state: the yard's machine line 0 reads ACTIVE at once. -/
theorem test_hypotheses_of_CommitYard_delivers :
    let s := withBuffer running .yard 0 fun v => (v.set 7 0).set 22 0
    let x := s.field.lines.get (.machine 0)
    x.activeHigh = true ∧ (x.raw == false) ≠ x.filtered
      ∧ (after (.commit 0) s fun t => ((t.engine.contexts.get 0).map fun p => (p.state, p.machine),
          (t.field.lines.get (.machine 0)).filtered)) = some (some (.suspended, true), true) := by
  decide +kernel
theorem test_hypotheses_of_RetireOfGeometry_pass :
    running.geometry.piles.get 0 = some pile0 ∧ (running.engine.contexts.get 0).map (·.pile) = some 0
      ∧ (∀ c, yard.engine.contexts.get c = none) ∧ yard.geometry.piles.get 0 = some pile0 := by decide +kernel
theorem test_hypotheses_of_RetireOfGeometry :
    ready.Accepts ∧ classOf 13 = some .yard ∧ classOf 9 = some .slot
      ∧ RecordClass.slot.size ≤ (36 : Byte).toNat ∧ (47 : Byte).toNat = (47 : Fin 48).val
      ∧ ready.geometry.piles.get 47 = none ∧ ready.geometry.cannons.get 23 = none
      ∧ ready.geometry.exclusions.get 15 = none ∧ fixed0.geometry.isFixed 0 = true
      ∧ running.geometry.cannons.get 0 = some cannon0
      ∧ (running.engine.contexts.get 0).map (·.cannon) = some 0
      ∧ yard.geometry.piles.get 0 = some pile0 ∧ yard.cannonLive 0 = false :=
  ⟨ready_accepts, by decide +kernel⟩

/-! ### Clock, horizon, piles -/

theorem test_hypotheses_of_ClockCommands :
    ready.Accepts ∧ ready.clock.state = .unset ∧ beforeMidnight.clock.state = .running
      ∧ (86399 : Word24).toNat ≤ 86399 ∧ 86399 < (86400 : Word24).toNat :=
  ⟨ready_accepts, by decide +kernel⟩
theorem test_hypotheses_of_ClockCommands_held :
    let s := { ready with clock := { ready.clock with state := .held, day := 3, heldFrom := some 3 } }
    s.clock.state = .held ∧ s.clock.heldFrom = some s.clock.day
      ∧ ready.clock.heldFrom ≠ some ready.clock.day := by decide +kernel
theorem test_hypotheses_of_ClockEvents :
    beforeMidnight.clock.advanceDue = true ∧ ready.clock.advanceDue = false ∧ beforeMidnight.live = true
      ∧ beforeMidnight.clock.second < 86400
      ∧ beforeMidnight.clock.state = .running ∧ ready.clock.state ≠ .running
      ∧ ready.clock.hourRaised = false ∧ ready.clock.dayRaised = false
      ∧ beforeMidnight.water.fresh.available < beforeMidnight.water.fresh.rollover.available
      ∧ beforeMidnight.water.fresh.isolated = false := by decide +kernel
theorem test_hypotheses_of_ForecastTestsAndInstalls :
    let c := beforeMidnight.clock.hour
    beforeMidnight.Accepts ∧ beforeMidnight.clock.state ≠ .unset ∧ c = 1572863
      ∧ (1572863 : Word24).toNat = c ∧ (1572862 : Word24).toNat < c ∧ 1572863 < (1572864 : Word24).toNat
      ∧ (0xD8 : Byte).toInt = -40 ∧ (0x3C : Byte).toInt = 60 ∧ (0xD7 : Byte).toInt < -40 :=
  ⟨⟨rfl, rfl⟩, by decide +kernel⟩
theorem test_hypotheses_of_ForecastTestsAndInstalls_stale :
    let x : Slot := { hour := 0, issue := 7, sector := 0, meanSpeed := 0, gust := 0, humidity := 0,
                      temperature := 0, rainClass := 0 }
    let s := { ready with
      clock := { ready.clock with state := .held }
      horizon := { ready.horizon with slots := ready.horizon.slots.put 0 (some x) } }
    s.horizon.slots.get 0 = some x ∧ x.hour = (0 : Word24).toNat ∧ (7 : Word16).toNat ≤ x.issue
      ∧ ¬ (8 : Word16).toNat ≤ x.issue := by decide +kernel
theorem test_hypotheses_of_ObservationAndItsLife :
    ready.Accepts ∧ (600 : Word16).toNat ≤ 600 ∧ 600 < (601 : Word16).toNat ∧ (15 : Byte).toNat ≤ 15
      ∧ 15 < (16 : Byte).toNat ∧ (100 : Byte).toNat ≤ 100 ∧ 100 < (101 : Byte).toNat
      ∧ ready.horizon.life = none
      ∧ ({ ready with horizon := { ready.horizon with life := some 0 } } : State).horizon.life = some 0 :=
  ⟨ready_accepts, by decide +kernel⟩
theorem test_hypotheses_of_RetireSlotAndObservation :
    ready.Accepts ∧ 35 < (36 : Byte).toNat ∧ (35 : Byte).toNat = (35 : Fin 36).val
      ∧ ready.horizon.slots.get 35 = none ∧ (1 : Byte) ≠ 0 ∧ ready.horizon.observation = none :=
  ⟨ready_accepts, by decide +kernel⟩
theorem test_hypotheses_of_RetireSlotAndObservation_present :
    (after (.forecast 1572863 1 3 80 120 50 20 0) beforeMidnight fun t =>
        ((t.horizon.slots.get 23).map (·.hour), t.clock.hour)) = some (some 1572863, 1572863)
      ∧ (after (.observe 0 0 0 0) ready fun t => t.horizon.observation.map (·.fresh))
        = some (some true) := by decide +kernel
theorem test_hypotheses_of_DriftReevaluation :
    running.geometry.cannons.get 0 = some cannon0 ∧ running.field.lines.gust.filtered = false
      ∧ (running.engine.contexts.get 0).map (·.state) = some .running ∧ running.gustFigure = none
      ∧ driftFlag true 100 false (some 85) = false ∧ driftFlag true 100 false (some 86) = true
      ∧ driftFlag false 100 false (some 100) = false ∧ driftFlag false 100 false (some 101) = true := by
  decide +kernel
theorem test_hypotheses_of_DriftReevaluation_suspended :
    let s := withPass suspended fun p => { p with wind := true, machine := false }
    (s.engine.contexts.get 0).map (fun p => (p.state, p.wind, p.main)) = some (.suspended, true, 0)
      ∧ (s.engine.contexts.get 0).map (fun p => (p.source.val, p.delivered - p.deducted)) = some (0, 0)
      ∧ (pass0.source.val, (withPass running fun p => { p with runningSeconds := 5 }).engine.contexts.get 0
          |>.map fun p => p.delivered - p.deducted) = (0, some 1) := by decide +kernel
theorem test_hypotheses_of_DriftReevaluation_walk :
    ∃ next : State → Fin 8 → State,
      (∀ v c, v.engine.contexts.get c = none → next v c = v)
      ∧ (∀ v c p, v.engine.contexts.get c = some p → p.state ≠ .suspended →
        next v c = if v.engine.blocked.get p.cannon then v.suspendPass c p else v)
      ∧ ∀ v c p, v.engine.contexts.get c = some p → p.state = .suspended →
        next v c = v.setWind c p (v.engine.blocked.get p.cannon) := by
  obtain ⟨next, free, live⟩ := walk_exists fun v c p =>
    if p.state = .suspended then v.setWind c p (v.engine.blocked.get p.cannon)
    else if v.engine.blocked.get p.cannon then v.suspendPass c p else v
  exact ⟨next, free, fun v c p h hs => by simp [live v c p h, hs], fun v c p h hs => by simp [live v c p h, hs]⟩
/-- A suspension deducts what the pass has drawn. -/
theorem test_suspension_deducts :
    let s := withPass running fun p => { p with runningSeconds := 60 }
    let t := s.driftReevaluate
    ((s.water.basins.get 0).level - (t.water.basins.get 0).level,
        (t.engine.contexts.get 0).map (·.deducted)) = (12, some 12) := by decide +kernel
theorem test_drift_suspends_and_asks :
    let t := running.driftReevaluate
    t.engine.asked = (Table.fill 4 false).put 0 true
      ∧ t.engine.mains.get 0 = { Main.reset with state := .opened, openSource := some 0 }
      ∧ (t.engine.contexts.get 0).map (fun p => (p.state, p.wind, p.suspension, p.limitTimer))
        = some (.suspended, true, 0, some 2700) := by decide +kernel
theorem test_hypotheses_of_EvaluationGrades_count :
    yard.notices.urgentMode = .each ∧ yard.watch.mustCount + 1 = yard.notices.urgentThreshold
      ∧ (yard.watch.living.get 0).urgency ≠ .must
      ∧ ((yard.reevaluate 0 true).watch.living.get 0).urgency = .must
      ∧ (yard.reevaluate 0 true).watch.mustCount = 1
      ∧ (running.watch.living.get 0).engaged = true := by decide +kernel
/-- Under a forecast basis an evaluation leaves FORECAST_GAP as it was; under any other it raises it. -/
theorem test_hypotheses_of_EvaluationGrades_gap :
    let w : WindBasis := { kind := .forecast, speedBand := 0, humidityClass := 3, sector := some 0,
                           rainClass := some 0 }
    (yard.evaluate 0 w false true).notices.pending.get NoticeKind.forecastGap.place = false
      ∧ (yard.evaluate 0 (yard.windBasis ⟨0, 0⟩) false true).notices.pending.get
          NoticeKind.forecastGap.place = true := by decide +kernel
theorem test_hypotheses_of_EvaluationGrades :
    yard.geometry.piles.get 0 = some pile0
      ∧ (yard.evaluate 0 (yard.windBasis ⟨0, 0⟩) false false).watch.living.get 0
        = { Living.blank with moisture := 50, urgency := .must, dryness := 80 } := by decide +kernel
theorem test_hypotheses_of_AssessmentDriesEveryPile :
    let s := { yard with clock := { yard.clock with assessmentRaised := some ⟨0, 0⟩ } }
    s.live = true ∧ s.clock.assessmentRaised = some ⟨0, 0⟩ ∧ s.geometry.piles.get 0 = some pile0
      ∧ yard.clock.assessmentRaised = none := by decide +kernel
theorem test_hypotheses_of_AssessmentDriesEveryPile_next (w : WindBasis) (rain : Bool) :
    ∃ next : State → Fin 48 → State,
      (∀ v i, v.geometry.piles.get i = none → next v i = v)
      ∧ ∀ v i p, v.geometry.piles.get i = some p → next v i = v.assessPile w rain i :=
  ⟨fun v i => if (v.geometry.piles.get i).isNone then v else v.assessPile w rain i,
    by intro v i h; simp [h], by intro v i p h; simp [h]⟩
/-- A queued pile at NEED counts a deferral at an assessment. -/
theorem test_assessment_counts_a_deferral :
    let s := { yard.setQueue [order0] with
      clock := { yard.clock with assessmentRaised := some ⟨0, 0⟩ }
      watch := { yard.watch with
        living := yard.watch.living.put 0 { Living.blank with moisture := 60, carried := true } } }
    (after .assessment s fun t => ((t.watch.living.get 0).moisture, (t.watch.living.get 0).urgency,
        t.queue.map (·.watch))) = some (50, .must, [some .must])
    ∧ (after .assessment { s with
          watch := { s.watch with
            grades := s.watch.grades.modify 0 fun g => { g with must := 140 } } } fun t =>
        ((t.watch.living.get 0).urgency, (t.watch.living.get 0).deferral)) = some (.need, 1) := by
  decide +kernel

/-! ### Orders -/

theorem test_hypotheses_of_OrderRefusals :
    yard.Accepts ∧ yard.control.mode = .held ∧ (47 : Byte).toNat < 48 ∧ (1 : Byte).toNat < 2
      ∧ (23 : Byte).toNat < 24 ∧ ¬ (48 : Byte).toNat < 48 ∧ ¬ (2 : Byte).toNat < 2
      ∧ ¬ (24 : Byte).toNat < 24 ∧ (24 : Byte) ≠ 0xFF ∧ yard.geometry.piles.get 47 = none
      ∧ (running.watch.living.get 0).engaged = true ∧ yard.geometry.cannons.get 23 = none
      ∧ (yard.setMode .drained).control.mode = .drained :=
  ⟨yard_accepts, by decide +kernel⟩

/-- A queue of sixteen orders for piles 1 to 16, with watch parts MAY. -/
def fullQueue : List Order :=
  (List.range 16).map fun k =>
    { pile := Fin.ofNat 48 (k + 1), watch := some .may, operator := none, named := none,
      entered := ⟨0, 0⟩, waiting := .none }

theorem test_hypotheses_of_OrderJoinsOrMerges :
    yard.Accepts ∧ yard.control.mode = .held ∧ yard.geometry.piles.get 0 = some pile0
      ∧ (yard.watch.living.get 0).engaged = false ∧ cannon0.coversPile pile0 = true
      ∧ yard.queue.length < 16 ∧ (255 : Byte).toNat = ((none : Option (Fin 24)).map (·.val)).getD 255
      ∧ (1 : Byte).toNat = Priority.high.code :=
  ⟨yard_accepts, by decide +kernel⟩
theorem test_hypotheses_of_OrderJoinsOrMerges_full :
    let s := yard.setQueue fullQueue
    (∀ x ∈ s.queue, x.pile ≠ 0) ∧ 16 ≤ s.queue.length
      ∧ (s.displaceable Priority.normal.rank).map (·.pile) = some 16
      ∧ (yard.setQueue (fullQueue.map fun o => { o with watch := some .must })).displaceable
          Priority.high.rank = none := by decide +kernel
theorem test_hypotheses_of_OrderJoinsOrMerges_queued :
    let s := yard.setQueue (fullQueue ++ [order0])
    s.queue = fullQueue ++ order0 :: [] ∧ order0.pile = 0 ∧ ∀ y ∈ fullQueue ++ [], y.pile ≠ 0 := by
  decide +kernel
theorem test_hypotheses_of_OrderJoinsOrMerges_offers :
    Urgency.want .must = some .must ∧ (∀ x ∈ yard.queue, x.pile ≠ 0)
      ∧ (yard.setQueue fullQueue).queue = [] ++ fullQueue.headD order0 :: fullQueue.tail
      ∧ (fullQueue.headD order0).pile = 1 ∧ (∀ y ∈ [] ++ fullQueue.tail, y.pile ≠ 1)
      ∧ (fullQueue.headD order0).operator = none ∧ (fullQueue.headD order0).watch.isSome = true
      ∧ order0.watch = none := by decide +kernel
theorem test_hypotheses_of_WithdrawRemovesTheOperatorPart :
    ready.Accepts ∧ 47 < (48 : Byte).toNat ∧ (47 : Byte).toNat = (47 : Fin 48).val
      ∧ (yard.setQueue [order0]).queue = [] ++ order0 :: [] ∧ order0.operator.isSome = true
      ∧ order0.watch = none
      ∧ (fullQueue.map fun o => (o.operator, o.watch.isSome)) = List.replicate 16 (none, true) :=
  ⟨ready_accepts, by decide +kernel⟩
theorem test_hypotheses_of_RequestJudgesAndSelects :
    let s := active.setQueue [order0]
    s.geometry.piles.get order0.pile = some pile0 ∧ s.usable order0 pile0 0 = true
      ∧ s.onMain 0 0 = true ∧ s.onMain 1 0 = false ∧ s.machinePresent pile0.bed = false
      ∧ s.engine.blocked.get 0 = false ∧ s.judge 0 order0 = .candidate 0 0
      ∧ s.judge 1 order0 = .elsewhere ∧ s.candidates 0 = [⟨order0, 0, 0⟩] := by decide +kernel

theorem test_hypotheses_of_RequestJudgesAndSelects_reasons :
    ready.judge 0 order0 = .noCannon
      ∧ ({ active with geometry := active.geometry.putCannon 0 (some { cannon0 with enabled := false }) }
          : State).judge 0 order0 = .noCannon
      ∧ (active.mapLine (.machine 0) fun l => { l with filtered := true }).judge 0 order0 = .machine
      ∧ (active.setFlags (Table.fill 24 true)).judge 0 order0 = .wind
      ∧ (active.mapBasin 0 fun b => { b with low := true }).judge 0 order0 = .water := by decide +kernel

theorem test_hypotheses_of_RequestJudgesAndSelects_recorded :
    let s := ready.setQueue [order0]
    s.judge 0 order0 = .noCannon ∧ order0.waiting ≠ .noCannon ∧ s.queue = [] ++ order0 :: []
      ∧ (s.recordReasons 0).queue.map (·.waiting) = [.noCannon]
      ∧ (s.recordReasons 0).notices.pending.get 7 = true := by decide +kernel

/-! ### Passes -/

theorem test_hypotheses_of_AttemptTakesTheFirstStep :
    active.available 0 = true ∧ suspended.available 0 = true
      ∧ (suspended.engine.contexts.get 0).map (fun p => (p.main, p.state, p.wind, p.machine))
        = some (0, .suspended, false, true)
      ∧ active.engine.contexts.get 0 = none := by decide +kernel
theorem test_hypotheses_of_AttemptTakesTheFirstStep_resumable :
    resumable.available 0 = true
      ∧ (resumable.engine.contexts.get 0).map (fun p => (p.main, p.state, p.wind, p.machine))
        = some (0, .suspended, false, false)
      ∧ (∀ d : Fin 8, d ≠ 0 → resumable.engine.contexts.get d = none)
      ∧ yard.available 0 = false := by decide +kernel
theorem test_hypotheses_of_StartPrimesTheMain_resume :
    (resumable.field.lines.flow.get 0).filtered = false
      ∧ ((resumable.mapLine (.flow 0) fun l => { l with filtered := true }).field.lines.flow.get 0).filtered
        = true
      ∧ (resumable.engine.contexts.get 0).map (fun p => (p.main, p.source)) = some (0, 0)
      ∧ resumable.primeKind 0 0 = .warm ∧ resumable.primeKind 0 5 = .cold := by decide +kernel
theorem test_hypotheses_of_StartPrimesTheMain :
    active.geometry.piles.get order0.pile = some pile0
      ∧ active.geometry.cannons.get 0 = some cannon0
      ∧ (active.field.lines.flow.get 0).filtered = false
      ∧ planBays yard.geometry pile0 1 false = [0, 2]
      ∧ planBays yard.geometry pile0 1 true = [3, 1] := by decide +kernel
theorem test_hypotheses_of_FaultAndClear :
    priming.live = true ∧ (priming.engine.contexts.get 0).map (·.primeTimer) = some (some 60)
      ∧ ((withPass priming fun p => { p with primeTimer := some 0 }).engine.contexts.get 0).map (·.primeTimer)
        = some (some 0)
      ∧ priming.Accepts ∧ 3 < (4 : Byte).toNat ∧ (3 : Fin 4).val = (3 : Byte).toNat
      ∧ (priming.engine.mains.get 3).state ≠ .faulted
      ∧ (priming.faultMain 3 .stray).Accepts
      ∧ ((priming.faultMain 3 .stray).engine.mains.get 3).state = .faulted :=
  ⟨by decide, by decide +kernel, by decide +kernel, ⟨rfl, rfl⟩, by decide, by decide, by decide +kernel,
    ⟨rfl, rfl⟩, by decide +kernel⟩
theorem test_hypotheses_of_FaultAndClear_reports :
    (running.engine.contexts.get 0).map (fun p => (p.pile, p.baysDone, p.baysPlanned)) = some (0, 0, 4)
      ∧ (withPass running fun p => { p with baysDone := 1 }).geometry.piles.get 0 = some pile0
      ∧ running.engine.contexts.get 7 = none := by decide +kernel

/-- A second pile on the bed, wetted 8 passes ago, where the Sweep limit is 9. -/
def sweeping : State :=
  { withPass running fun p => { p with baysDone := 1 } with
    geometry := { running.geometry with
      beds := running.geometry.beds.modify 0 fun b => { b with sweepLimit := 9 }
      piles := running.geometry.piles.put 1 (some { pile0 with start := 4 }) }
    watch := { running.watch with passCount := running.watch.passCount.put 0 8 } }

theorem test_sweep_due_at_the_limit :
    let t := sweeping.endPass none 0 (.cutShort .hold) true
    (t.watch.living.get 1).sweepDue = true ∧ (t.watch.living.get 1).urgency = .need
      ∧ (t.watch.living.get 0).bedMark = 9 ∧ (t.watch.living.get 0).moisture = 55 := by decide +kernel
theorem test_hypotheses_of_FaultAndClear_sweep (bed : Fin 8) (wetted : Fin 48) :
    ∃ next : State → Fin 48 → State,
      (∀ w j, w.geometry.piles.get j = none → next w j = w)
      ∧ ∀ w j q d, w.geometry.piles.get j = some q → d = w.watch.living.get j → ∀ due : Prop,
        (due ↔ q.bed = bed ∧ j ≠ wetted ∧ (w.geometry.beds.get bed).sweepLimit ≠ 0
          ∧ (w.geometry.beds.get bed).sweepLimit ≤ (w.watch.passCount.get bed - d.bedMark).toNat
          ∧ d.sweepDue = false) →
        (¬ due → next w j = w) ∧ (due → next w j = w.markSweepDue j) := by
  refine ⟨fun w j => match w.geometry.piles.get j with
    | none => w
    | some q => if q.bed = bed ∧ j ≠ wetted ∧ (w.geometry.beds.get bed).sweepLimit ≠ 0
          ∧ (w.geometry.beds.get bed).sweepLimit
            ≤ (w.watch.passCount.get bed - (w.watch.living.get j).bedMark).toNat
          ∧ (w.watch.living.get j).sweepDue = false then w.markSweepDue j else w, ?_, ?_⟩
  · intro w j h
    simp only [h]
  · rintro w j q d h rfl due hd
    simp only [h]
    exact ⟨fun hn => if_neg (fun hc => hn (hd.2 hc)), fun hy => if_pos (hd.1 hy)⟩
theorem test_hypotheses_of_DwellAndSuspensionLimit :
    running.live = true
      ∧ (running.engine.contexts.get 0).map (fun p => (p.rest, p.dwellTimer, p.repeats, p.cursorRepeat))
        = some ([0, 1, 2, 3], some 15, 1, 0)
      ∧ (suspended.engine.contexts.get 0).map (·.limitTimer) = some (some 2700)
      ∧ ((withPass suspended fun p => { p with limitTimer := some 0 }).engine.contexts.get 0).map (·.limitTimer)
        = some (some 0)
      ∧ ((withPass running fun p => { p with dwellTimer := some 0 }).engine.contexts.get 0).map (·.dwellTimer)
        = some (some 0) := by decide +kernel

/-- Ends without a fault, and the main each leaves: on a usable source, on one that is not, and of a SUSPENDED
pass. -/
theorem test_hypotheses_of_DwellAndSuspensionLimit_mains :
    let low := fun s : State => s.mapBasin 0 fun b => { b with low := true }
    let main := fun s : State =>
      let x := ((s.endPass none 0 (.cutShort .suspendLimit) true).engine.mains.get 0)
      (x.state, x.openSource)
    [priming, running, suspended].map main = List.replicate 3 (.opened, some 0)
      ∧ [priming, running, suspended].map (fun s => main (low s)) = List.replicate 3 (.closed, none) := by
  decide +kernel
/-- A pass that has drawn 12 VU, on a bed that returns half of its water to basin 1. -/
def returning : State :=
  { withPass running fun p => { p with runningSeconds := 60 } with
    geometry := { running.geometry with
      beds := running.geometry.beds.modify 0 fun b =>
        { b with collection := some 1, returnPercent := 50 } } }

/-- Its source enters the low condition as the pass ends, where the Floor is above what is left. -/
theorem test_hypotheses_of_DwellAndSuspensionLimit_low :
    let s := returning.mapBasin 0 fun b => { b with floor := 2990 }
    let t := s.endPass none 0 (.cutShort .hold) true
    (s.water.basins.get 0).low = false ∧ (t.water.basins.get 0).low = true
      ∧ (t.water.basins.get 1).low = true ∧ (s.water.basins.get 1).low = true
      ∧ t.notices.pending.get NoticeKind.waterLow.place = true
      ∧ t.notices.subjects.get NoticeKind.waterLow.place = 0 := by decide +kernel
theorem test_settlement_of_a_pass_end :
    let t := returning.endPass none 0 (.cutShort .hold) true
    (t.water.basins.get 0).level = 2988 ∧ (t.water.basins.get 0).reserved = 0
      ∧ (t.water.basins.get 1).level = 6 ∧ (t.water.basins.get 1).clarity = 3
      ∧ (t.water.basins.get 1).settle = some 1800 := by decide +kernel
theorem test_hypotheses_of_DwellAndSuspensionLimit_last_bay :
    let p := { pass0 with state := .running, primeTimer := none, dwellTimer := some 0, rest := [3] }
    let s := serving p .running (some 0) (some 0)
    s.engine.contexts.get 0 = some p ∧ p.rest = 3 :: [] ∧ p.repeats ≤ p.cursorRepeat + 1
      ∧ ({ p with repeats := 2 } : Pass).cursorRepeat + 1 < ({ p with repeats := 2 } : Pass).repeats
      ∧ p.bays ≠ [] := by decide +kernel
theorem test_hypotheses_of_FlowLineRunsOrFaults :
    let s := priming.mapLine (.flow 0) fun l => { l with raw := true, qualify := some 0 }
    let l := s.field.lines.flow.get 0
    s.live = true ∧ s.NoneAsked ∧ l.qualify = some 0 ∧ l.reads = true ∧ l.filtered = false
      ∧ (s.engine.mains.get 0).state = .priming ∧ (s.engine.mains.get 0).context = some 0
      ∧ (s.engine.contexts.get 0).map (fun p => (p.cursorSeconds, p.dwell, p.main)) = some (0, 15, 0) :=
  ⟨by decide, by unfold State.NoneAsked; decide, by decide +kernel⟩
theorem test_hypotheses_of_FlowLineRunsOrFaults_spent :
    let p := { pass0 with rest := [3], cursorSeconds := 15 }
    p.dwell ≤ p.cursorSeconds ∧ p.rest = [3] ∧ p.repeats ≤ p.cursorRepeat + 1 ∧ p.bays ≠ []
      ∧ ({ p with repeats := 2 } : Pass).cursorRepeat + 1 < ({ p with repeats := 2 } : Pass).repeats := by
  decide +kernel
/-- A spent bay that was the last of the plan ends its pass FULL as the flow is confirmed; the pile is wet enough
for no new order. -/
theorem test_spent_last_bay_ends_full :
    (after (.qualifyingTimerExpiry (.flow 0))
        (((withPass priming fun p => { p with rest := [3], cursorSeconds := 15 }).mapLine (.flow 0) fun l =>
          { l with raw := true, qualify := some 0 }).mapLiving 0 fun l => { l with moisture := 100 })
        fun t => (t.control.lastEnded, (t.engine.mains.get 0).state, t.field.log))
      = some (some (0, .full), .opened, [.valve 0 true, .valve 0 false, .pump 0 false]) := by decide +kernel
theorem test_hypotheses_of_FlowLineRunsOrFaults_lost :
    let s := running.mapLine (.flow 0) fun l => { l with filtered := true, qualify := some 0 }
    let l := s.field.lines.flow.get 0
    s.NoneAsked ∧ l.qualify = some 0 ∧ l.reads = false ∧ l.filtered = true
      ∧ (s.engine.mains.get 0).state = .running ∧ (s.engine.mains.get 0).context = some 0
      ∧ (s.engine.contexts.get 0).map (·.main) = some 0 :=
  ⟨by unfold State.NoneAsked; decide, by decide +kernel⟩
theorem test_hypotheses_of_MachineLineSuspends :
    let s := running.mapLine (.machine 0) fun l => { l with raw := true, qualify := some 0 }
    let l := s.field.lines.machine.get 0
    s.live = true ∧ l.qualify = some 0 ∧ l.reads = true ∧ l.filtered = false
      ∧ (s.engine.contexts.get 0).map (fun p => (p.pile, p.state)) = some (0, .running)
      ∧ s.geometry.piles.get 0 = some pile0 ∧ pile0.bed = 0 := by decide +kernel
theorem test_hypotheses_of_MachineLineSuspends_clears :
    let s := suspended.mapLine (.machine 0) fun l => { l with filtered := true, qualify := some 0 }
    let l := s.field.lines.machine.get 0
    s.live = true ∧ l.qualify = some 0 ∧ l.reads = false ∧ l.filtered = true
      ∧ (s.engine.contexts.get 0).map (fun p => (p.state, p.machine)) = some (.suspended, true) := by
  decide +kernel

theorem test_hypotheses_of_MachineLineSuspends_walk (bed : Fin 8) (present : Bool) :
    ∃ next : State → Fin 8 → State,
      (∀ v c, v.engine.contexts.get c = none → next v c = v)
      ∧ (∀ v c p, v.engine.contexts.get c = some p → v.bedOf p.pile ≠ some bed → next v c = v)
      ∧ (∀ v c p, v.engine.contexts.get c = some p → v.bedOf p.pile = some bed → p.state ≠ .suspended →
        next v c = if present then v.suspendPass c p else v)
      ∧ ∀ v c p, v.engine.contexts.get c = some p → v.bedOf p.pile = some bed → p.state = .suspended →
        next v c = v.setMachine c p present := by
  obtain ⟨next, free, live⟩ := walk_exists fun v c p =>
    if v.bedOf p.pile ≠ some bed then v
    else if p.state = .suspended then v.setMachine c p present
    else if present then v.suspendPass c p else v
  exact ⟨next, free, fun v c p h hb => by simp [live v c p h, hb],
    fun v c p h hb hs => by simp [live v c p h, hb, hs], fun v c p h hb hs => by simp [live v c p h, hb, hs]⟩

/-! ### Water, modes, notices, store, lines -/

theorem test_hypotheses_of_InflowLowTestAndSettle :
    yard.Accepts ∧ 4 < (5 : Byte).toNat ∧ 60000 < (60001 : Word16).toNat ∧ 1 < (2 : Byte).toNat
      ∧ (4 : Fin 5).val = (4 : Byte).toNat ∧ (60000 : Word16).toNat ≤ 60000
      ∧ (yard.water.basins.get 0).low = false ∧ (yard.water.basins.get 4).low = true
      ∧ (yard.water.basins.get 0).level + 57000 ≤ (yard.water.basins.get 0).capacity
      ∧ (yard.water.basins.get 0).capacity < (yard.water.basins.get 0).level + 57001
      ∧ (yard.water.basins.get 0).settle = none :=
  ⟨yard_accepts, by decide +kernel⟩
theorem test_hypotheses_of_GaugeSetsTheAccount :
    running.Accepts ∧ 3 < (4 : Byte).toNat
      ∧ (running.water.basins.get 0).capacity < (60001 : Word16).toNat
      ∧ (0 : Fin 5).val = (0 : Byte).toNat ∧ (running.water.basins.get 0).low = false
      ∧ (12 : Word16).toNat = (running.water.basins.get 0).floor + (running.water.basins.get 0).reserved
      ∧ (11 : Word16).toNat < (running.water.basins.get 0).floor + (running.water.basins.get 0).reserved
      ∧ (running.water.basins.get 4).low = true :=
  ⟨running_accepts, by decide +kernel⟩
theorem test_hypotheses_of_GaugeSetsTheAccount_cut (b : Fin 5) :
    ∃ next : State → Fin 8 → State,
      (∀ t c, t.engine.contexts.get c = none → next t c = t)
      ∧ (∀ t c p, t.engine.contexts.get c = some p → p.source.val ≠ b.val → next t c = t)
      ∧ ∀ t c p, t.engine.contexts.get c = some p → p.source.val = b.val →
        next t c = (t.endPass (some b) c (.cutShort .water) true).runAttempts (some b) :=
  ⟨fun t c => match t.engine.contexts.get c with
    | none => t
    | some p => if p.source.val = b.val then
        (t.endPass (some b) c (.cutShort .water) true).runAttempts (some b) else t,
    by intro t c h; simp [h], by intro t c p h hp; simp [h, hp], by intro t c p h hp; simp [h, hp]⟩
theorem test_hypotheses_of_IsolateAndRestore :
    running.Accepts ∧ 5 < (6 : Byte).toNat ∧ (5 : Fin 6).val = (5 : Byte).toNat
      ∧ running.water.isIsolated 0 = false ∧ running.water.isIsolated 5 = true
      ∧ (running.water.basins.get 4).isolated = true ∧ running.water.fresh.isolated = true :=
  ⟨running_accepts, by decide +kernel⟩
theorem test_hypotheses_of_IsolateAndRestore_walk (x : Fin 6) :
    ∃ next : State → Fin 8 → State,
      (∀ v c, v.engine.contexts.get c = none → next v c = v)
      ∧ (∀ v c p, v.engine.contexts.get c = some p → p.source ≠ x → next v c = v)
      ∧ ∀ v c p, v.engine.contexts.get c = some p → p.source = x →
        next v c = (v.endPass none c (.cutShort .water) true).runAttempts none := by
  obtain ⟨next, free, live⟩ := walk_exists fun v c p =>
    if p.source = x then (v.endPass none c (.cutShort .water) true).runAttempts none else v
  exact ⟨next, free, fun v c p h hx => by simp [live v c p h, hx], fun v c p h hx => by simp [live v c p h, hx]⟩
theorem test_hypotheses_of_IsolateAndRestore_open :
    (suspended.engine.mains.get 0).state = .opened ∧ (suspended.engine.mains.get 0).openSource = some 0
      ∧ (running.engine.mains.get 0).state ≠ .opened ∧ (running.engine.contexts.get 0).map (·.source) = some 0 := by
  decide +kernel
theorem test_hypotheses_of_ChoiceOfSource :
    active.basinAdmissible 0 1 3000 0 = true ∧ active.basinAdmissible 0 1 3001 0 = false
      ∧ active.basinAdmissible 0 0 3000 0 = false ∧ active.freshAdmissible 0 2 0 = false
      ∧ (active.restoreSource 5).freshAdmissible 0 1 0 = true
      ∧ (suspended.engine.mains.get 0).openSource = some 0 := by decide +kernel
theorem test_hypotheses_of_HoldAndFrost :
    running.Accepts ∧ running.control.mode = .active ∧ yard.control.mode = .held
      ∧ (yard.setMode .drained).control.mode = .drained
      ∧ (yard.setMode .draining).control.mode = .draining :=
  ⟨running_accepts, by decide +kernel⟩
theorem test_hypotheses_of_HoldAndFrost_walk (reason : CutReason) :
    ∃ next : State → Fin 8 → State,
      (∀ v c, v.engine.contexts.get c = none → next v c = v)
      ∧ ∀ v c p, v.engine.contexts.get c = some p →
        next v c = (v.endPass none c (.cutShort reason) true).runAttempts none :=
  walk_exists _
/-- A DRAIN ends the pass with reason DRAIN; its order leaves with the queue. -/
theorem test_drain_ends_the_pass :
    after .drain (running.setQueue [order0]) (fun t => (t.control.lastEnded, t.queue, t.field.pins.pumps.get 0))
      = some (some (0, .cutShort .drain), [], false) := by decide +kernel
theorem test_hypotheses_of_HoldAndFrost_line :
    let s := running.mapLine .frost fun l => { l with raw := true, qualify := some 0 }
    let l := s.field.lines.frost
    s.live = true ∧ l.qualify = some 0 ∧ l.filtered = false ∧ l.raw = l.activeHigh
      ∧ s.control.mode = .active ∧ s.NoneAsked :=
  ⟨by decide, by decide, by decide, by decide, by decide, by unfold State.NoneAsked; decide⟩
theorem test_hypotheses_of_DrainAndItsTimers :
    active.Accepts ∧ active.control.mode = .active
      ∧ (after .drain active fun t => ((t.control.drainTimers.get 0).isSome,
          (List.finRange 4).map fun m => (t.engine.mains.get m).state))
        = some (true, List.replicate 4 .draining)
      ∧ active.control.drainTimers.get 0 = none
      ∧ ({ ready with control := { ready.control with
          drainTimers := ready.control.drainTimers.put 0 (some 0) } } : State).control.drainTimers.get 0
        = some 0 :=
  ⟨active_accepts, by decide +kernel⟩
theorem test_hypotheses_of_ResumeReturnsToActive :
    yard.Accepts ∧ yard.control.mode = .held ∧ yard.field.lines.frost.filtered = false
      ∧ (yard.setMode .drained).control.mode = .drained
      ∧ (yard.mapLine .frost fun l => { l with filtered := true }).field.lines.frost.filtered = true :=
  ⟨yard_accepts, by decide +kernel⟩
theorem test_hypotheses_of_ResumeReturnsToActive_piles :
    ∃ next : State → Fin 48 → State,
      (∀ v i, v.geometry.piles.get i = none → next v i = v)
      ∧ ∀ v i p, v.geometry.piles.get i = some p → next v i = v.reevaluate i true :=
  ⟨fun v i => if (v.geometry.piles.get i).isNone then v else v.reevaluate i true,
    by intro v i h; simp [h], by intro v i p h; simp [h]⟩
theorem test_hypotheses_of_AcknowledgeClears :
    ready.Accepts ∧ (511 : Word16).toNat < 512 ∧ 512 ≤ (512 : Word16).toNat := ⟨ready_accepts, by decide⟩
theorem test_hypotheses_of_StoreWrites :
    ready.Accepts ∧ 15 < (16 : Byte).toNat ∧ (15 : Byte).toNat = (15 : Fin 16).val
      ∧ ready.geometry.exclusions.get 15 = none ∧ (fixed0.geometry.exclusions.get 0).isSome = true
      ∧ fixed0.geometry.isFixed 0 = true ∧ ready.store.closed = false ∧ ready.store.tag = none
      ∧ (ready.beginWrite .close).store.write = some .close
      ∧ (fixed0.beginWrite (.fix 0)).store.write = some (.fix 0)
      ∧ (ready.beginWrite (.tag [7])).store.write = some (.tag [7]) :=
  ⟨ready_accepts, by decide +kernel⟩
theorem test_hypotheses_of_ResetsAndInitialisation :
    ready.Accepts ∧ State.reset.live = true ∧ State.reset.startup.initialising = some 1
      ∧ ready.startup.initialising = none
      ∧ ({ ready with startup := { ready.startup with initialising := some 0 } } : State).startup.initialising
        = some 0 ∧ ready.startup.resetLow = false
      ∧ ({ ready with startup := { ready.startup with resetLow := true } } : State).startup.resetLow
        = true :=
  ⟨ready_accepts, by decide +kernel⟩
theorem test_hypotheses_of_LineFilters :
    let l := ready.field.lines.gust
    let free := { l with retake := none }
    ready.live = true ∧ l.raw = false ∧ l.retake.isSome = true ∧ l.qualify = none
      ∧ (true == free.activeHigh) ≠ free.filtered ∧ free.filter = .one
      ∧ (true == ({ free with activeHigh := false } : InputLine).activeHigh) = free.filtered
      ∧ ({ free with filter := .zero } : InputLine).filter = .zero
      ∧ ({ free with qualify := some 0 } : InputLine).qualify = some 0
      ∧ ({ free with retake := some 0 } : InputLine).retake = some 0 := by decide +kernel

/-! ### Laws: a yard with a pass and an order meets them -/

/-- The pass and the main of the running yard. -/
def passR : Pass := passR0

def mainR : Main := { Main.reset with state := .running, openSource := some 0, context := some 0 }

theorem running_contexts (c : Fin 8) :
    running.engine.contexts.get c = if c = 0 then some passR else none := by
  revert c
  decide +kernel

theorem running_pass {c : Fin 8} {p : Pass} (h : running.engine.contexts.get c = some p) :
    c = 0 ∧ p = passR := by
  rw [running_contexts] at h
  split at h
  · next hc => exact ⟨hc, (Option.some.inj h).symm⟩
  · cases h

theorem running_mains (m : Fin 4) :
    running.engine.mains.get m = if m = 0 then mainR else Main.reset := by
  revert m
  decide +kernel

theorem running_pile {i : Fin 48} {p : Pile} (h : running.geometry.piles.get i = some p) :
    i = 0 ∧ p = pile0 := yard_pile h

theorem running_exclusion (i : Fin 16) : running.geometry.exclusions.get i = none := by
  revert i
  decide +kernel

theorem running_cannons (i : Fin 24) :
    running.geometry.cannons.get i = if i = 0 then some cannon0 else none := by
  revert i
  decide +kernel

theorem running_staging (k : Fin 2) : running.staging.get k = none := by
  revert k
  decide

theorem test_hypotheses_of_StepsEndSettled : running.PinsFollow ∧ running.NoneAsked :=
  ⟨by unfold State.PinsFollow; decide +kernel, running_noneAsked⟩

theorem test_hypotheses_of_StepsEndSettled_pins :
    running.pinsFollowed.valves.get 0 = true ∧ priming.pinsFollowed.valves.get 0 = false
      ∧ priming.pinsFollowed.pumps.get 0 = true ∧ suspended.pinsFollowed.pumps.get 0 = false
      ∧ suspended.pinsFollowed.selects.get 0 = 0 ∧ yard.pinsFollowed.selects.get 0 = 7
      ∧ pinChanges yard.pinsFollowed running.pinsFollowed = [.select 0 0, .pump 0 true, .valve 0 true]
      ∧ pinChanges running.pinsFollowed yard.pinsFollowed = [.valve 0 false, .pump 0 false, .select 0 7] := by
  decide +kernel

theorem test_hypotheses_of_ClosedStoreNeverGrows :
    running.FixedLaw ∧ running.ClosedLaw
      ∧ ({ running with store := { running.store with closed := true } } : State).ClosedLaw := by
  refine ⟨fun i => ?_, fun h => (by cases h), fun _ i h => (by cases h)⟩
  have hn : running.store.entries.get i = none := by
    revert i
    decide
  rw [hn]
  revert i
  decide +kernel

theorem test_hypotheses_of_StepKeepsTheHorizonLaw : beforeMidnight.HorizonLaw := by
  refine ⟨⟨by decide, by decide, fun h => (by cases h)⟩, fun k x h => ?_⟩
  have hn : beforeMidnight.horizon.slots.get k = none := by
    clear h
    revert k
    decide
  rw [hn] at h
  cases h

theorem test_hypotheses_of_StepKeepsThePlacementLaw : running.PlacementLaw := by
  refine ⟨yard_disjoint, ⟨?_, ?_, ?_⟩, ?_, yard_indexed, ?_, ?_, ?_⟩
  · intro i p h
    obtain ⟨rfl, rfl⟩ := running_pile h
    decide +kernel
  · intro i c h
    rw [running_cannons] at h
    split at h
    · cases h
      decide +kernel
    · cases h
  · intro i e h
    rw [running_exclusion] at h
    cases h
  · intro i p h
    obtain ⟨rfl, rfl⟩ := running_pile h
    exact ⟨0, cannon0, by decide +kernel, by decide⟩
  · decide +kernel
  · intro k x h
    rw [running_staging] at h
    cases h
  · intro i n h
    have hn : running.store.entries.get i = none := by
      clear h
      revert i
      decide
    rw [hn] at h
    cases h

theorem test_hypotheses_of_StepKeepsTheUrgencyLaws : running.UrgencyLaw ∧ running.MustLaw := by
  have hl : ∀ i, (running.watch.living.get i).escalated = false
      ∧ (running.watch.living.get i).sweepDue = false
      ∧ (running.watch.living.get i).urgency = .none := by decide +kernel
  refine ⟨fun i => ⟨fun h => ?_, fun h => ?_⟩, by decide +kernel, fun i _ => (hl i).2.2⟩
  · rw [(hl i).1] at h
    cases h
  · rw [(hl i).2.1] at h
    cases h

theorem test_hypotheses_of_StepKeepsThePassLaws :
    running.QueueLaw ∧ running.ModeLaw ∧ running.MainLaw ∧ running.EngagedLaw
      ∧ running.ExclusionLaw := by
  refine ⟨⟨by decide, by decide, fun o h => (by cases h)⟩, ?_, ⟨?_, ?_, ?_⟩, ⟨?_, ?_, ?_, ?_⟩, ?_⟩
  · exact ⟨by decide +kernel, by decide +kernel⟩
  · intro m
    by_cases hm : m = 0
    · subst hm
      rw [running_mains, if_pos rfl]
      exact ⟨0, passR, rfl, by rw [running_contexts, if_pos rfl], rfl, rfl, rfl⟩
    · rw [running_mains, if_neg hm]
      exact ⟨rfl, rfl⟩
  · intro c p h _
    obtain ⟨rfl, rfl⟩ := running_pass h
    decide +kernel
  · intro c p h hp
    obtain ⟨rfl, rfl⟩ := running_pass h
    cases hp
  · intro c p h
    obtain ⟨rfl, rfl⟩ := running_pass h
    decide +kernel
  · intro c d p q hp hq _
    exact (running_pass hp).1.trans (running_pass hq).1.symm
  · intro i h
    have hi : i = 0 := by
      revert i
      decide +kernel
    exact ⟨0, passR, by rw [running_contexts, if_pos rfl], hi.symm⟩
  · intro i _
    rfl
  · intro c p x h hx
    obtain ⟨rfl, rfl⟩ := running_pass h
    obtain ⟨_, rfl⟩ := running_pile hx
    decide +kernel

theorem test_hypotheses_of_StepKeepsTheWaterLaws : running.WaterLaw := by
  refine ⟨⟨by decide +kernel, ?_⟩, ?_, by decide +kernel, ?_, ?_, ?_⟩
  · intro c p h
    obtain ⟨rfl, rfl⟩ := running_pass h
    decide +kernel
  · unfold Basin.Law
    decide +kernel
  · intro c p h
    obtain ⟨rfl, rfl⟩ := running_pass h
    exact ⟨by decide +kernel, by decide +kernel⟩
  · intro i c h
    rw [running_cannons] at h
    split at h
    · cases h
      decide
    · cases h
  · intro k x h
    rw [running_staging] at h
    cases h

theorem test_hypotheses_of_TransactionsRoundTrip :
    Instr.wellFormed (.gauge 4 60000 3) = true
      ∧ encodeTransaction (.gauge 4 60000 3) = some [0x41, 4, 0xEA, 0x60, 3] := by decide

/-- The running yard has a next state. -/
theorem test_running_steps : ∃ t, step running = .next t := ⟨_, rfl⟩

end Sys2Proof.Tests
end

/-! PROOFS. What RETIRE and the refused STAGE come to (08 R156, R160), class by class for the records of the
Forecast Horizon (02 R30, R36), and the statement about them. -/

namespace Sys2Proof.Machine

variable {s : State} {cls index buffer : Byte} {k : RecordClass}

/-! ## RETIRE of any class -/

/-- A RETIRE that the part accepts is taken whole (08 R148). -/
theorem exec_retire_of_accepts (h : s.Accepts) (cls index : Byte) :
    exec (.retire cls index) s
      = .next ((s.retire cls index).1.commandEnd Code.retire (s.retire cls index).2) :=
  congrArg Host.Outcome.next (State.hostCommand_of_accepts h Code.retire index _)

/-- A RETIRE whose work leaves `t` with the answer `a` ends with `t` and `a`. -/
theorem exec_retire_eq {t : State} {a : Answer} (h : s.Accepts) (ht : s.retire cls index = (t, a)) :
    exec (.retire cls index) s = .next (t.commandEnd Code.retire a) := by
  rw [exec_retire_of_accepts h, ht]

/-- An index beyond the class's last is refused RANGE with that index (08 R160). -/
theorem State.retire_of_size_le (hc : classOf cls = some k) (hr : k.retirable = true)
    (hi : k.size ≤ index.toNat) : s.retire cls index = (s, some (.range, index)) := by
  simp [State.retire, hc, hr, hi]

/-- A record that its class refuses to retire is left, and the triple shows the refusal. -/
theorem State.retire_of_refused {r : Result} (hc : classOf cls = some k) (hr : k.retirable = true)
    (hi : index.toNat < k.size) (h : s.retireRecord k index.toNat = .inl r) :
    s.retire cls index = (s, some (r, index)) := by
  simp [State.retire, hc, hr, hi, h]

/-- A record that its class retires leaves its class's state with DONE. -/
theorem State.retire_of_retired {t : State} (hc : classOf cls = some k) (hr : k.retirable = true)
    (hi : index.toNat < k.size) (h : s.retireRecord k index.toNat = .inr t) :
    s.retire cls index = (t, some (.done, index)) := by
  simp [State.retire, hc, hr, hi, h]

/-! ## STAGE of a class that is not staged -/

/-- A STAGE that the part accepts is taken whole (08 R148). -/
theorem exec_stage_of_accepts (h : s.Accepts) (buffer cls index : Byte) :
    exec (.stage buffer cls index) s
      = .next ((s.stage buffer cls index).1.commandEnd Code.stage (s.stage buffer cls index).2) :=
  congrArg Host.Outcome.next (State.hostCommand_of_accepts h Code.stage index _)

/-- STAGE of a class that is not edited through the buffers is refused RANGE, whatever the buffer: with index 0
where there is no such buffer, else with the index asked for (08 R156). -/
theorem State.stage_of_not_stagedClass (s : State) (buffer index : Byte) (hc : classOf cls = some k)
    (hk : k.stagedClass = false) :
    s.stage buffer cls index
      = (s, some (.range, if (index? 2 buffer).isSome = true then index else 0)) := by
  unfold State.stage
  cases index? 2 buffer with
  | none => rfl
  | some b => simp [hc, hk]

/-! ## The classes of the Forecast Horizon -/

/-- RETIRE finds no slot at an absent position (02 R30). -/
theorem State.retireRecord_slot_absent {i : Fin 36} (h : s.horizon.slots.get i = none) :
    s.retireRecord .slot i.val = .inl .noSuch := by
  simp [State.retireRecord, h]

/-- RETIRE takes away the slot at a present position (02 R30). -/
theorem State.retireRecord_slot_present {i : Fin 36} {x : Slot} (h : s.horizon.slots.get i = some x) :
    s.retireRecord .slot i.val = .inr (s.retireSlot i x) := by
  simp [State.retireRecord, h]

/-- A slot of the current hour leaves with a drift re-evaluation (02 R30, R41). -/
theorem State.retireSlot_of_current (s : State) (i : Fin 36) {x : Slot} (h : x.hour = s.clock.hour) :
    s.retireSlot i x
      = ({ s with horizon := { s.horizon with slots := s.horizon.slots.put i none } }
          : State).driftReevaluate :=
  if_pos h

/-- A slot of another hour leaves, and nothing else changes (02 R30). -/
theorem State.retireSlot_of_other (s : State) (i : Fin 36) {x : Slot} (h : x.hour ≠ s.clock.hour) :
    s.retireSlot i x
      = { s with horizon := { s.horizon with slots := s.horizon.slots.put i none } } :=
  if_neg h

/-- RETIRE finds no observation where none is held (02 R36). -/
theorem State.retireRecord_observation_absent (i : Nat) (h : s.horizon.observation = none) :
    s.retireRecord .observation i = .inl .noSuch := by
  simp [State.retireRecord, h]

/-- RETIRE takes away the observation that is held (02 R36). -/
theorem State.retireRecord_observation_present (i : Nat) {o : Observation}
    (h : s.horizon.observation = some o) :
    s.retireRecord .observation i = .inr (s.retireObservation o) := by
  simp [State.retireRecord, h]

/-- A Fresh observation leaves with its life timer and a drift re-evaluation (02 R36, R41). -/
theorem State.retireObservation_of_fresh (s : State) {o : Observation} (h : o.fresh = true) :
    s.retireObservation o
      = ({ s with horizon := { s.horizon with observation := none, life := none } }
          : State).driftReevaluate :=
  if_pos h

/-- An observation that is no longer Fresh leaves, and nothing else but its timer changes (02 R36). -/
theorem State.retireObservation_of_stale (s : State) {o : Observation} (h : o.fresh = false) :
    s.retireObservation o
      = { s with horizon := { s.horizon with observation := none, life := none } } :=
  if_neg (by simp [h])

/-! ## The commands -/

/-- Class byte 9 is SLOT (10, table 10.1). -/
theorem classOf_slot : classOf 9 = some .slot := rfl

/-- Class byte 10 is OBSERVATION (10, table 10.1). -/
theorem classOf_observation : classOf 10 = some .observation := rfl

/-- RETIRE of a present slot ends with the slot's leaving and DONE (02 R30). -/
theorem exec_retire_slot_present {position : Byte} {i : Fin 36} {x : Slot} (h : s.Accepts)
    (hp : position.toNat = i.val) (hx : s.horizon.slots.get i = some x) :
    exec (.retire 9 position) s
      = .next ((s.retireSlot i x).commandEnd Code.retire (some (.done, position))) :=
  exec_retire_eq h (State.retire_of_retired classOf_slot rfl (hp ▸ i.isLt)
    (hp ▸ State.retireRecord_slot_present hx))

/-- RETIRE of an absent position is refused NO_SUCH (02 R30). -/
theorem exec_retire_slot_absent {position : Byte} {i : Fin 36} (h : s.Accepts)
    (hp : position.toNat = i.val) (hx : s.horizon.slots.get i = none) :
    exec (.retire 9 position) s = .next (s.commandEnd Code.retire (some (.noSuch, position))) :=
  exec_retire_eq h (State.retire_of_refused classOf_slot rfl (hp ▸ i.isLt)
    (hp ▸ State.retireRecord_slot_absent hx))

/-- RETIRE of the observation that is held ends with its leaving and DONE (02 R36). -/
theorem exec_retire_observation_present {o : Observation} (h : s.Accepts)
    (ho : s.horizon.observation = some o) :
    exec (.retire 10 0) s
      = .next ((s.retireObservation o).commandEnd Code.retire (some (.done, 0))) :=
  exec_retire_eq h (State.retire_of_retired classOf_observation rfl (by decide)
    (State.retireRecord_observation_present _ ho))

/-- RETIRE of the observation where none is held is refused NO_SUCH (02 R36). -/
theorem exec_retire_observation_absent (h : s.Accepts) (ho : s.horizon.observation = none) :
    exec (.retire 10 0) s = .next (s.commandEnd Code.retire (some (.noSuch, 0))) :=
  exec_retire_eq h (State.retire_of_refused classOf_observation rfl (by decide)
    (State.retireRecord_observation_absent _ ho))

/-- The observation has index 0 alone (08 R154): any other is at or beyond its class's size. -/
theorem observation_size_le_of_ne_zero (h : index ≠ 0) : RecordClass.observation.size ≤ index.toNat :=
  Nat.one_le_iff_ne_zero.2 fun h0 => h (BitVec.eq_of_toNat_eq h0)

/-- Settles O26: the tests of RETIRE in order for each of the two classes, then the effect of the class; SLOT is
no staged class, so STAGE refuses it. -/
theorem retireSlotAndObservation : Obligations.RetireSlotAndObservation := by
  unfold Obligations.RetireSlotAndObservation
  refine ⟨fun s position buffer h => ⟨fun hp => ?_, fun i hi => ⟨fun hx => ?_, ?_⟩, ?_⟩,
    fun s index h => ⟨fun hi => ?_, fun ho => ?_, ?_⟩⟩
  · -- a position above 35
    exact exec_retire_eq h (State.retire_of_size_le classOf_slot rfl hp)
  · -- an absent position
    exact exec_retire_slot_absent h hi hx
  · -- a present slot
    rintro x t hx rfl
    rw [exec_retire_slot_present h hi hx]
    exact ⟨fun hh => by rw [State.retireSlot_of_current s i hh],
      fun hh => by rw [State.retireSlot_of_other s i hh]⟩
  · -- STAGE naming SLOT
    refine ⟨if (index? 2 buffer).isSome = true then position else 0, ?_⟩
    rw [exec_stage_of_accepts h, State.stage_of_not_stagedClass s buffer position classOf_slot rfl]
  · -- another index than the observation's
    exact exec_retire_eq h
      (State.retire_of_size_le classOf_observation rfl (observation_size_le_of_ne_zero hi))
  · -- no observation held
    exact exec_retire_observation_absent h ho
  · -- the observation held
    rintro o t ho rfl
    rw [exec_retire_observation_present h ho]
    exact ⟨fun hf => by rw [State.retireObservation_of_fresh s hf],
      fun hf => by rw [State.retireObservation_of_stale s hf]⟩

end Sys2Proof.Machine

/-! PROOFS. The Order Queue: the rank that an order's parts give it (05 R91), what the operations on one queued
order make of a queue in which its pile stands once (05 R89, R99, R100), and what WITHDRAW comes to (05 R97). -/

namespace Sys2Proof.Machine

/-! ## Ranks -/

/-- An operator part gives no more than HIGH does (05 R91). -/
theorem operatorRank_le_four (p : Option Priority) : (p.map Priority.rank).getD 0 ≤ 4 := by
  rcases p with _ | _ | _ <;> decide

/-- An operator part other than HIGH gives no more than NORMAL does (05 R91). -/
theorem operatorRank_le_two {p : Option Priority} (h : p ≠ some .high) :
    (p.map Priority.rank).getD 0 ≤ 2 := by
  rcases p with _ | _ | _
  case none => decide
  case some.normal => decide
  case some.high => exact absurd rfl h

/-- A watch part other than MUST gives no more than NEED does (05 R91). -/
theorem watchRank_le_three {w : Option Want} (h : w ≠ some .must) : (w.map Want.rank).getD 0 ≤ 3 := by
  rcases w with _ | _ | _ | _
  case none => decide
  case some.may => decide
  case some.need => decide
  case some.must => exact absurd rfl h

/-- A watch part below NEED gives no more than MAY does (05 R91). -/
theorem watchRank_le_one {w : Option Want} (hm : w ≠ some .must) (hn : w ≠ some .need) :
    (w.map Want.rank).getD 0 ≤ 1 := by
  rcases w with _ | _ | _ | _
  case none => decide
  case some.may => decide
  case some.need => exact absurd rfl hn
  case some.must => exact absurd rfl hm

/-- The watch part decides the rank where the operator part gives no more (05 R91). -/
theorem Order.rank_of_watch {o : Order} {w : Want} (hw : o.watch = some w)
    (h : (o.operator.map Priority.rank).getD 0 ≤ w.rank) : o.rank = w.rank := by
  rw [Order.rank, hw]
  exact max_eq_left h

/-- The operator part decides the rank where the watch part gives no more (05 R91). -/
theorem Order.rank_of_operator {o : Order} {p : Priority} (hp : o.operator = some p)
    (h : (o.watch.map Want.rank).getD 0 ≤ p.rank) : o.rank = p.rank := by
  rw [Order.rank, hp]
  exact max_eq_right h

/-- Settles O30: in each case the part named gives its rank and the other part is bounded by it. -/
theorem rankIsTheHighestOfTheParts : Obligations.RankIsTheHighestOfTheParts := by
  unfold Obligations.RankIsTheHighestOfTheParts
  rintro o r rfl
  refine ⟨fun hw => ?_, fun hw hp => ?_, fun hw hp => ?_, fun hm hn hp => ?_, fun hw hp => ?_,
    fun hw hp => ?_⟩
  · exact Order.rank_of_watch hw ((operatorRank_le_four _).trans (by decide))
  · exact Order.rank_of_operator hp ((watchRank_le_three hw).trans (by decide))
  · exact Order.rank_of_watch hw ((operatorRank_le_two hp).trans (by decide))
  · exact Order.rank_of_operator hp ((watchRank_le_one hm hn).trans (by decide))
  · exact Order.rank_of_watch hw (by rw [hp]; decide)
  · -- an absent part gives 0
    rw [Order.rank, hw, hp]
    rfl

/-! ## A byte parameter as an index -/

/-- A byte beyond the last record is no index (10 R174). -/
theorem index?_of_le {n : Nat} {b : Byte} (h : n ≤ b.toNat) : index? n b = none :=
  dif_neg (Nat.not_lt.2 h)

/-- A byte in range is the index it spells (10 R174). -/
theorem index?_of_toNat_eq {n : Nat} {b : Byte} {i : Fin n} (h : b.toNat = i.val) :
    index? n b = some i := by
  rw [index?, dif_pos (h ▸ i.isLt)]
  exact congrArg some (Fin.ext h)

/-! ## A queue in which the order's pile stands once (05 R89) -/

section OneOrder

variable {s : State} {i : Fin 48} {before after : List Order} {o : Order}

/-- A list of orders of other piles loses none with a pile's order. -/
theorem filter_pile_ne_eq_self {l : List Order} (h : ∀ y ∈ l, y.pile ≠ i) :
    l.filter (fun y => y.pile != i) = l :=
  List.filter_eq_self.2 fun y hy => bne_iff_ne.2 (h y hy)

/-- A list of orders of other piles is left by a change of a pile's order. -/
theorem map_pile_eq_self {l : List Order} (f : Order → Order) (h : ∀ y ∈ l, y.pile ≠ i) :
    l.map (fun y => if y.pile = i then f y else y) = l :=
  (List.map_congr_left fun y hy => if_neg (h y hy)).trans (List.map_id l)

/-- A pile for which no order stands in the queue has none. -/
theorem State.orderOf_of_forall_ne (h : ∀ x ∈ s.queue, x.pile ≠ i) : s.orderOf i = none :=
  List.find?_eq_none.2 fun x hx => by simpa using h x hx

/-- The pile's order is found where it stands. -/
theorem State.orderOf_of_queue (hq : s.queue = before ++ o :: after) (ho : o.pile = i)
    (hb : ∀ y ∈ before, y.pile ≠ i) : s.orderOf i = some o :=
  List.find?_eq_some_iff_append.2
    ⟨by simpa using ho, before, after, hq, fun y hy => by simpa using hb y hy⟩

/-- The pile's order leaves from where it stands, with Carried cleared (05 R99). -/
theorem State.dropOrder_of_queue (hq : s.queue = before ++ o :: after) (ho : o.pile = i)
    (hr : ∀ y ∈ before ++ after, y.pile ≠ i) :
    s.dropOrder i = { s with
      queue := before ++ after
      watch := { s.watch with
        living := s.watch.living.modify i fun l => { l with carried := false } } } := by
  have hf : s.queue.filter (fun y => y.pile != i) = before ++ after := by
    rw [hq, List.filter_append, List.filter_cons_of_neg (by simp [ho]), ← List.filter_append,
      filter_pile_ne_eq_self hr]
  rw [State.dropOrder, hf]
  rfl

/-- The pile's order is changed where it stands, and no other order is (05 R90). -/
theorem State.mapOrder_of_queue (f : Order → Order) (hq : s.queue = before ++ o :: after)
    (ho : o.pile = i) (hr : ∀ y ∈ before ++ after, y.pile ≠ i) :
    s.mapOrder i f = s.setQueue (before ++ f o :: after) := by
  obtain ⟨hb, ha⟩ := List.forall_mem_append.1 hr
  rw [State.mapOrder, hq, List.map_append, List.map_cons, if_pos ho, map_pile_eq_self f hb,
    map_pile_eq_self f ha]

/-- Attempts are asked for on a difference, and else nothing is (05 R100). -/
theorem State.askAllIf_bne (s : State) (a b : Nat) :
    s.askAllIf (a != b) = { s with
      engine := { s.engine with asked := if a ≠ b then Table.fill 4 true else s.engine.asked } } := by
  by_cases h : a = b
  · simp [State.askAllIf, h]
  · simp [State.askAllIf, State.askAll, h]

/-- A change of an order's parts or name stands where the order stood; attempts are asked for if its rank changed
(05 R90, R100). -/
theorem State.updateOrder_of_queue {x : Order} {f : Order → Order}
    (hq : s.queue = before ++ o :: after) (ho : o.pile = i)
    (hr : ∀ y ∈ before ++ after, y.pile ≠ i) (hx : f o = x) (hp : x.pile = o.pile) :
    s.updateOrder o f = { s with
      queue := before ++ x :: after
      engine := { s.engine with
        asked := if x.rank ≠ o.rank then Table.fill 4 true else s.engine.asked } } := by
  subst ho hx
  have hk : { f o with pile := o.pile } = f o := by rw [← hp]
  rw [State.updateOrder, State.mapOrder_of_queue _ hq rfl hr, hk, State.askAllIf_bne]
  rfl

end OneOrder

/-! ## WITHDRAW -/

section Withdraw

variable {s : State} {pile : Byte} {i : Fin 48} {o : Order}

/-- A WITHDRAW whose work leaves `t` with the answer `a` ends with `t` and `a` (08 R148). -/
theorem exec_withdraw_eq {t : State} {a : Answer} (h : s.Accepts) (ht : s.withdraw pile = (t, a)) :
    exec (.withdraw pile) s = .next (t.commandEnd Code.withdraw a) := by
  have he : exec (.withdraw pile) s
      = .next ((s.withdraw pile).1.commandEnd Code.withdraw (s.withdraw pile).2) :=
    congrArg Host.Outcome.next (State.hostCommand_of_accepts h Code.withdraw pile _)
  rw [he, ht]

/-- A pile beyond the last is out of range (05 R97). -/
theorem State.withdraw_of_le (h : 48 ≤ pile.toNat) : s.withdraw pile = (s, some (.range, 0)) := by
  rw [State.withdraw, index?_of_le h]

/-- A pile without an order has nothing to withdraw (05 R97). -/
theorem State.withdraw_of_no_order (hi : pile.toNat = i.val) (h : s.orderOf i = none) :
    s.withdraw pile = (s, some (.noSuch, pile)) := by
  simp only [State.withdraw, index?_of_toNat_eq hi, h]

/-- An order without an operator part has nothing to withdraw (05 R97). -/
theorem State.withdraw_of_no_operator (hi : pile.toNat = i.val) (h : s.orderOf i = some o)
    (hp : o.operator = none) : s.withdraw pile = (s, some (.noSuch, pile)) := by
  simp [State.withdraw, index?_of_toNat_eq hi, h, hp]

/-- The operator part of the pile's order is withdrawn (05 R97). -/
theorem State.withdraw_of_operator (hi : pile.toNat = i.val) (h : s.orderOf i = some o)
    (hp : o.operator.isSome = true) :
    s.withdraw pile = (s.withdrawOrder o, some (.done, pile)) := by
  have hn : o.operator ≠ none := Option.isSome_iff_ne_none.1 hp
  simp [State.withdraw, index?_of_toNat_eq hi, h, hn]

/-- With its only part an order leaves the queue (05 R97, R99). -/
theorem State.withdrawOrder_of_no_watch (h : o.watch = none) :
    s.withdrawOrder o = s.dropOrder o.pile :=
  if_pos (by simp [h])

/-- An order with a watch part stays, without its operator part and the named cannon (05 R97). -/
theorem State.withdrawOrder_of_watch (h : o.watch.isSome = true) :
    s.withdrawOrder o = s.updateOrder o fun x => { x with operator := none, named := none } :=
  if_neg (by simpa [Option.isSome_iff_ne_none] using h)

end Withdraw

/-- Settles O33: the tests of WITHDRAW in order, then the order's leaving or its change, where it stands. -/
theorem withdrawRemovesTheOperatorPart : Obligations.WithdrawRemovesTheOperatorPart := by
  unfold Obligations.WithdrawRemovesTheOperatorPart
  refine fun s pile h => ⟨fun hp => ?_, fun i hi => ⟨fun hn => ?_, fun before after o hq ho hr => ?_⟩⟩
  · -- a pile above 47
    exact exec_withdraw_eq h (State.withdraw_of_le hp)
  · -- no order
    exact exec_withdraw_eq h (State.withdraw_of_no_order hi (State.orderOf_of_forall_ne hn))
  · have hf : s.orderOf i = some o :=
      State.orderOf_of_queue hq ho fun y hy => hr y (List.mem_append_left _ hy)
    refine ⟨fun hp => ?_, fun hp hw => ?_, fun hp hw x hx => ?_⟩
    · -- no operator part
      exact exec_withdraw_eq h (State.withdraw_of_no_operator hi hf hp)
    · -- the operator part alone
      rw [exec_withdraw_eq h (State.withdraw_of_operator hi hf hp),
        State.withdrawOrder_of_no_watch hw, ho, State.dropOrder_of_queue hq ho hr]
    · -- an operator part and a watch part
      rw [exec_withdraw_eq h (State.withdraw_of_operator hi hf hp),
        State.withdrawOrder_of_watch hw, State.updateOrder_of_queue hq ho hr hx.symm (hx ▸ rfl)]

end Sys2Proof.Machine

/-! PROOFS. What ACKNOWLEDGE comes to (09 R168): the refusal of a mask beyond the nine kinds, and what a mask within
them does to the Notice Unit and, where it names SPILL, to the basins. -/

namespace Sys2Proof.Machine

section Acknowledge

variable {s : State} {mask : Word16}

/-! ## The parts of the work -/

/-- The flags of a word of the port are its bits (10 R173). -/
theorem get_flagsOf_toNat {n w : Nat} (v : BitVec w) (k : Fin n) :
    (flagsOf n v.toNat).get k = v.getLsbD k.val :=
  Table.get_tab _ k

/-- A kind is pending after an acknowledgement where it was pending and is not named (09 R168). -/
theorem Notices.acknowledge_pending_eq_true (n : Notices) (named : Table 9 Bool) (k : Fin 9) :
    (n.acknowledge named).pending.get k = true ↔ n.pending.get k = true ∧ named.get k = false := by
  simp [Notices.acknowledge]

/-- An acknowledgement changes what is pending and ALL_FAULTED, which MAIN_FAULT takes with it; the subjects stay
(09 R168). -/
theorem Notices.acknowledge_eq (n : Notices) (named : Table 9 Bool) :
    n.acknowledge named = { n with
      pending := (n.acknowledge named).pending
      allFaulted := n.allFaulted && !named.get 2 } :=
  rfl

/-- The basins after an acknowledgement that does or does not name SPILL. -/
def Water.basinsAcknowledged (w : Water) (spill : Bool) : Table 5 Basin :=
  Table.tab fun b => { w.basins.get b with spilled := if spill then 0 else (w.basins.get b).spilled }

/-- Without SPILL every basin stays as it is (09 R168). -/
theorem Water.basinsAcknowledged_false (w : Water) : w.basinsAcknowledged false = w.basins :=
  Table.ext_get fun b => Table.get_tab _ b

/-- Spilled is cleared where SPILL is named, and else nothing is (09 R168). -/
theorem State.clearSpilled_if_eq (s : State) (spill : Bool) :
    (if spill then s.clearSpilled else s)
      = { s with water := { s.water with basins := s.water.basinsAcknowledged spill } } := by
  cases spill with
  | true => rfl
  | false => rw [Water.basinsAcknowledged_false]; rfl

/-! ## The command -/

/-- A mask beyond the nine kinds is refused, and nothing changes (09 R168). -/
theorem State.acknowledge_of_le (h : 512 ≤ mask.toNat) : s.acknowledge mask = (s, some (.range, 0)) :=
  if_pos h

/-- A mask within the nine kinds clears what it names and is answered DONE (09 R168). -/
theorem State.acknowledge_of_lt (h : mask.toNat < 512) :
    s.acknowledge mask = ({ s with
      notices := s.notices.acknowledge (flagsOf 9 mask.toNat)
      water := { s.water with basins := s.water.basinsAcknowledged (mask.getLsbD 4) } },
      some (.done, 0)) := by
  have hspill : (flagsOf 9 mask.toNat).get NoticeKind.spill.place = mask.getLsbD 4 :=
    get_flagsOf_toNat mask _
  rw [State.acknowledge, if_neg (by omega)]
  simp only [hspill, State.clearSpilled_if_eq]

/-- An ACKNOWLEDGE whose work leaves `t` with the answer `a` ends with `t` and `a` (08 R148). -/
theorem exec_acknowledge_eq {t : State} {a : Answer} (h : s.Accepts) (ht : s.acknowledge mask = (t, a)) :
    exec (.acknowledge mask) s = .next (t.commandEnd Code.acknowledge a) := by
  have he : exec (.acknowledge mask) s
      = .next ((s.acknowledge mask).1.commandEnd Code.acknowledge (s.acknowledge mask).2) :=
    congrArg Host.Outcome.next (State.hostCommand_of_accepts h Code.acknowledge 0 _)
  rw [he, ht]

end Acknowledge

/-- Settles O48: the refusal, then the kinds left pending, the basins, and the state they make. -/
theorem acknowledgeClears : Obligations.AcknowledgeClears := by
  unfold Obligations.AcknowledgeClears
  refine fun s mask h => ⟨fun hm => exec_acknowledge_eq h (State.acknowledge_of_le hm), fun hm =>
    ⟨(s.notices.acknowledge (flagsOf 9 mask.toNat)).pending,
      s.water.basinsAcknowledged (mask.getLsbD 4), fun k => ?_, fun b => ?_, ?_⟩⟩
  · -- the kinds left pending
    rw [Notices.acknowledge_pending_eq_true, get_flagsOf_toNat]
  · -- the basins
    exact Table.get_tab _ b
  · -- the whole state
    have hfault : (flagsOf 9 mask.toNat).get 2 = mask.getLsbD 2 := get_flagsOf_toNat mask _
    rw [exec_acknowledge_eq h (State.acknowledge_of_lt hm), Notices.acknowledge_eq, hfault]

end Sys2Proof.Machine

/-! PROOFS. A step of any command ends in a next state, and the transaction of a well-formed command spells it. -/

namespace Sys2Proof.Machine

/-! ## Every command ends in a next state -/

/-- No meaning stops the part: `exec` answers with a next state (08 section 8.2). -/
theorem exec_total (c : Instr) (s : State) : ∃ t, exec c s = .next t := by
  cases c <;> exact ⟨_, rfl⟩

/-- Settles O1: the front command is taken whole, and each of the meanings is a next state. -/
theorem stepRunsTheFrontCommand : Obligations.StepRunsTheFrontCommand := by
  unfold Obligations.StepRunsTheFrontCommand
  exact ⟨fun _ _ _ => rfl, exec_total⟩

end Sys2Proof.Machine

namespace Sys2Proof

/-- Settles O53: each command has its own lemma in `Laws.RoundTrip`. -/
theorem transactionsRoundTrip : Obligations.TransactionsRoundTrip := by
  unfold Obligations.TransactionsRoundTrip
  intro i
  have h : Laws.RoundTrip.Statement i := by
    cases i with
    | status c => exact Laws.RoundTrip.status c
    | look k i c => exact Laws.RoundTrip.look k i c
    | locate b y c => exact Laws.RoundTrip.locate b y c
    | notices c => exact Laws.RoundTrip.notices c
    | ident c => exact Laws.RoundTrip.ident c
    | stage b k i => exact Laws.RoundTrip.stage b k i
    | fill b d => exact Laws.RoundTrip.fill b d
    | matchBuffer b => exact Laws.RoundTrip.matchBuffer b
    | commit b => exact Laws.RoundTrip.commit b
    | retire k i => exact Laws.RoundTrip.retire k i
    | clockHold => exact Laws.RoundTrip.clockHold
    | clockSet d n => exact Laws.RoundTrip.clockSet d n
    | clockRun => exact Laws.RoundTrip.clockRun
    | forecast h n k m g u t r => exact Laws.RoundTrip.forecast h n k m g u t r
    | observe v g k u => exact Laws.RoundTrip.observe v g k u
    | order p r k => exact Laws.RoundTrip.order p r k
    | withdraw p => exact Laws.RoundTrip.withdraw p
    | inflow x v k => exact Laws.RoundTrip.inflow x v k
    | gauge x v k => exact Laws.RoundTrip.gauge x v k
    | isolate x => exact Laws.RoundTrip.isolate x
    | restore x => exact Laws.RoundTrip.restore x
    | clear m => exact Laws.RoundTrip.clear m
    | hold => exact Laws.RoundTrip.hold
    | drain => exact Laws.RoundTrip.drain
    | resume => exact Laws.RoundTrip.resume
    | acknowledge w => exact Laws.RoundTrip.acknowledge w
    | fix e => exact Laws.RoundTrip.fix e
    | close => exact Laws.RoundTrip.close
    | tag d => exact Laws.RoundTrip.tag d
    | reset => exact Laws.RoundTrip.reset
    | unknownCommand c => exact Laws.RoundTrip.unknownCommand c
    | shortParameterDeselect c d => exact Laws.RoundTrip.shortParameterDeselect c d
    | transactionTimeout d => exact Laws.RoundTrip.transactionTimeout d
    | fixWriteEnd => exact Laws.RoundTrip.fixWriteEnd
    | closeWriteEnd => exact Laws.RoundTrip.closeWriteEnd
    | tagWriteEnd => exact Laws.RoundTrip.tagWriteEnd
    | powerOn => exact Laws.RoundTrip.powerOn
    | resetLine => exact Laws.RoundTrip.resetLine
    | initialisationEnd => exact Laws.RoundTrip.initialisationEnd
    | yardClockAdvance => exact Laws.RoundTrip.yardClockAdvance
    | assessment => exact Laws.RoundTrip.assessment
    | hourRollover => exact Laws.RoundTrip.hourRollover
    | dayRollover => exact Laws.RoundTrip.dayRollover
    | observationLifeExpiry => exact Laws.RoundTrip.observationLifeExpiry
    | settleTimerExpiry b => exact Laws.RoundTrip.settleTimerExpiry b
    | primeTimerExpiry c => exact Laws.RoundTrip.primeTimerExpiry c
    | bayDwellExpiry c => exact Laws.RoundTrip.bayDwellExpiry c
    | suspensionLimitExpiry c => exact Laws.RoundTrip.suspensionLimitExpiry c
    | drainTimerExpiry m => exact Laws.RoundTrip.drainTimerExpiry m
    | rawLineChange i b => exact Laws.RoundTrip.rawLineChange i b
    | qualifyingTimerExpiry i => exact Laws.RoundTrip.qualifyingTimerExpiry i
    | reTakeTimerExpiry i => exact Laws.RoundTrip.reTakeTimerExpiry i
    | resetLineRelease => exact Laws.RoundTrip.resetLineRelease
    | powerLoss => exact Laws.RoundTrip.powerLoss
  exact fun bytes hw => h hw bytes

end Sys2Proof

/-! PROOFS. What the operations of one block leave of the others: Pile Watch and the Order Queue write the living
parts, the counts of Pile Watch and the queue; the Water Table writes the sources; both raise notices and ask for
attempts, and neither touches anything else. -/

namespace Sys2Proof.Machine

variable (s : State)

/-! ## Pile Watch and the Order Queue -/

/-- The state with all that Pile Watch and the Order Queue write made blank. -/
def State.beyondWatch : State :=
  { s with
    watch := { s.watch with
      living := Table.fill 48 Living.blank, passCount := Table.fill 8 0, mustCount := 0 }
    queue := []
    engine := { s.engine with asked := Table.fill 4 false }
    notices := { s.notices with pending := Table.fill 9 false, subjects := Table.fill 9 0 } }

section

variable {s} {t : State}

/-- What stands beyond Pile Watch and the Order Queue, field by field. -/
theorem State.beyondWatch_fields (h : t.beyondWatch = s.beyondWatch) :
    t.engine.mains = s.engine.mains ∧ t.engine.contexts = s.engine.contexts ∧ t.water = s.water
      ∧ t.control = s.control ∧ t.field = s.field :=
  ⟨congrArg (·.engine.mains) h, congrArg (·.engine.contexts) h, congrArg (·.water) h,
    congrArg (·.control) h, congrArg (·.field) h⟩

end

@[simp] theorem State.mapLiving_beyondWatch (i : Fin 48) (f : Living → Living) :
    (s.mapLiving i f).beyondWatch = s.beyondWatch := rfl
@[simp] theorem State.setQueue_beyondWatch (q : List Order) :
    (s.setQueue q).beyondWatch = s.beyondWatch := rfl
@[simp] theorem State.raise_beyondWatch (k : NoticeKind) (n : Nat) :
    (s.raise k n).beyondWatch = s.beyondWatch := rfl
@[simp] theorem State.askAll_beyondWatch : s.askAll.beyondWatch = s.beyondWatch := rfl

@[simp] theorem State.askAllIf_beyondWatch (b : Bool) : (s.askAllIf b).beyondWatch = s.beyondWatch := by
  cases b <;> rfl

@[simp] theorem State.dropOrder_beyondWatch (i : Fin 48) :
    (s.dropOrder i).beyondWatch = s.beyondWatch := rfl

@[simp] theorem State.updateOrder_beyondWatch (o : Order) (f : Order → Order) :
    (s.updateOrder o f).beyondWatch = s.beyondWatch :=
  State.askAllIf_beyondWatch _ _

@[simp] theorem State.appendOrder_beyondWatch (o : Order) :
    (s.appendOrder o).beyondWatch = s.beyondWatch := rfl

theorem State.join_beyondWatch {s t : State} {o : Order} (h : s.join o = some t) :
    t.beyondWatch = s.beyondWatch := by
  unfold State.join at h
  split at h
  · cases h
    simp
  · split at h
    · cases h
      simp
    · cases h

@[simp] theorem State.offer_beyondWatch (i : Fin 48) (u : Urgency) :
    (s.offer i u).beyondWatch = s.beyondWatch := by
  unfold State.offer
  split
  · simp
  · split
    · rfl
    · split <;> simp
  · rfl
  · split
    · next h => exact State.join_beyondWatch h
    · rfl

@[simp] theorem State.mergeOrder_beyondWatch (o : Order) (r : Priority) (n : Option (Fin 24)) :
    (s.mergeOrder o r n).beyondWatch = s.beyondWatch := by
  simp [State.mergeOrder]

@[simp] theorem State.withdrawOrder_beyondWatch (o : Order) :
    (s.withdrawOrder o).beyondWatch = s.beyondWatch := by
  unfold State.withdrawOrder
  split <;> simp

@[simp] theorem State.clearNames_beyondWatch (p : Order → Bool) :
    (s.clearNames p).beyondWatch = s.beyondWatch := rfl

@[simp] theorem State.emptyQueue_beyondWatch : s.emptyQueue.beyondWatch = s.beyondWatch :=
  s.forEach_keeps State.beyondWatch _ _ fun t i => t.dropOrder_beyondWatch i

@[simp] theorem State.countMust_beyondWatch (i : Fin 48) (a b : Urgency) :
    (s.countMust i a b).beyondWatch = s.beyondWatch := by
  unfold State.countMust
  dsimp only
  repeat' split
  all_goals rfl

@[simp] theorem State.offerRule_beyondWatch (i : Fin 48) :
    (s.offerRule i).beyondWatch = s.beyondWatch := by
  unfold State.offerRule
  repeat' split
  all_goals simp

@[simp] theorem State.evaluate_beyondWatch (i : Fin 48) (w : WindBasis) (a b : Bool) :
    (s.evaluate i w a b).beyondWatch = s.beyondWatch := by
  unfold State.evaluate
  dsimp only
  repeat' split
  all_goals simp

@[simp] theorem State.reevaluate_beyondWatch (i : Fin 48) (b : Bool) :
    (s.reevaluate i b).beyondWatch = s.beyondWatch :=
  State.evaluate_beyondWatch _ _ _ _ _

@[simp] theorem State.reevaluateWhere_beyondWatch (p : Pile → Bool) :
    (s.reevaluateWhere p).beyondWatch = s.beyondWatch := by
  refine s.forEach_keeps State.beyondWatch _ _ fun t i => ?_
  repeat' split
  all_goals simp

@[simp] theorem State.assessPile_beyondWatch (w : WindBasis) (r : Bool) (i : Fin 48) :
    (s.assessPile w r i).beyondWatch = s.beyondWatch := by
  unfold State.assessPile
  dsimp only
  split <;> simp

@[simp] theorem State.assess_beyondWatch (t : Stamp) : (s.assess t).beyondWatch = s.beyondWatch :=
  s.forEach_keeps State.beyondWatch _ _ fun u i => u.assessPile_beyondWatch _ _ i

@[simp] theorem State.creditPass_beyondWatch (r : EndReport) (b : Fin 8) :
    (s.creditPass r b).beyondWatch = s.beyondWatch := rfl

@[simp] theorem State.markSweepDue_beyondWatch (i : Fin 48) :
    (s.markSweepDue i).beyondWatch = s.beyondWatch :=
  State.offerRule_beyondWatch _ _

@[simp] theorem State.sweepTest_beyondWatch (b : Fin 8) (i : Fin 48) :
    (s.sweepTest b i).beyondWatch = s.beyondWatch := by
  refine s.forEach_keeps State.beyondWatch _ _ fun t i => ?_
  repeat' split
  all_goals simp

@[simp] theorem State.takeEndReport_beyondWatch (r : EndReport) (b : Bool) :
    (s.takeEndReport r b).beyondWatch = s.beyondWatch := by
  unfold State.takeEndReport
  dsimp only
  repeat' split
  all_goals simp

@[simp] theorem State.recordReasons_beyondWatch (m : Fin 4) :
    (s.recordReasons m).beyondWatch = s.beyondWatch := by
  unfold State.recordReasons
  rw [State.forEach_keeps _ State.beyondWatch _ _ fun t o => t.raise_beyondWatch _ _]
  rfl

@[simp] theorem State.takeOrder_beyondWatch (i : Fin 48) :
    (s.takeOrder i).beyondWatch = s.beyondWatch := rfl

@[simp] theorem State.discardMust_beyondWatch (i : Fin 48) :
    (s.discardMust i).beyondWatch = s.beyondWatch :=
  State.countMust_beyondWatch _ _ _ _

/-! ## The Water Table -/

/-- The state with all that the Water Table writes made blank. -/
def State.beyondWater : State :=
  { s with
    water := { basins := Table.fill 5 Basin.reset, fresh := Fresh.reset }
    engine := { s.engine with asked := Table.fill 4 false }
    notices := { s.notices with pending := Table.fill 9 false, subjects := Table.fill 9 0 } }

section

variable {s} {t : State}

/-- What stands beyond the Water Table, field by field. -/
theorem State.beyondWater_fields (h : t.beyondWater = s.beyondWater) :
    t.engine.mains = s.engine.mains ∧ t.engine.contexts = s.engine.contexts ∧ t.watch = s.watch
      ∧ t.queue = s.queue ∧ t.control = s.control ∧ t.field = s.field :=
  ⟨congrArg (·.engine.mains) h, congrArg (·.engine.contexts) h, congrArg (·.watch) h,
    congrArg (·.queue) h, congrArg (·.control) h, congrArg (·.field) h⟩

end

@[simp] theorem State.mapBasin_beyondWater (b : Fin 5) (f : Basin → Basin) :
    (s.mapBasin b f).beyondWater = s.beyondWater := rfl
@[simp] theorem State.mapFresh_beyondWater (f : Fresh → Fresh) :
    (s.mapFresh f).beyondWater = s.beyondWater := rfl
@[simp] theorem State.raise_beyondWater (k : NoticeKind) (n : Nat) :
    (s.raise k n).beyondWater = s.beyondWater := rfl

@[simp] theorem State.askAllIf_beyondWater (b : Bool) : (s.askAllIf b).beyondWater = s.beyondWater := by
  cases b <;> rfl

@[simp] theorem State.lowTest_beyondWater (b : Fin 5) : (s.lowTest b).beyondWater = s.beyondWater := by
  unfold State.lowTest
  dsimp only
  split <;> simp

@[simp] theorem State.addLevel_beyondWater (b : Fin 5) (v : Nat) :
    (s.addLevel b v).beyondWater = s.beyondWater := by
  unfold State.addLevel
  dsimp only
  split <;> simp

@[simp] theorem State.mapReserved_beyondWater (x : Fin 6) (f : Nat → Nat) :
    (s.mapReserved x f).beyondWater = s.beyondWater := by
  unfold State.mapReserved
  split <;> rfl

@[simp] theorem State.reserve_beyondWater (x : Fin 6) (v : Nat) :
    (s.reserve x v).beyondWater = s.beyondWater :=
  State.mapReserved_beyondWater _ _ _

@[simp] theorem State.deduct_beyondWater (x : Fin 6) (d : Nat) :
    (s.deduct x d).beyondWater = s.beyondWater := by
  unfold State.deduct
  split <;> rfl

@[simp] theorem State.release_beyondWater (x : Fin 6) (v : Nat) :
    (s.release x v).beyondWater = s.beyondWater := by
  simp [State.release]

@[simp] theorem State.lowTestUnless_beyondWater (e : Option (Fin 5)) (x : Fin 6) :
    (s.lowTestUnless e x).beyondWater = s.beyondWater := by
  unfold State.lowTestUnless
  split
  · split <;> simp
  · rfl

@[simp] theorem State.addRunoff_beyondWater (b : Fin 5) (v : Nat) :
    (s.addRunoff b v).beyondWater = s.beyondWater := by
  simp [State.addRunoff]

@[simp] theorem State.settle_beyondWater (e : Option (Fin 5)) (p : Pass) (v : Nat) :
    (s.settle e p v).beyondWater = s.beyondWater := by
  unfold State.settle
  dsimp only
  split
  · split <;> simp
  · split <;> simp

@[simp] theorem State.reportRise_beyondWater (b : Fin 5) (x : Basin) :
    (s.reportRise b x).beyondWater = s.beyondWater :=
  State.askAllIf_beyondWater _ _

@[simp] theorem State.reportReady_beyondWater (b : Fin 5) (x : Basin) :
    (s.reportReady b x).beyondWater = s.beyondWater :=
  State.askAllIf_beyondWater _ _

@[simp] theorem State.setIsolated_beyondWater (x : Fin 6) (v : Bool) :
    (s.setIsolated x v).beyondWater = s.beyondWater := by
  unfold State.setIsolated
  split <;> rfl

@[simp] theorem State.takeInflow_beyondWater (b : Fin 5) (v : Nat) (turbid : Bool) :
    (s.takeInflow b v turbid).beyondWater = s.beyondWater := by
  unfold State.takeInflow
  dsimp only
  split <;> simp

@[simp] theorem State.restoreSource_beyondWater (x : Fin 6) :
    (s.restoreSource x).beyondWater = s.beyondWater := by
  simp [State.restoreSource]

@[simp] theorem State.settled_beyondWater (b : Fin 5) : (s.settled b).beyondWater = s.beyondWater := by
  simp [State.settled]

@[simp] theorem State.rolloverDay_beyondWater : s.rolloverDay.beyondWater = s.beyondWater := by
  simp [State.rolloverDay]

/-! ## The mains and the contexts -/

@[simp] theorem State.askAllIf_mains (b : Bool) : (s.askAllIf b).engine.mains = s.engine.mains := by
  cases b <;> rfl

@[simp] theorem State.askAllIf_contexts (b : Bool) :
    (s.askAllIf b).engine.contexts = s.engine.contexts := by
  cases b <;> rfl

@[simp] theorem State.takeEndReport_mains (r : EndReport) (b : Bool) :
    (s.takeEndReport r b).engine.mains = s.engine.mains :=
  (State.beyondWatch_fields (s.takeEndReport_beyondWatch r b)).1

@[simp] theorem State.takeEndReport_contexts (r : EndReport) (b : Bool) :
    (s.takeEndReport r b).engine.contexts = s.engine.contexts :=
  (State.beyondWatch_fields (s.takeEndReport_beyondWatch r b)).2.1

@[simp] theorem State.settle_mains (e : Option (Fin 5)) (p : Pass) (v : Nat) :
    (s.settle e p v).engine.mains = s.engine.mains :=
  (State.beyondWater_fields (s.settle_beyondWater e p v)).1

@[simp] theorem State.settle_contexts (e : Option (Fin 5)) (p : Pass) (v : Nat) :
    (s.settle e p v).engine.contexts = s.engine.contexts :=
  (State.beyondWater_fields (s.settle_beyondWater e p v)).2.1

@[simp] theorem State.faultMain_mains (m : Fin 4) (cause : FaultCause) :
    (s.faultMain m cause).engine.mains
      = s.engine.mains.modify m fun x => { x.shut .faulted with fault := some cause } := rfl

@[simp] theorem State.faultMain_contexts (m : Fin 4) (cause : FaultCause) :
    (s.faultMain m cause).engine.contexts = s.engine.contexts := rfl

@[simp] theorem State.recordEnd_engine (i : Fin 48) (e : PassEnd) :
    (s.recordEnd i e).engine = s.engine := rfl

@[simp] theorem State.mainAfterEnd_contexts (p : Pass) (e : PassEnd) :
    (s.mainAfterEnd p e).engine.contexts = s.engine.contexts := by
  unfold State.mainAfterEnd
  repeat' split
  all_goals rfl

/-- A FREE context has no pass to end (06 R129). -/
theorem State.endPass_of_free {s : State} {c : Fin 8} (h : s.engine.contexts.get c = none)
    (x : Option (Fin 5)) (e : PassEnd) (b : Bool) : s.endPass x c e b = s := by
  simp only [State.endPass, h]

/-- The steps of a pass end in their order (06 R127). -/
theorem State.endPass_of_live {s : State} {c : Fin 8} {p : Pass} (h : s.engine.contexts.get c = some p)
    (x : Option (Fin 5)) (e : PassEnd) (b : Bool) :
    s.endPass x c e b =
      (((((s.settle x p (p.finalDelivered e)).mainAfterEnd p e).setContext c none).takeEndReport
        (p.report e (p.finalDelivered e)) b).recordEnd p.pile e).askAll.follow := by
  simp only [State.endPass, h]

/-- After its end the context is FREE, and no other context has changed. -/
@[simp] theorem State.endPass_contexts (x : Option (Fin 5)) (c : Fin 8) (e : PassEnd) (b : Bool) :
    (s.endPass x c e b).engine.contexts = s.engine.contexts.put c none := by
  cases h : s.engine.contexts.get c with
  | none => rw [State.endPass_of_free h, ← h, Table.put_get_self]
  | some p => simp [State.endPass_of_live h]

/-- The mains after a pass end are those its main's rule leaves (06 R128). -/
theorem State.endPass_mains {s : State} {c : Fin 8} {p : Pass} (h : s.engine.contexts.get c = some p)
    (x : Option (Fin 5)) (e : PassEnd) (b : Bool) :
    (s.endPass x c e b).engine.mains
      = ((s.settle x p (p.finalDelivered e)).mainAfterEnd p e).engine.mains := by
  simp [State.endPass_of_live h]

end Sys2Proof.Machine

/-! PROOFS. The dispatch attempts of an event come to an end: each uses up one mark, and asks for more only where a
stray flow takes a main out of service for good (06 R110, R116). -/

namespace Sys2Proof.Machine

variable {s : State} {x : Option (Fin 5)} {m : Fin 4} {c : Fin 8} {p : Pass}

/-! ## What a prime leaves -/

/-- The state in which a prime finds the flow confirm line (06 R115 step 4). -/
def State.selected (s : State) (c : Fin 8) (p : Pass) : State :=
  (s.mapMain p.main fun y => { y with openSource := some p.source }).setContext c
    (some { p with prime := s.primeKind p.main p.source })

/-- A stray flow ends the pass that would prime (06 R116). -/
theorem State.prime_of_flow (h : s.flowActive p.main = true) (x : Option (Fin 5)) (c : Fin 8) :
    s.prime x c p = (s.selected c p).follow.endPass x c (.noFlow .stray) true :=
  if_pos h

/-- The main primes for the pass (06 R115 step 5). -/
theorem State.prime_of_quiet (h : s.flowActive p.main = false) (x : Option (Fin 5)) (c : Fin 8) :
    s.prime x c p =
      (((s.selected c p).mapMain p.main fun y => { y with state := .priming, context := some c }).setContext c
        (some { p with
          prime := s.primeKind p.main p.source, state := .priming
          primeTimer := some ((s.engine.mains.get p.main).primeTime
            (s.primeKind p.main p.source)) })).follow :=
  if_neg (show ¬ s.flowActive p.main = true by simp [h])

/-- A prime moves no main but the pass's. That main primes, with nothing more asked for, or is FAULTED. -/
theorem State.prime_mains (s : State) (x : Option (Fin 5)) (c : Fin 8) (p : Pass) :
    ((s.prime x c p).engine.asked = s.engine.asked
      ∧ (s.prime x c p).engine.mains = s.engine.mains.modify p.main fun y =>
          { y with openSource := some p.source, state := .priming, context := some c })
    ∨ (s.prime x c p).engine.mains = s.engine.mains.modify p.main fun y =>
        { y.shut .faulted with fault := some .stray } := by
  cases h : s.flowActive p.main with
  | false =>
    refine .inl ?_
    rw [State.prime_of_quiet h]
    exact ⟨rfl, by simp [State.selected, Table.modify]⟩
  | true =>
    have hc : (s.selected c p).follow.engine.contexts.get c
        = some { p with prime := s.primeKind p.main p.source } := by
      simp [State.selected]
    refine .inr ?_
    rw [State.prime_of_flow h, State.endPass_mains hc]
    simp [State.mainAfterEnd, State.selected, Table.modify, Main.shut]

/-! ## The steps before a prime -/

@[simp] theorem State.recordReasons_engine (s : State) (m : Fin 4) :
    (s.recordReasons m).engine = s.engine := by
  unfold State.recordReasons
  rw [State.forEach_keeps _ (·.engine) _ _ fun t o => t.raise_engine _ _]
  rfl

@[simp] theorem State.takeOrder_engine (s : State) (i : Fin 48) : (s.takeOrder i).engine = s.engine := rfl

@[simp] theorem State.mapReserved_engine (s : State) (x : Fin 6) (f : Nat → Nat) :
    (s.mapReserved x f).engine = s.engine := by
  unfold State.mapReserved
  split <;> rfl

@[simp] theorem State.reserve_engine (s : State) (x : Fin 6) (v : Nat) :
    (s.reserve x v).engine = s.engine :=
  State.mapReserved_engine _ _ _

/-- What the search for a resumable pass finds is one, on that main (06 R111 step 1). -/
theorem State.firstResumable_spec (h : s.firstResumable m = some (c, p)) :
    s.engine.contexts.get c = some p ∧ p.resumable = true ∧ p.main = m := by
  have key : ∀ y, s.firstResumable m = some y →
      s.engine.contexts.get y.1 = some y.2 ∧ y.2.resumable = true ∧ y.2.main = m := by
    unfold State.firstResumable
    refine List.foldlRecOn (motive := fun b : Option (Fin 8 × Pass) => ∀ y, b = some y →
      s.engine.contexts.get y.1 = some y.2 ∧ y.2.resumable = true ∧ y.2.main = m) _ _ (by simp) ?_
    intro best hb d _ y hy
    split at hy
    · exact hb y hy
    · next q hq =>
      split at hy
      · next hr =>
        obtain ⟨hr, hm⟩ : q.resumable = true ∧ q.main = m := by simpa using hr
        split at hy
        · split at hy
          · cases hy
            exact ⟨hq, hr, hm⟩
          · exact hb y hy
        · cases hy
          exact ⟨hq, hr, hm⟩
      · exact hb y hy
  exact key (c, p) h

/-- A start primes a new pass of its main, or, where its pile or cannon is absent, does nothing (06 R115). -/
theorem State.startPass_cases (s : State) (x : Option (Fin 5)) (c : Fin 8) (m : Fin 4) (k : Candidate) :
    s.startPass x c m k = s ∨ ∃ p q, s.geometry.piles.get k.order.pile = some p
      ∧ s.geometry.cannons.get k.cannon = some q
      ∧ s.startPass x c m k = (s.reserve k.source (q.plannedVolume s.geometry p)).prime x c
          (newPass s.geometry k.order.pile p k.cannon q m k.source (s.water.clarity k.source)) := by
  unfold State.startPass
  split
  · next p q hp hq => exact .inr ⟨p, q, hp, hq, rfl⟩
  · exact .inl rfl

/-- An available main is CLOSED or OPEN, in an ACTIVE yard (06 R107). -/
theorem State.available_eq_true : s.available m = true ↔ s.control.mode = .active
    ∧ ((s.engine.mains.get m).state = .closed ∨ (s.engine.mains.get m).state = .opened) := by
  simp [State.available]

/-- What an attempt on an available main comes to: a resume, nothing where no context is FREE, or a request
(06 R111). -/
theorem State.attempt_cases (h : s.available m = true) (x : Option (Fin 5)) :
    (∃ c p, s.firstResumable m = some (c, p) ∧ s.attempt x m = s.resumePass x c p)
    ∨ s.attempt x m = s
    ∨ ∃ c, s.freeContext = some c ∧ s.attempt x m = s.requestAndStart x m c := by
  simp only [State.attempt, h, if_true]
  split
  · next c p hf => exact .inl ⟨c, p, hf, rfl⟩
  · split
    · exact .inr (.inl rfl)
    · next c hc => exact .inr (.inr ⟨c, hc, rfl⟩)

/-- What a request comes to: reasons recorded, and a start where one was selected (06 R111 steps 3, 4). -/
theorem State.requestAndStart_cases (s : State) (x : Option (Fin 5)) (m : Fin 4) (c : Fin 8) :
    s.requestAndStart x m c = s.recordReasons m
    ∨ ∃ k, selectCandidate (s.candidates m) (s.engine.mains.get m).openSource = some k
        ∧ s.requestAndStart x m c = ((s.recordReasons m).takeOrder k.order.pile).startPass x c m k := by
  unfold State.requestAndStart
  split
  · exact .inl rfl
  · next k hk => exact .inr ⟨k, hk, rfl⟩

/-! ## How many attempts are left -/

/-- An attempt on an available main leaves the other mains; it leaves its own in service with nothing more asked
for, or FAULTED. -/
theorem State.attempt_mains (h : s.available m = true) (x : Option (Fin 5)) :
    (∀ k, k ≠ m → (s.attempt x m).engine.mains.get k = s.engine.mains.get k)
    ∧ (((s.attempt x m).engine.asked = s.engine.asked
        ∧ ((s.attempt x m).engine.mains.get m).state ≠ .faulted)
      ∨ ((s.attempt x m).engine.mains.get m).state = .faulted) := by
  have hm : (s.engine.mains.get m).state ≠ .faulted := by
    obtain ⟨-, h | h⟩ := State.available_eq_true.1 h <;> simp [h]
  have ofPrime : ∀ (t : State) (d : Fin 8) (q : Pass), t.engine = s.engine → q.main = m →
      (∀ k, k ≠ m → (t.prime x d q).engine.mains.get k = s.engine.mains.get k)
      ∧ (((t.prime x d q).engine.asked = s.engine.asked
          ∧ ((t.prime x d q).engine.mains.get m).state ≠ .faulted)
        ∨ ((t.prime x d q).engine.mains.get m).state = .faulted) := by
    rintro t d q ht rfl
    obtain ⟨ha, hs⟩ | hs := t.prime_mains x d q
    · exact ⟨fun k hk => by simp [hs, ht, hk.symm], .inl ⟨by rw [ha, ht], by simp [hs]⟩⟩
    · exact ⟨fun k hk => by simp [hs, ht, hk.symm], .inr (by simp [hs, Main.shut])⟩
  obtain ⟨c, p, hf, ha⟩ | ha | ⟨c, -, ha⟩ := State.attempt_cases h x
  · rw [ha]
    exact ofPrime s c _ rfl (State.firstResumable_spec hf).2.2
  · rw [ha]
    exact ⟨fun _ _ => rfl, .inl ⟨rfl, hm⟩⟩
  · obtain hr | ⟨k, -, hr⟩ := s.requestAndStart_cases x m c
    · rw [ha, hr]
      exact ⟨fun _ _ => by simp, .inl ⟨by simp, by simpa using hm⟩⟩
    · obtain hs | ⟨p, q, -, -, hs⟩ := ((s.recordReasons m).takeOrder k.order.pile).startPass_cases x c m k
      · rw [ha, hr, hs]
        exact ⟨fun _ _ => by simp, .inl ⟨by simp, by simpa using hm⟩⟩
      · rw [ha, hr, hs]
        exact ofPrime _ c _ (by simp) rfl

/-- The mains that are not FAULTED. -/
def Engine.inService (e : Engine) : Finset (Fin 4) :=
  Finset.univ.filter fun m => (e.mains.get m).state ≠ .faulted

/-- The mains on which an attempt is asked for. -/
def Engine.marks (e : Engine) : Finset (Fin 4) := Finset.univ.filter fun m => e.asked.get m = true

@[simp] theorem Engine.mem_inService (e : Engine) (m : Fin 4) :
    m ∈ e.inService ↔ (e.mains.get m).state ≠ .faulted := by
  simp [Engine.inService]

@[simp] theorem Engine.mem_marks (e : Engine) (m : Fin 4) : m ∈ e.marks ↔ e.asked.get m = true := by
  simp [Engine.marks]

/-- A bound on the attempts still to be made: one for each mark, and five for each main that can still be taken
out of service. -/
def Engine.attemptsLeft (e : Engine) : Nat := 5 * e.inService.card + e.marks.card

theorem Engine.marks_card_le (e : Engine) : e.marks.card ≤ 4 := Finset.card_le_univ _

theorem Engine.attemptsLeft_le_attemptBound (e : Engine) : e.attemptsLeft ≤ attemptBound := by
  have h1 : e.inService.card ≤ 4 := Finset.card_le_univ _
  have h2 := e.marks_card_le
  unfold Engine.attemptsLeft attemptBound
  omega

/-- Where no attempt is left, none is asked for. -/
theorem State.noneAsked_of_attemptsLeft_eq_zero (h : s.engine.attemptsLeft = 0) : s.NoneAsked := by
  have h0 : s.engine.marks = ∅ := by
    rw [← Finset.card_eq_zero]
    unfold Engine.attemptsLeft at h
    omega
  intro m
  have hm : m ∉ s.engine.marks := by simp [h0]
  simpa using hm

/-- Taking the turn of a main that is asked for uses up its mark. -/
theorem State.takeTurn_marks_card (h : s.engine.asked.get m = true) :
    (s.takeTurn m).engine.marks.card + 1 = s.engine.marks.card := by
  have he : (s.takeTurn m).engine.marks = s.engine.marks.erase m := by
    ext k
    by_cases hk : m = k <;> simp [hk, Ne.symm]
  rw [he, Finset.card_erase_add_one ((Engine.mem_marks _ _).2 h)]

/-- Each attempt that is asked for leaves fewer to be made (06 R110, R116). -/
theorem State.attempt_attemptsLeft_lt (h : s.engine.asked.get m = true) (x : Option (Fin 5)) :
    ((s.takeTurn m).attempt x m).engine.attemptsLeft < s.engine.attemptsLeft := by
  have hturn := State.takeTurn_marks_card h
  cases ha : (s.takeTurn m).available m with
  | false =>
    have hs : (s.takeTurn m).engine.inService = s.engine.inService := rfl
    rw [State.attempt_of_not_available x ha, Engine.attemptsLeft, Engine.attemptsLeft, hs]
    omega
  | true =>
    have hm : (s.engine.mains.get m).state ≠ .faulted := by
      obtain ⟨-, h | h⟩ := State.available_eq_true.1 ha <;> simp_all
    obtain ⟨hk, ⟨hasked, hn⟩ | hfault⟩ := State.attempt_mains ha x
    · -- the main stays in service
      have hs : ((s.takeTurn m).attempt x m).engine.inService = s.engine.inService := by
        ext k
        rcases eq_or_ne k m with rfl | hkm
        · simp [hn, hm]
        · simp only [Engine.mem_inService, hk k hkm, State.takeTurn_engine_mains]
      have hq : ((s.takeTurn m).attempt x m).engine.marks = (s.takeTurn m).engine.marks := by
        simp only [Engine.marks, hasked]
      rw [Engine.attemptsLeft, Engine.attemptsLeft, hs, hq]
      omega
    · -- the main is FAULTED
      have hs : ((s.takeTurn m).attempt x m).engine.inService = s.engine.inService.erase m := by
        ext k
        rcases eq_or_ne k m with rfl | hkm
        · simp [hfault]
        · simp only [Engine.mem_inService, Finset.mem_erase, hk k hkm, State.takeTurn_engine_mains,
            hkm, ne_eq, not_false_eq_true, true_and]
      have hcard := Finset.card_erase_add_one ((Engine.mem_inService _ _).2 hm)
      have hle := Engine.marks_card_le ((s.takeTurn m).attempt x m).engine
      rw [Engine.attemptsLeft, Engine.attemptsLeft, hs]
      omega

/-- Enough attempts leave none to be made. -/
theorem State.runAttemptsFor_noneAsked (x : Option (Fin 5)) (n : Nat) (s : State)
    (h : s.engine.attemptsLeft ≤ n) : (s.runAttemptsFor x n).NoneAsked := by
  induction n generalizing s with
  | zero => exact State.noneAsked_of_attemptsLeft_eq_zero (Nat.le_zero.1 h)
  | succ n ih =>
    unfold State.runAttemptsFor
    split
    · next hn => exact (Engine.nextAsked_eq_none _).1 hn
    · next m hm =>
      exact ih _ (by have := State.attempt_attemptsLeft_lt (Engine.nextAsked_asked hm) x; omega)

/-- After the attempts of an event none is left unmade (06 R110). -/
theorem State.runAttempts_noneAsked (s : State) (x : Option (Fin 5)) : (s.runAttempts x).NoneAsked :=
  State.runAttemptsFor_noneAsked x _ s s.engine.attemptsLeft_le_attemptBound

/-- What every attempt keeps, the attempts of an event keep. -/
theorem State.runAttempts_inv {P : State → Prop} {x : Option (Fin 5)}
    (turn : ∀ t m, P t → P (t.takeTurn m))
    (attempt : ∀ t m, P t → P (t.attempt x m)) (h : P s) : P (s.runAttempts x) := by
  have key : ∀ n t, P t → P (State.runAttemptsFor x n t) := by
    intro n
    induction n with
    | zero => exact fun t ht => ht
    | succ n ih =>
      intro t ht
      unfold State.runAttemptsFor
      split
      · exact ht
      · exact ih _ (attempt _ _ (turn _ _ ht))
  exact key _ s h

end Sys2Proof.Machine

/-! PROOFS. The end of a command and of an event (08 R148, R150; 06 R110; 07 R138): what it writes, and the walk of
attempts that it makes. -/

namespace Sys2Proof.Machine

section EndOfACommand

variable (s : State)

/-- One attempt of an event: the turn of a main is taken and its attempt made. -/
def State.takeAttempt (e : Option (Fin 5)) (t : State) (m : Fin 4) : State := (t.takeTurn m).attempt e m

/-- The attempts of an event are attempts on mains asked for, one after another. -/
theorem State.runAttemptsFor_eq_foldl (e : Option (Fin 5)) (n : Nat) (s : State) :
    ∃ mains : List (Fin 4), s.runAttemptsFor e n = mains.foldl (State.takeAttempt e) s
      ∧ ∀ before m after, mains = before ++ m :: after →
          (before.foldl (State.takeAttempt e) s).engine.asked.get m = true := by
  induction n generalizing s with
  | zero => exact ⟨[], rfl, by simp⟩
  | succ n ih =>
    unfold State.runAttemptsFor
    split
    · exact ⟨[], rfl, by simp⟩
    · next m hm =>
      obtain ⟨mains, hrun, hasked⟩ := ih (s.takeAttempt e m)
      refine ⟨m :: mains, hrun, fun before k after hk => ?_⟩
      cases before with
      | nil =>
        obtain ⟨rfl, -⟩ := List.cons.inj hk
        exact Engine.nextAsked_asked hm
      | cons b before =>
        obtain ⟨rfl, htail⟩ := List.cons.inj hk
        exact hasked before k after htail

/-- Outside ACTIVE the attempts only use up the marks that asked for them (06 R107). -/
theorem State.runAttempts_of_not_active {s : State} (h : s.control.mode ≠ .active) (e : Option (Fin 5)) :
    ∃ turns, s.runAttempts e =
      { s with engine := { s.engine with asked := Table.fill 4 false, turns } } := by
  obtain ⟨asked, turns, ht⟩ : ∃ asked turns,
      s.runAttempts e = { s with engine := { s.engine with asked, turns } } := by
    refine State.runAttempts_inv
      (P := fun t => ∃ asked turns, t = { s with engine := { s.engine with asked, turns } }) ?_ ?_
      ⟨s.engine.asked, s.engine.turns, rfl⟩
    · rintro t m ⟨asked, turns, rfl⟩
      exact ⟨_, _, rfl⟩
    · rintro t m ⟨asked, turns, rfl⟩
      exact ⟨asked, turns, State.attempt_of_not_available e (State.available_of_not_active m h)⟩
  have hn := s.runAttempts_noneAsked e
  rw [ht] at hn
  have hasked : asked = Table.fill 4 false := Table.ext_get fun m => by simpa using hn m
  exact ⟨turns, hasked ▸ ht⟩

/-- The transaction ended, written out (08 R150). -/
theorem State.send_deselect_eq (u : State) :
    u.deselect.send [] =
      { u with
        port := { u.port with
          command := u.port.deselected.command, result := u.port.deselected.result
          index := u.port.deselected.index
          dataOut := [], transaction := .idle, selectLeft := 30 } } := by
  simp only [State.send, State.deselect, Port.deselected_latch]
  rfl

/-- The end of a command, written out (08 R148, R150; 07 R138). -/
theorem State.commandEnd_eq (code : Byte) (a : Answer) {u : State} (h : u = s.runAttempts none) :
    s.commandEnd code a =
      { u with
        port := { u.port with
          command := match a with | some _ => code | none => u.port.deselected.command
          result := match a with | some (r, _) => r | none => u.port.deselected.result
          index := match a with | some (_, i) => i | none => u.port.deselected.index
          dataOut := [], transaction := .idle, selectLeft := 30 }
        field := { u.field with
          pins := u.pinsFollowed, log := u.field.made ++ pinChanges u.field.pins u.pinsFollowed
          made := [] } } := by
  subst h
  simp only [State.commandEnd, State.send_deselect_eq]
  cases a <;> rfl

/-- The end of an event, written out (07 R138; log 16). -/
theorem State.eventEnd_eq {u : State} (h : u = s.runAttempts none) :
    s.eventEnd =
      { u with
        port := u.port.streamed u.statusRecord
        field := { u.field with
          pins := u.pinsFollowed, log := u.field.made ++ pinChanges u.field.pins u.pinsFollowed
          made := [] } } := by
  subst h
  rfl

end EndOfACommand

/-- Settles O3: the two ends written out, and the attempts as a walk that leaves none asked for. -/
theorem endOfACommand : Obligations.EndOfACommand := by
  unfold Obligations.EndOfACommand
  refine ⟨fun s code r i hn => ?_, fun s u code a hu => ⟨s.commandEnd_eq code a hu, s.eventEnd_eq hu⟩,
    fun s e hn => State.runAttempts_of_noneAsked e hn, fun s e => ?_,
    fun s e hm => State.runAttempts_of_not_active hm e, fun s e => s.runAttempts_frame e⟩
  · rw [s.commandEnd_eq code _ (State.runAttempts_of_noneAsked none hn).symm]
  · obtain ⟨mains, hrun, hasked⟩ := State.runAttemptsFor_eq_foldl e attemptBound s
    exact ⟨mains, State.takeAttempt e, fun _ _ => rfl, hrun, hasked, s.runAttempts_noneAsked e⟩

end Sys2Proof.Machine

/-! PROOFS. The output pins (07 R138; 09 R165): what each follows, and the list of changes from one setting to
another. -/

namespace Sys2Proof.Machine

section Pins

variable (s : State)

/-- The valve line of a cannon is on exactly while a RUNNING pass is on it (06 R107). -/
theorem State.pinsFollowed_valves (k : Fin 24) : s.pinsFollowed.valves.get k = true ↔
    ∃ c p, s.engine.contexts.get c = some p ∧ p.cannon = k ∧ p.state = .running := by
  simp only [State.pinsFollowed, Table.get_tab, Engine.valveOn, Table.any_eq_true]
  refine exists_congr fun c => ?_
  cases s.engine.contexts.get c <;> simp

/-- The pump line of a main is on exactly while it is PRIMING or RUNNING (06 R107). -/
theorem State.pinsFollowed_pumps (m : Fin 4) : s.pinsFollowed.pumps.get m = true ↔
    (s.engine.mains.get m).state = .priming ∨ (s.engine.mains.get m).state = .running := by
  simp [State.pinsFollowed, Main.pumpOn]

/-- ATTN is pulled exactly while an enabled kind is pending (09 R165). -/
theorem State.pinsFollowed_attention : s.pinsFollowed.attention = true ↔
    ∃ k, s.notices.pending.get k = true ∧ s.notices.enables.get k = true := by
  simp [State.pinsFollowed, Notices.attention]

/-! ## The changes from one setting to another -/

/-- The order of changes: by rank, and no change twice. -/
def RankedBefore (rank : OutputChange → Nat) (a b : OutputChange) : Prop := rank a ≤ rank b ∧ a ≠ b

variable {rank : OutputChange → Nat}

/-- Changes of one rank, one for each index that a test finds. -/
theorem pairwise_rankedBefore_map {n : Nat} (keep : Fin n → Bool) {f : Fin n → OutputChange} {r : Nat}
    (hr : ∀ k, rank (f k) = r) (hf : ∀ j k, f j = f k → j = k) :
    (((List.finRange n).filter keep).map f).Pairwise (RankedBefore rank) := by
  rw [List.pairwise_map]
  refine ((List.nodup_finRange n).filter keep).imp fun {j k} hjk => ⟨?_, fun h => hjk (hf j k h)⟩
  rw [hr, hr]

/-- A list of changes followed by changes of a higher rank. -/
theorem pairwise_rankedBefore_append {l l' : List OutputChange} {r : Nat}
    (h : l.Pairwise (RankedBefore rank)) (h' : l'.Pairwise (RankedBefore rank))
    (hl : ∀ a ∈ l, rank a < r) (hl' : ∀ b ∈ l', rank b = r) :
    (l ++ l').Pairwise (RankedBefore rank) := by
  refine List.pairwise_append.2 ⟨h, h', fun a ha b hb => ?_⟩
  have hab : rank a < rank b := by rw [hl' b hb]; exact hl a ha
  exact ⟨hab.le, fun he => by rw [he] at hab; exact lt_irrefl _ hab⟩

/-- Each change is made once, and one main's in the order of 07 R138. -/
theorem pairwise_pinChanges (old new : Pins)
    (hv : ∀ k, rank (.valve k false) = 0 ∧ rank (.valve k true) = 4)
    (hm : ∀ m v, rank (.pump m false) = 1 ∧ rank (.select m v) = 2 ∧ rank (.pump m true) = 3)
    (ha : ∀ b, rank (.attention b) = 5) :
    (pinChanges old new).Pairwise (RankedBefore rank) := by
  have hv0 := fun k => (hv k).1
  have hv4 := fun k => (hv k).2
  have hm1 := fun m => (hm m 0).1
  have hm2 := fun m v => (hm m v).2.1
  have hm3 := fun m => (hm m 0).2.2
  have hlast : (if old.attention = new.attention then []
      else [OutputChange.attention new.attention]).Pairwise (RankedBefore rank) := by
    split <;> simp
  unfold pinChanges
  refine pairwise_rankedBefore_append (r := 5) (pairwise_rankedBefore_append (r := 4)
    (pairwise_rankedBefore_append (r := 3) (pairwise_rankedBefore_append (r := 2)
      (pairwise_rankedBefore_append (r := 1)
        (pairwise_rankedBefore_map _ hv0 (by simp)) (pairwise_rankedBefore_map _ hm1 (by simp)) ?_ ?_)
      (pairwise_rankedBefore_map _ (fun m => hm2 m _) (by simp)) ?_ ?_)
    (pairwise_rankedBefore_map _ hm3 (by simp)) ?_ ?_)
    (pairwise_rankedBefore_map _ hv4 (by simp)) ?_ ?_) hlast ?_ ?_
  all_goals intro a h
  all_goals simp only [List.mem_append, List.mem_map, List.mem_ite_nil_left, List.mem_singleton] at h
  · obtain ⟨k, -, rfl⟩ := h; simp [hv0]
  · obtain ⟨k, -, rfl⟩ := h; simp [hm1]
  · obtain ⟨k, -, rfl⟩ | ⟨k, -, rfl⟩ := h <;> simp [hv0, hm1]
  · obtain ⟨k, -, rfl⟩ := h; simp [hm2]
  · obtain (⟨k, -, rfl⟩ | ⟨k, -, rfl⟩) | ⟨k, -, rfl⟩ := h <;> simp [hv0, hm1, hm2]
  · obtain ⟨k, -, rfl⟩ := h; simp [hm3]
  · obtain ((⟨k, -, rfl⟩ | ⟨k, -, rfl⟩) | ⟨k, -, rfl⟩) | ⟨k, -, rfl⟩ := h <;> simp [hv0, hm1, hm2, hm3]
  · obtain ⟨k, -, rfl⟩ := h; simp [hv4]
  · obtain (((⟨k, -, rfl⟩ | ⟨k, -, rfl⟩) | ⟨k, -, rfl⟩) | ⟨k, -, rfl⟩) | ⟨k, -, rfl⟩ := h <;>
      simp [hv0, hv4, hm1, hm2, hm3]
  · obtain ⟨-, rfl⟩ := h; simp [ha]

/-- A valve change is listed exactly where the valve line moves to that level. -/
theorem valve_mem_pinChanges (old new : Pins) (k : Fin 24) (b : Bool) :
    .valve k b ∈ pinChanges old new ↔ new.valves.get k = b ∧ old.valves.get k ≠ b := by
  have hl : ¬ OutputChange.valve k b ∈ (if old.attention = new.attention then []
      else [OutputChange.attention new.attention]) := by split <;> simp
  cases b <;> simp [pinChanges, hl, and_comm]

/-- A pump change is listed exactly where the pump line moves to that level. -/
theorem pump_mem_pinChanges (old new : Pins) (m : Fin 4) (b : Bool) :
    .pump m b ∈ pinChanges old new ↔ new.pumps.get m = b ∧ old.pumps.get m ≠ b := by
  have hl : ¬ OutputChange.pump m b ∈ (if old.attention = new.attention then []
      else [OutputChange.attention new.attention]) := by split <;> simp
  cases b <;> simp [pinChanges, hl, and_comm]

/-- A select change is listed exactly where the code moves to that value. -/
theorem select_mem_pinChanges (old new : Pins) (m : Fin 4) (v : Nat) :
    .select m v ∈ pinChanges old new ↔ new.selects.get m = v ∧ old.selects.get m ≠ v := by
  have hl : ¬ OutputChange.select m v ∈ (if old.attention = new.attention then []
      else [OutputChange.attention new.attention]) := by split <;> simp
  simp only [pinChanges, List.mem_append, hl, or_false]
  simp
  constructor
  · rintro ⟨h, rfl⟩; exact ⟨rfl, h⟩
  · rintro ⟨rfl, h⟩; exact ⟨h, rfl⟩

/-- ATTN is listed exactly where it moves to that level. -/
theorem attention_mem_pinChanges (old new : Pins) (b : Bool) :
    .attention b ∈ pinChanges old new ↔ new.attention = b ∧ old.attention ≠ b := by
  simp only [pinChanges, List.mem_append, List.mem_map]
  split
  · next h => simp [h]
  · next h =>
    simp only [List.mem_singleton, OutputChange.attention.injEq]
    constructor
    · rintro (h' | rfl)
      · simp at h'
      · exact ⟨rfl, h⟩
    · rintro ⟨rfl, -⟩; exact .inr rfl

end Pins

end Sys2Proof.Machine

/-! PROOFS. The laws of the device are kept by every step where they are kept by each effect that a command can
have. `Kept` lists those effects, each under the tests that let it happen; the walks over contexts, lines and
piles, the ends of commands and events, and the steps themselves are then taken once for every law. -/

namespace Sys2Proof.Machine

/-! ## The part of the state that the laws speak of -/

/-- A state with these parts, and every other part at its reset value. -/
def State.coreOf (staging : Table 2 (Option Staged)) (geometry : Geometry) (clock : Clock)
    (slots : Table 36 (Option Slot)) (living : Table 48 Living) (mustCount : Nat) (queue : List Order)
    (mains : Table 4 Main) (contexts : Table 8 (Option Pass)) (water : Water) (mode : YardMode)
    (drainTimers : Table 4 (Option Nat)) (entries : Table 16 (Option StoredExclusion)) (closed : Bool)
    (write : Option StoreWrite) : State :=
  { State.reset with
    staging, geometry, clock, queue, water
    horizon := { State.reset.horizon with slots }
    watch := { State.reset.watch with living, mustCount }
    engine := { State.reset.engine with mains, contexts }
    control := { State.reset.control with mode, drainTimers }
    store := { State.reset.store with entries, closed, write } }

/-- The state with everything that no law speaks of at its reset value. -/
def State.core (s : State) : State :=
  State.coreOf s.staging s.geometry s.clock s.horizon.slots s.watch.living s.watch.mustCount s.queue
    s.engine.mains s.engine.contexts s.water s.control.mode s.control.drainTimers s.store.entries
    s.store.closed s.store.write

section

variable (s : State)

@[simp] theorem State.raise_core (k : NoticeKind) (n : Nat) : (s.raise k n).core = s.core := rfl
@[simp] theorem State.ask_core (m : Fin 4) : (s.ask m).core = s.core := rfl
@[simp] theorem State.askAll_core : s.askAll.core = s.core := rfl

@[simp] theorem State.askAllIf_core (b : Bool) : (s.askAllIf b).core = s.core := by
  cases b <;> rfl

@[simp] theorem State.takeTurn_core (m : Fin 4) : (s.takeTurn m).core = s.core := rfl
@[simp] theorem State.follow_core : s.follow.core = s.core := by
  simp [State.core]
@[simp] theorem State.conclude_core : s.conclude.core = s.core := by
  simp [State.core]
@[simp] theorem State.mapLine_core (i : Line) (f : InputLine → InputLine) :
    (s.mapLine i f).core = s.core := rfl
@[simp] theorem State.countSuspension_core : s.countSuspension.core = s.core := rfl
@[simp] theorem State.recordEnd_core (i : Fin 48) (e : PassEnd) : (s.recordEnd i e).core = s.core := rfl
@[simp] theorem State.deselect_core : s.deselect.core = s.core := rfl
@[simp] theorem State.send_core (d : List Byte) : (s.send d).core = s.core := rfl
@[simp] theorem State.abandon_core (c : Byte) : (s.abandon c).core = s.core := rfl
@[simp] theorem State.answer_core (c : Byte) (r : Result) (i : Byte) : (s.answer c r i).core = s.core := rfl
@[simp] theorem State.openPort_core (n : Nat) (x : TransactionState) : (s.openPort n x).core = s.core := rfl
@[simp] theorem State.latchReply_core (d : List Byte) : (s.latchReply d).core = s.core := rfl

@[simp] theorem State.answerWith_core (c : Byte) (a : Answer) : (s.answerWith c a).core = s.core := by
  cases a <;> rfl

@[simp] theorem State.refuseBusy_core (c i : Byte) : (s.refuseBusy c i).core = s.core := by
  simp [State.refuseBusy]

@[simp] theorem State.setFlags_core (t : Table 24 Bool) : (s.setFlags t).core = s.core :=
  State.askAllIf_core _ _

@[simp] theorem State.handGust_core : s.handGust.core = s.core := by
  unfold State.handGust
  dsimp only
  split <;> rfl

@[simp] theorem State.commandEnd_core (code : Byte) (a : Answer) :
    (s.commandEnd code a).core = (s.runAttempts none).core := by
  simp [State.commandEnd]

@[simp] theorem State.eventEnd_core : s.eventEnd.core = (s.runAttempts none).core :=
  State.conclude_core _

theorem State.readSelect_core {act : State → State} (h : ∀ t, (act t).core = t.core) (code : Byte)
    (held : Nat) : (s.readSelect code held act).core = s.core := by
  unfold State.readSelect
  dsimp only
  split
  · simp
  · simp [h]

@[simp] theorem State.openRead_core (code i : Byte) (n : Clocking) (form : State → Reading) :
    (s.openRead code i n form).core = s.core := by
  refine s.readSelect_core (fun t => ?_) code n.held
  split
  · simp
  · split <;> simp

@[simp] theorem State.beginStatus_core (n : Clocking) : (s.beginStatus n).core = s.core :=
  s.readSelect_core (act := fun t => t.openPort n.held (.streaming [] n.counts)) (fun _ => rfl) _ _

@[simp] theorem State.receive_core (d : List Byte) : (s.receive d).core = s.core := by
  have h : ∀ (t : State) (p : Port), ({ t with port := p } : State).core = t.core := fun _ _ => rfl
  unfold State.receive
  dsimp only
  rw [h]
  split <;> simp [State.openLook, State.openLocate, State.openNotices, State.openIdent]

@[simp] theorem State.timeOut_core (d : List Byte) : (s.timeOut d).core = s.core := by
  unfold State.timeOut
  split <;> simp

end

/-! ## What a step can do to the records -/

/-- What the clock's commands and events, FORECAST and RETIRE of a slot do to the clock and the slots
(02 R22 to R32). -/
inductive State.TimeStep (s : State) : State → Prop
  | hold (h : s.clock.state = .running) :
    s.TimeStep (s.setClock
      { s.clock with state := .held, heldFrom := some s.clock.day, advanceDue := false })
  | set (day : Word16) (second : Nat) (h : s.clock.state ≠ .running) (hs : second ≤ 86399) :
    s.TimeStep (s.setClock { s.clock with state := .held, day := day.toNat, second }).alignHorizon
  | run (h : s.clock.state = .held) :
    s.TimeStep (s.setClock { s.clock with state := .running, heldFrom := none, fraction := 0 })
  | advance (h : s.clock.state = .running) : s.TimeStep (s.setClock s.clock.advanced)
  | unit : s.TimeStep (s.setClock s.clock.unit)
  | assessment : s.TimeStep (s.setClock { s.clock with assessmentRaised := none })
  | hour : s.TimeStep (s.setClock { s.clock with hourRaised := false }).alignHorizon
  | day : s.TimeStep (s.setClock { s.clock with dayRaised := false })
  | forecast (x : Slot) (k : Nat) (h : s.clock.state ≠ .unset) (hx : s.forecastTest x k = none) :
    s.TimeStep { s with
      horizon := { s.horizon with slots := s.horizon.slots.put (slotPosition x.hour) (some x) } }
  | retire (i : Fin 36) :
    s.TimeStep { s with horizon := { s.horizon with slots := s.horizon.slots.put i none } }

/-- Time changes the clock and the horizon alone. -/
theorem State.TimeStep.eq {s t : State} (h : s.TimeStep t) :
    t = { s with clock := t.clock, horizon := t.horizon } := by
  cases h <;> rfl

/-- What FIX, CLOSE and TAG and their ends do to the store and the exclusions (01 R18, R20; 09 R170). -/
inductive State.StoreStep (s : State) : State → Prop
  | beginFix (i : Fin 16) (h : s.store.closed = false) : s.StoreStep (s.beginWrite (.fix i))
  | beginClose (h : s.store.closed = false) : s.StoreStep (s.beginWrite .close)
  | beginTag (d : List Byte) : s.StoreStep (s.beginWrite (.tag d))
  | endFix (i : Fin 16) (h : s.store.write = some (.fix i)) : s.StoreStep (s.endFix i)
  | endClose (h : s.store.write = some .close) :
    s.StoreStep { s with store := { s.store.written with closed := true } }
  | endTag (d : List Byte) (h : s.store.write = some (.tag d)) :
    s.StoreStep { s with store := { s.store.written with tag := some d } }

/-- A write changes the store and the exclusions alone. -/
theorem State.StoreStep.eq {s t : State} (h : s.StoreStep t) :
    t = { s with
      store := t.store, geometry := { s.geometry with exclusions := t.geometry.exclusions } } := by
  cases h with
  | endFix i =>
    unfold State.endFix
    split <;> rfl
  | _ => rfl

/-- What STAGE, FILL, COMMIT and the loss of a base do to the buffers (08 R155 to R160). -/
inductive State.BufferStep (s : State) : State → Prop
  | stage (k : Fin 2) (cls : RecordClass) (i : Nat) : s.BufferStep (s.setBuffer k (some (s.stagedOf cls i)))
  | fill (k : Fin 2) (b : Staged) (h : s.staging.get k = some b) (buffer : Byte) (data : List Byte) :
    s.BufferStep (s.setBuffer k (some (b.fill buffer data).1))
  | empty (k : Fin 2) : s.BufferStep (s.setBuffer k none)
  | lose (cls : RecordClass) (i : Nat) : s.BufferStep (s.loseBases cls i)

/-- The buffers alone change. -/
theorem State.BufferStep.eq {s t : State} (h : s.BufferStep t) : t = { s with staging := t.staging } := by
  cases h <;> rfl

/-- A buffer holds a record of a class with these values. -/
def State.Holds (s : State) (cls : RecordClass) (v : List Nat) : Prop :=
  ∃ k b, s.staging.get k = some b ∧ b.cls = cls ∧ b.values = v

/-- What the COMMIT of a BED and of a CANNON, and RETIRE of a cannon and of an exclusion, do to the geometry
(01 R4, R12, R13, R17). -/
inductive State.PlaceStep (s : State) : State → Prop
  | bed (i : Fin 8) (v : List Nat) (h : s.Holds .bed v)
      (hw : s.geometry.endsWithin i (fieldValue v 1) = true) :
    s.PlaceStep { s with geometry := { s.geometry with
      beds := s.geometry.beds.modify i fun b => { b.install v with revision := b.revision + 1 } } }
  | cannon (i : Fin 24) (v : List Nat) (r : Word16) (h : s.Holds .cannon v)
      (ht : s.cannonTest i (cannonFrom v r) = none) :
    s.PlaceStep { s with geometry := s.geometry.putCannon i (some (cannonFrom v r)) }
  | retireCannon (i : Fin 24) (hl : s.cannonLive i = false)
      (h : (s.geometry.putCannon i none).allCovered = true) :
    s.PlaceStep { s with geometry := s.geometry.putCannon i none }
  | retireExclusion (i : Fin 16) (h : s.geometry.isFixed i = false) : s.PlaceStep (s.setExclusion i none)

/-- The geometry alone changes, and no pile and no window index does. -/
theorem State.PlaceStep.eq {s t : State} (h : s.PlaceStep t) :
    t = { s with geometry := { s.geometry with
      beds := t.geometry.beds, cannons := t.geometry.cannons
      exclusions := t.geometry.exclusions } } := by
  cases h <;> rfl

/-! ## What a class's COMMIT comes to -/

section Installed

variable {s t : State} {v : List Nat}

theorem State.commitBed_eq_inr {i : Fin 8} (h : s.commitBed i v = .inr t) :
    s.geometry.endsWithin i (fieldValue v 1) = true ∧ t = { s with geometry := { s.geometry with
      beds := s.geometry.beds.modify i fun b => { b.install v with revision := b.revision + 1 } } } := by
  unfold State.commitBed at h
  split at h
  · next hw => exact ⟨hw, (Sum.inr.inj h).symm⟩
  · exact absurd h Sum.inl_ne_inr

theorem State.commitPile_eq_inr {i : Fin 48} (h : s.commitPile i v = .inr t) :
    ∃ p, s.pileTest i p = none ∧ t = s.installPile i p (fieldValue v 5) := by
  unfold State.commitPile at h
  dsimp only at h
  split at h
  · exact absurd h Sum.inl_ne_inr
  · next ht => exact ⟨_, ht, (Sum.inr.inj h).symm⟩

theorem State.commitGrade_eq_inr {i : Fin 8} (h : s.commitGrade i v = .inr t) :
    ∃ g, t = ({ s with watch := { s.watch with grades := s.watch.grades.put i g } } : State).reevaluateWhere
      fun p => decide (p.grade = i) := by
  unfold State.commitGrade at h
  dsimp only at h
  split at h
  · exact ⟨_, (Sum.inr.inj h).symm⟩
  · exact absurd h Sum.inl_ne_inr

theorem State.commitModel_eq_inr (h : s.commitModel v = .inr t) :
    ∃ m, t = { s with watch := { s.watch with model := m } } := by
  unfold State.commitModel at h
  dsimp only at h
  split at h
  · exact ⟨_, (Sum.inr.inj h).symm⟩
  · exact absurd h Sum.inl_ne_inr

theorem State.commitCannon_eq_inr {i : Fin 24} (h : s.commitCannon i v = .inr t) :
    ∃ r, s.cannonTest i (cannonFrom v r) = none ∧ t = s.installCannon i (cannonFrom v r) := by
  unfold State.commitCannon at h
  dsimp only at h
  split at h
  · exact absurd h Sum.inl_ne_inr
  · next ht => exact ⟨_, ht, (Sum.inr.inj h).symm⟩

theorem State.commitExclusion_eq_inr {i : Fin 16} (h : s.commitExclusion i v = .inr t) :
    ∃ e, e.fixed = false ∧ s.exclusionTest i e = none
      ∧ t = (s.setExclusion i (some e)).trimPasses e.bed e.start e.length := by
  unfold State.commitExclusion at h
  dsimp only at h
  split at h
  · exact absurd h Sum.inl_ne_inr
  · next ht => exact ⟨_, rfl, ht, (Sum.inr.inj h).symm⟩

theorem State.commitMain_eq_inr {m : Fin 4} (h : s.commitMain m v = .inr t) :
    (s.mainServes m && decide (flagsOf 6 (fieldValue v 1) ≠ (s.engine.mains.get m).sourceMask)) = false
      ∧ t = ((s.mapMain m fun x =>
        ({ x.install v with revision := x.revision + 1 } : Main).closeUnmasked).follow.ask m) := by
  unfold State.commitMain at h
  split at h
  · exact absurd h Sum.inl_ne_inr
  · next ht => exact ⟨Bool.eq_false_iff.2 ht, (Sum.inr.inj h).symm⟩

/-- The lines' settings of a YARD COMMIT, in the record's order (log 27). -/
def State.settleLines (s : State) (v : List Nat) : State :=
  s.forEach allLines.zipIdx fun u x =>
    u.changeSettings x.1 (lineSettings v x.2).1 (lineSettings v x.2).2

/-- The YARD record's notice fields and Revision. -/
def State.installYard (s : State) (v : List Nat) : State :=
  { s with
    notices := s.notices.install v
    control := { s.control with revision := s.control.revision + 1 } }

theorem State.commitYard_eq (s : State) (v : List Nat) :
    s.commitYard v = .inr ((s.installYard v).follow.settleLines v) := rfl

end Installed

/-! ## What a law must be kept by -/

/-- The effects that a pass end and a dispatch attempt can have, with a basin exempt from low tests. -/
structure KeptByAttempts (x : Option (Fin 5)) (P : State → Prop) : Prop where
  core : ∀ s, P s.core ↔ P s
  endPass : ∀ s c e, (∀ cause, e ≠ .noFlow cause) → P s → P (s.endPass x c e true)
  resume : ∀ s c p, s.engine.contexts.get c = some p → p.resumable = true →
    s.available p.main = true → P s → P (s.resumePass x c p)
  request : ∀ s m c, s.available m = true → s.freeContext = some c → P s →
    P (s.requestAndStart x m c)

/-- The effects that the work of a command or an event can have. -/
structure Kept (P : State → Prop) : Prop extends KeptByAttempts none P where
  time : ∀ s t, s.TimeStep t → P s → P t
  stored : ∀ s t, s.StoreStep t → P s → P t
  buffer : ∀ s t, s.BufferStep t → P s → P t
  place : ∀ s t, s.PlaceStep t → P s → P t
  installPile : ∀ s i p n, s.pileTest i p = none → P s → P (s.installPile i p n)
  exclude : ∀ s i e, e.fixed = false → s.exclusionTest i e = none → P s →
    P ((s.setExclusion i (some e)).trimPasses e.bed e.start e.length)
  commitMain : ∀ s m v, (s.mainServes m && decide (flagsOf 6 (fieldValue v 1) ≠
    (s.engine.mains.get m).sourceMask)) = false → P s →
    P (s.mapMain m fun y => ({ y.install v with revision := y.revision + 1 } : Main).closeUnmasked)
  commitSource : ∀ s i v t, s.commitSource i v = .inr t → P s → P t
  retirePile : ∀ s i, (s.geometry.piles.get i).isSome = true → P s → P (s.retirePile i)
  requeue : ∀ s f, (∀ o, (f o : Order).pile = o.pile ∧ (f o).watch = o.watch ∧ (f o).operator = o.operator) →
    P s → P (s.setQueue (s.queue.map f))
  evaluate : ∀ s i w counts, P s → P (s.evaluate i w counts true)
  assessPile : ∀ s w rain i, P s → P (s.assessPile w rain i)
  placeOrder : ∀ s i r named, s.draining = false → (s.watch.living.get i).engaged = false → P s →
    P (s.placeOrder i r named).1
  withdrawOrder : ∀ s i o, s.orderOf i = some o → o.operator.isSome = true → P s → P (s.withdrawOrder o)
  suspendPass : ∀ s c p, s.engine.contexts.get c = some p → p.state ≠ .suspended → P s →
    P (s.suspendPass c p)
  holdPass : ∀ s c p wind machine, s.engine.contexts.get c = some p → p.state = .suspended → P s →
    P (s.setContext c (some { p with wind, machine }))
  finishBay : ∀ s c p, s.engine.contexts.get c = some p → p.dwellTimer = some 0 → P s →
    P (s.finishBay none c p)
  confirmFlow : ∀ s m, P s → P (s.confirmFlow m)
  loseFlow : ∀ s m, P s → P (s.loseFlow m)
  primeOut : ∀ s c p, s.engine.contexts.get c = some p → p.primeTimer = some 0 → P s →
    P (s.endPass none c (.noFlow .noFlow) true)
  clearFault : ∀ s m, (s.engine.mains.get m).state = .faulted → P s →
    P (s.mapMain m fun y => { y with state := .closed, fault := none })
  inflow : ∀ s b v turbid, P s → P (s.takeInflow b v turbid)
  gauge : ∀ s b level clarity, level ≤ (s.water.basins.get b).capacity → P s →
    P (s.takeGauge b level clarity)
  isolate : ∀ s y, P s → P (s.isolateSource y)
  restore : ∀ s y, P s → P (s.restoreSource y)
  settled : ∀ s b, P s → P (s.settled b)
  clearSpilled : ∀ s, P s → P s.clearSpilled
  rolloverDay : ∀ s, P s → P s.rolloverDay
  holdYard : ∀ s, s.control.mode = .active → P s → P s.holdYard
  drainYard : ∀ s, s.control.mode = .active ∨ s.control.mode = .held → P s → P s.drainYard
  resumeHeld : ∀ s, s.control.mode = .held → P s → P (s.setMode .active)
  resumeDrained : ∀ s, s.control.mode = .drained → P s → P (s.setMode .active).closeMains
  drained : ∀ s m, s.control.drainTimers.get m = some 0 → P s → P (s.drained m)
  second : ∀ s, P s → P s.second
  resetWhole : ∀ s powered resetLow, P s → P (s.resetWhole powered resetLow)
  resetCommand : ∀ s, P s → P s.resetCommand

/-! ## Attempts and ends -/

section Attempts

variable {x : Option (Fin 5)} {P : State → Prop} (K : KeptByAttempts x P) {s t : State}
include K

/-- Two states with one core meet the same laws. -/
theorem KeptByAttempts.of_core (hs : P s) (h : t.core = s.core) : P t :=
  (K.core t).1 (h ▸ (K.core s).2 hs)

theorem KeptByAttempts.attempt (m : Fin 4) (hs : P s) : P (s.attempt x m) := by
  cases ha : s.available m with
  | false => rwa [State.attempt_of_not_available x ha]
  | true =>
    obtain ⟨c, p, hf, h⟩ | h | ⟨c, hc, h⟩ := State.attempt_cases ha x
    · obtain ⟨hp, hr, rfl⟩ := State.firstResumable_spec hf
      rw [h]
      exact K.resume s c p hp hr ha hs
    · rwa [h]
    · rw [h]
      exact K.request s m c ha hc hs

theorem KeptByAttempts.runAttempts (hs : P s) : P (s.runAttempts x) :=
  State.runAttempts_inv (fun t m ht => K.of_core ht (t.takeTurn_core m)) (fun _ m => K.attempt m) hs

theorem KeptByAttempts.endWhere {e : PassEnd} (he : ∀ cause, e ≠ .noFlow cause) (p : Pass → Bool)
    (hs : P s) : P (s.endWhere x p e) := by
  refine s.forEach_inv P _ _ (fun t c _ ht => ?_) hs
  split
  · split
    · exact K.runAttempts (K.endPass t c e he ht)
    · exact ht
  · exact ht

end Attempts

/-! ## Walks -/

section Walks

variable {P : State → Prop} (K : Kept P) {s t : State}
include K

theorem Kept.reevaluate (i : Fin 48) (hs : P s) : P (s.reevaluate i true) := K.evaluate s i _ false hs

theorem Kept.reevaluateWhere (p : Pile → Bool) (hs : P s) : P (s.reevaluateWhere p) := by
  refine s.forEach_inv P _ _ (fun t i _ ht => ?_) hs
  split
  · split
    · exact K.reevaluate i ht
    · exact ht
  · exact ht

theorem Kept.assess (w : Stamp) (hs : P s) : P (s.assess w) :=
  s.forEach_inv P _ _ (fun t i _ ht => K.assessPile t _ _ i ht) hs

theorem Kept.clearNames (bad : Order → Bool) (hs : P s) : P (s.clearNames bad) :=
  K.requeue s _ (fun o => by split <;> exact ⟨rfl, rfl, rfl⟩) hs

theorem Kept.setWind {c : Fin 8} {p : Pass} (h : s.engine.contexts.get c = some p)
    (hp : p.state = .suspended) (b : Bool) (hs : P s) : P (s.setWind c p b) := by
  have hk : P (s.setContext c (some { p with wind := b })) := K.holdPass s c p b p.machine h hp hs
  unfold State.setWind
  dsimp only
  split
  · exact K.of_core hk (State.ask_core _ _)
  · exact hk

theorem Kept.setMachine {c : Fin 8} {p : Pass} (h : s.engine.contexts.get c = some p)
    (hp : p.state = .suspended) (b : Bool) (hs : P s) : P (s.setMachine c p b) := by
  have hk : P (s.setContext c (some { p with machine := b })) := K.holdPass s c p p.wind b h hp hs
  unfold State.setMachine
  dsimp only
  split
  · exact K.of_core hk (State.ask_core _ _)
  · exact hk

theorem Kept.followFlags (f : Pass → Bool) (hs : P s) : P (s.followFlags f) := by
  refine s.forEach_inv P _ _ (fun t c _ ht => ?_) hs
  split
  · next p hp =>
    split
    · unfold State.followFlag
      split
      · next h => exact K.setWind hp h _ ht
      · next h =>
        split
        · exact K.suspendPass t c p hp (by simp [h]) ht
        · exact ht
      · next h =>
        split
        · exact K.suspendPass t c p hp (by simp [h]) ht
        · exact ht
    · exact ht
  · exact ht

theorem Kept.driftReevaluate (hs : P s) : P s.driftReevaluate :=
  K.followFlags _ (K.of_core hs (by simp))

theorem Kept.judgeCannon (k : Fin 24) (c : Cannon) (isNew : Bool) (hs : P s) :
    P (s.judgeCannon k c isNew) :=
  K.followFlags _ (K.of_core hs (State.setFlags_core _ _))

theorem Kept.machineChanged (b : Fin 8) (present : Bool) (hs : P s) : P (s.machineChanged b present) := by
  refine K.of_core (s.forEach_inv P _ _ (fun t c _ ht => ?_) hs) (State.askAllIf_core _ _)
  split
  · exact ht
  · next p hp =>
    split
    · split
      · next h => exact K.setMachine hp h _ ht
      · next h =>
        split
        · exact K.suspendPass t c p hp (by simp [h]) ht
        · exact ht
      · next h =>
        split
        · exact K.suspendPass t c p hp (by simp [h]) ht
        · exact ht
    · exact ht

/-! ## Lines -/

theorem Kept.deliver (i : Line) (active : Bool) (hs : P s) : P (s.deliver i active) := by
  have hl : P (s.mapLine i fun l => { l with filtered := active }) := K.of_core hs (State.mapLine_core _ _ _)
  refine K.runAttempts ?_
  cases i with
  | machine b => exact K.machineChanged b active hl
  | gust => exact K.driftReevaluate hl
  | rain => exact hl
  | frost =>
    show P (if active then _ else _)
    split
    · unfold State.frostHold
      split
      · next h => exact K.of_core (K.holdYard _ h hl) (State.raise_core _ _ _)
      · exact hl
    · exact hl
  | flow m =>
    show P (if active then _ else _)
    split
    · exact K.confirmFlow _ m hl
    · exact K.loseFlow _ m hl

theorem Kept.takeLine (i : Line) (hs : P s) : P (s.takeLine i) := by
  unfold State.takeLine
  dsimp only
  split
  · exact hs
  · exact K.deliver i _ hs

theorem Kept.mapLine (i : Line) (f : InputLine → InputLine) (hs : P s) : P (s.mapLine i f) :=
  K.of_core hs (State.mapLine_core _ _ _)

theorem Kept.qualified (i : Line) (hs : P s) : P (s.qualified i) := K.takeLine i (K.mapLine i _ hs)

theorem Kept.rawChange (i : Line) (high : Bool) (hs : P s) : P (s.rawChange i high) := by
  have hq : P (s.takeQualified i) := by
    unfold State.takeQualified
    split
    · exact K.qualified i hs
    · exact hs
  unfold State.rawChange
  dsimp only
  split
  · exact hs
  · split
    · exact K.mapLine i _ hq
    · split
      · exact K.mapLine i _ (K.mapLine i _ hq)
      · split
        · exact K.takeLine i (K.mapLine i _ hq)
        · exact K.mapLine i _ (K.mapLine i _ hq)

theorem Kept.changeSettings (i : Line) (high : Bool) (f : FilterTime) (hs : P s) :
    P (s.changeSettings i high f) := by
  unfold State.changeSettings
  dsimp only
  split
  · exact hs
  · split
    · exact K.takeLine i (K.mapLine i _ hs)
    · exact K.mapLine i _ hs

/-! ## COMMIT and RETIRE -/

theorem Kept.settleLines (v : List Nat) (hs : P s) : P (s.settleLines v) :=
  s.forEach_inv P _ _ (fun _ _ _ hu => K.changeSettings _ _ _ hu) hs

theorem Kept.installCannon {i : Fin 24} {c : Cannon}
    (h : P { s with geometry := s.geometry.putCannon i (some c) }) : P (s.installCannon i c) :=
  K.of_core (K.clearNames _ (K.judgeCannon _ _ _ h)) (State.askAll_core _)

theorem Kept.installRecord {k : Fin 2} {b : Staged} (hb : s.staging.get k = some b)
    (h : s.installRecord b = .inr t) (hs : P s) : P t := by
  have hold : ∀ cls, b.cls = cls → s.Holds cls b.values := fun cls hc => ⟨k, b, hb, hc, rfl⟩
  unfold State.installRecord at h
  split at h
  · next hc =>
    obtain ⟨hw, he⟩ := State.commitBed_eq_inr h
    rw [he]
    exact K.place s _ (.bed _ _ (hold _ hc) hw) hs
  · obtain ⟨p, ht, he⟩ := State.commitPile_eq_inr h
    rw [he]
    exact K.installPile s _ _ _ ht hs
  · obtain ⟨g, he⟩ := State.commitGrade_eq_inr h
    rw [he]
    exact K.reevaluateWhere _ (K.of_core hs rfl)
  · obtain ⟨m, he⟩ := State.commitModel_eq_inr h
    rw [he]
    exact K.of_core hs rfl
  · next hc =>
    obtain ⟨r, ht, he⟩ := State.commitCannon_eq_inr h
    rw [he]
    exact K.installCannon (K.place s _ (.cannon _ _ _ (hold _ hc) ht) hs)
  · obtain ⟨e, hf, ht, he⟩ := State.commitExclusion_eq_inr h
    rw [he]
    exact K.exclude s _ _ hf ht hs
  · obtain ⟨ht, he⟩ := State.commitMain_eq_inr h
    rw [he]
    exact K.of_core (K.commitMain s _ _ ht hs) (by simp)
  · exact K.commitSource s _ _ _ h hs
  · rw [State.commitYard_eq] at h
    rw [← Sum.inr.inj h]
    exact K.settleLines _ (K.of_core (K.of_core (t := s.installYard b.values) hs rfl) (State.follow_core _))
  all_goals exact absurd h Sum.inl_ne_inr

theorem Kept.commit (buffer : Byte) (hs : P s) : P (s.commit buffer).1 := by
  unfold State.commit
  split
  · exact hs
  · split
    · exact hs
    · next b hb =>
      split
      · exact hs
      · split
        · exact hs
        · next t ht => exact K.buffer t _ (.empty _) (K.installRecord hb ht hs)

theorem Kept.retireRecord {cls : RecordClass} {i : Nat} (h : s.retireRecord cls i = .inr t) (hs : P s) :
    P t := by
  unfold State.retireRecord at h
  split at h
  · split at h
    · next hp =>
      cases h
      exact K.retirePile s _ hp hs
    · cases h
  · split at h
    · unfold State.retireCannon at h
      dsimp only at h
      split at h
      · cases h
      · next hl =>
        split at h
        · cases h
        · next hc =>
          cases h
          refine K.buffer _ _ (.lose _ _) (K.of_core (K.clearNames _ ?_) (State.askAll_core _))
          have hp := K.place s _
            (.retireCannon (Fin.ofNat 24 i) (by simpa using hl) (by simpa using hc)) hs
          exact K.of_core hp rfl
    · cases h
  · split at h
    · unfold State.retireExclusion at h
      split at h
      · cases h
      · next hf =>
        cases h
        exact K.buffer _ _ (.lose _ _) (K.of_core (K.place s _ (.retireExclusion _ (by simpa using hf)) hs) (State.askAll_core _))
    · cases h
  · split at h
    · cases h
      unfold State.retireSlot
      dsimp only
      split
      · exact K.driftReevaluate (K.time s _ (.retire _) hs)
      · exact K.time s _ (.retire _) hs
    · cases h
  · split at h
    · cases h
      unfold State.retireObservation
      dsimp only
      split
      · exact K.driftReevaluate (K.of_core hs rfl)
      · exact K.of_core hs rfl
    · cases h
  all_goals cases h

theorem Kept.retire (cls index : Byte) (hs : P s) : P (s.retire cls index).1 := by
  unfold State.retire
  split
  · exact hs
  · split
    · exact hs
    · split
      · exact hs
      · split
        · exact hs
        · next t ht => exact K.retireRecord ht hs

/-! ## The other commands -/

theorem Kept.stage (buffer cls index : Byte) (hs : P s) : P (s.stage buffer cls index).1 := by
  unfold State.stage
  split
  · exact hs
  · split
    · exact hs
    · split
      · exact K.buffer s _ (.stage _ _ _) hs
      · exact hs

theorem Kept.fill (buffer : Option Byte) (data : List Byte) (hs : P s) : P (s.fill buffer data).1 := by
  unfold State.fill
  split
  · unfold State.fillBuffer
    split
    · exact hs
    · split
      · exact hs
      · next b hb => exact K.buffer s _ (.fill _ _ hb _ _) hs
  · exact hs

theorem Kept.clockHold (hs : P s) : P s.clockHold.1 := by
  unfold State.clockHold
  split
  · next h => exact K.time s _ (.hold h) hs
  · exact hs
  · exact hs

theorem Kept.clockSet (day : Word16) (second : Word24) (hs : P s) : P (s.clockSet day second).1 := by
  unfold State.clockSet
  split
  · exact hs
  · next h =>
    split
    · exact hs
    · next h2 =>
      have ht := K.time s _ (.set day second.toNat h (by omega)) hs
      dsimp only [State.setTime]
      exact K.driftReevaluate ht

theorem Kept.clockRun (hs : P s) : P s.clockRun.1 := by
  unfold State.clockRun
  split
  · exact hs
  · exact hs
  · next h =>
    have ht := K.time s _ (.run h) hs
    dsimp only
    split
    · exact ht
    · exact K.rolloverDay _ ht

theorem Kept.forecast (x : Slot) (sector : Nat) (hs : P s) : P (s.forecast x sector).1 := by
  unfold State.forecast
  split
  · exact hs
  · next h =>
    split
    · exact hs
    · next ht =>
      have hx := K.time s _ (.forecast x sector h ht) hs
      unfold State.installSlot
      dsimp only
      split
      · exact K.driftReevaluate hx
      · exact hx

theorem Kept.observe (speed gust sector humidity : Nat) (hs : P s) :
    P (s.observe speed gust sector humidity).1 := by
  unfold State.observe
  split
  · exact hs
  · dsimp only [State.installObservation]
    exact K.driftReevaluate (K.of_core hs rfl)

theorem Kept.order (pile priority cannon : Byte) (hs : P s) : P (s.order pile priority cannon).1 := by
  unfold State.order
  split
  · exact hs
  · next hd =>
    split
    · unfold State.orderPile
      split
      · exact hs
      · split
        · exact hs
        · next he =>
          split
          · exact hs
          · exact K.placeOrder s _ _ _ (by simpa using hd) (by simpa using he) hs
    · exact hs

theorem Kept.withdraw (pile : Byte) (hs : P s) : P (s.withdraw pile).1 := by
  unfold State.withdraw
  split
  · exact hs
  · split
    · exact hs
    · next o ho =>
      split
      · exact hs
      · next hn => exact K.withdrawOrder s _ o ho (by simpa [Option.isSome_iff_ne_none] using hn) hs

theorem Kept.acknowledge (mask : Word16) (hs : P s) : P (s.acknowledge mask).1 := by
  unfold State.acknowledge
  split
  · exact hs
  · dsimp only
    split
    · exact K.clearSpilled _ (K.of_core hs rfl)
    · exact K.of_core hs rfl

theorem Kept.hold (hs : P s) : P s.hold.1 := by
  unfold State.hold
  split <;> dsimp only
  · next h => exact K.holdYard s h hs
  all_goals exact hs

theorem Kept.drain (hs : P s) : P s.drain.1 := by
  unfold State.drain
  split <;> dsimp only
  · next h => exact K.drainYard s (.inl h) hs
  · next h => exact K.drainYard s (.inr h) hs
  all_goals exact hs

theorem Kept.resumeYard (hs : P s) : P s.resume.1 := by
  unfold State.resume
  split
  · exact hs
  · exact hs
  · next h =>
    split
    · exact hs
    · dsimp only [State.resumeHeld]
      exact K.of_core (K.resumeHeld s h hs) (State.askAll_core _)
  · next h =>
    split
    · exact hs
    · dsimp only [State.resumeDrained]
      exact K.of_core (K.reevaluateWhere _ (K.resumeDrained s h hs)) (State.askAll_core _)

theorem Kept.fix (e : Byte) (hs : P s) : P (s.fix e).1 := by
  unfold State.fix
  split
  · exact hs
  · split
    · exact hs
    · split
      · exact hs
      · next hc =>
        split
        · exact hs
        · exact K.stored s _ (.beginFix _ (by simpa using hc)) hs

theorem Kept.closeStore (hs : P s) : P s.closeStore.1 := by
  unfold State.closeStore
  split
  · exact hs
  · next hc => exact K.stored s _ (.beginClose (by simpa using hc)) hs

theorem Kept.tag (data : List Byte) (hs : P s) : P (s.tag data).1 := by
  unfold State.tag
  split
  · exact hs
  · exact K.stored s _ (.beginTag _) hs

/-! ## The frame of a step -/

theorem Kept.hostCommand (code i : Byte) (act : State → State × Answer) (ha : P (act s).1) (hs : P s) :
    P (s.hostCommand code i act) := by
  unfold State.hostCommand
  split
  · split
    · exact K.of_core hs (State.refuseBusy_core _ _ _)
    · exact K.of_core (K.runAttempts ha) (State.commandEnd_core _ _ _)
  · exact K.of_core hs (State.conclude_core _)

theorem Kept.event (act : State → State) (ha : P (act s)) (hs : P s) : P (s.event act) := by
  unfold State.event
  split
  · exact K.of_core (K.runAttempts ha) (State.eventEnd_core _)
  · exact K.of_core hs (State.conclude_core _)

theorem Kept.portStep (act : State → State) (ha : (act s).core = s.core) (hs : P s) :
    P (s.portStep act) := by
  unfold State.portStep
  split
  · exact K.of_core hs ((State.conclude_core _).trans ha)
  · exact K.of_core hs (State.conclude_core _)

omit K in
theorem Kept.passTimer {c : Fin 8} {timer : Pass → Option Nat} {f : State → Pass → State}
    (hf : ∀ p, s.engine.contexts.get c = some p → timer p = some 0 → P (f s p)) (hs : P s) :
    P (s.passTimer c timer f) := by
  unfold State.passTimer
  split
  · next p hp =>
    split
    · next ht => exact hf p hp ht
    · exact hs
  · exact hs

/-- Every command keeps what its effects keep. -/
theorem Kept.exec {c : Instr} (h : exec c s = .next t) (hs : P s) : P t := by
  cases c <;> cases h
  case status n => exact K.portStep _ (by simp) hs
  case look k i n => exact K.portStep _ (by simp [State.openLook]) hs
  case locate b y n => exact K.portStep _ (by simp [State.openLocate]) hs
  case notices n => exact K.portStep _ (by simp [State.openNotices]) hs
  case ident n => exact K.portStep _ (by simp [State.openIdent]) hs
  case stage b k i => exact K.hostCommand _ _ _ (K.stage b k i hs) hs
  case fill b d => exact K.hostCommand _ _ _ (K.fill b d hs) hs
  case matchBuffer b => exact K.hostCommand _ _ _ hs hs
  case commit b => exact K.hostCommand _ _ _ (K.commit b hs) hs
  case retire k i => exact K.hostCommand _ _ _ (K.retire k i hs) hs
  case clockHold => exact K.hostCommand _ _ _ (K.clockHold hs) hs
  case clockSet d n => exact K.hostCommand _ _ _ (K.clockSet d n hs) hs
  case clockRun => exact K.hostCommand _ _ _ (K.clockRun hs) hs
  case forecast h n k m g u w r => exact K.hostCommand _ _ _ (K.forecast _ _ hs) hs
  case observe v g k u => exact K.hostCommand _ _ _ (K.observe _ _ _ _ hs) hs
  case order p r k => exact K.hostCommand _ _ _ (K.order p r k hs) hs
  case withdraw p => exact K.hostCommand _ _ _ (K.withdraw p hs) hs
  case inflow y v k =>
    refine K.hostCommand _ _ _ ?_ hs
    unfold State.inflow
    repeat' split
    all_goals first | exact hs | exact K.inflow s _ _ _ hs
  case gauge y v k =>
    refine K.hostCommand _ _ _ ?_ hs
    unfold State.gauge
    split
    · exact hs
    · split
      · exact hs
      · next hv => exact K.gauge s _ _ _ (by omega) hs
  case isolate y =>
    refine K.hostCommand _ _ _ ?_ hs
    unfold State.isolate
    split
    · exact hs
    · dsimp only
      split
      · exact hs
      · exact K.isolate s _ hs
  case restore y =>
    refine K.hostCommand _ _ _ ?_ hs
    unfold State.restore
    split
    · exact hs
    · dsimp only
      split
      · exact K.restore s _ hs
      · exact hs
  case clear m =>
    refine K.hostCommand _ _ _ ?_ hs
    unfold State.clear
    split
    · exact hs
    · split
      · next hf => exact K.of_core (K.clearFault s _ hf hs) (State.ask_core _ _)
      · exact hs
  case hold => exact K.hostCommand _ _ _ (K.hold hs) hs
  case drain => exact K.hostCommand _ _ _ (K.drain hs) hs
  case resume => exact K.hostCommand _ _ _ (K.resumeYard hs) hs
  case acknowledge w => exact K.hostCommand _ _ _ (K.acknowledge w hs) hs
  case fix e => exact K.hostCommand _ _ _ (K.fix e hs) hs
  case close => exact K.hostCommand _ _ _ (K.closeStore hs) hs
  case tag d => exact K.hostCommand _ _ _ (K.tag d hs) hs
  case reset =>
    split
    · split
      · exact K.of_core hs (State.refuseBusy_core _ _ _)
      · exact K.resetCommand s hs
    · exact K.of_core hs (State.conclude_core _)
  case unknownCommand c => exact K.portStep _ rfl hs
  case shortParameterDeselect c d => exact K.portStep _ rfl hs
  case transactionTimeout d => exact K.portStep _ (by split <;> simp) hs
  case fixWriteEnd =>
    refine K.event _ ?_ hs
    split
    · next i hw => exact K.of_core (K.stored s _ (.endFix i hw) hs) (State.answer_core _ _ _ _)
    · exact hs
  case closeWriteEnd =>
    refine K.event _ ?_ hs
    split
    · next hw => exact K.of_core (K.stored s _ (.endClose hw) hs) (State.answer_core _ _ _ _)
    · exact hs
  case tagWriteEnd =>
    refine K.event _ ?_ hs
    split
    · next d hw => exact K.of_core (K.stored s _ (.endTag d hw) hs) (State.answer_core _ _ _ _)
    · exact hs
  case powerOn => exact K.resetWhole s _ _ hs
  case resetLine => exact K.resetWhole s _ _ hs
  case initialisationEnd =>
    refine K.event _ ?_ hs
    split
    · exact K.driftReevaluate (K.of_core hs rfl)
    · exact hs
  case yardClockAdvance =>
    refine K.event _ ?_ hs
    split
    · next h => exact K.time s _ (.advance h.1) hs
    · exact hs
  case assessment =>
    refine K.event _ ?_ hs
    split
    · exact K.assess _ (K.time s _ .assessment hs)
    · exact hs
  case hourRollover =>
    refine K.event _ ?_ hs
    split
    · exact K.driftReevaluate (K.time s _ .hour hs)
    · exact hs
  case dayRollover =>
    refine K.event _ ?_ hs
    split
    · exact K.rolloverDay _ (K.time s _ .day hs)
    · exact hs
  case observationLifeExpiry =>
    refine K.event _ ?_ hs
    split
    · exact K.driftReevaluate (K.of_core hs rfl)
    · exact hs
  case settleTimerExpiry b =>
    refine K.event _ ?_ hs
    split
    · exact K.settled s b hs
    · exact hs
  case primeTimerExpiry c =>
    exact K.event _ (Kept.passTimer (fun p hp ht => K.primeOut s c p hp ht hs) hs) hs
  case bayDwellExpiry c =>
    exact K.event _ (Kept.passTimer (fun p hp ht => K.finishBay s c p hp ht hs) hs) hs
  case suspensionLimitExpiry c =>
    exact K.event _ (Kept.passTimer (fun p hp ht => K.endPass s c _ (by simp) hs) hs) hs
  case drainTimerExpiry m =>
    refine K.event _ ?_ hs
    split
    · next h => exact K.drained s m h hs
    · exact hs
  case rawLineChange i high =>
    split
    · exact K.of_core (K.runAttempts (K.rawChange i high hs)) (State.eventEnd_core _)
    · exact K.of_core hs rfl
  case qualifyingTimerExpiry i =>
    refine K.event _ ?_ hs
    split
    · exact K.qualified i hs
    · exact hs
  case reTakeTimerExpiry i =>
    refine K.event _ ?_ hs
    split
    · exact K.takeLine i (K.mapLine i _ hs)
    · exact hs
  case resetLineRelease =>
    split
    · exact K.of_core hs rfl
    · exact K.of_core hs rfl
  case powerLoss => exact K.resetWhole s _ _ hs

/-- One unit of 50 ms keeps what the clock's unit and a second keep. -/
theorem Kept.unit (hs : P s) : P s.unit := by
  have ht : P ({ s with
      port := s.port.tick
      clock := s.clock.unit
      field := { s.field with lines := s.field.lines.tick }
      startup :=
        { s.startup with
          initialising := countDown s.startup.initialising
          phase := (s.startup.phase + 1) % 20 } } : State) :=
    K.of_core (K.time s (s.setClock s.clock.unit) .unit hs) rfl
  unfold State.unit
  dsimp only
  split
  · exact K.second _ ht
  · exact ht

/-- Every step keeps what each effect keeps. -/
theorem Kept.step (h : step s = .next t) (hs : P s) : P t := by
  unfold Sys2Proof.Machine.step at h
  split at h
  · cases h
    unfold State.idle
    split
    · split
      · exact K.of_core hs rfl
      · exact K.of_core (K.unit hs) (State.conclude_core _)
    · exact K.of_core hs (State.conclude_core _)
  · exact K.exec h (K.of_core hs rfl)

end Walks

end Sys2Proof.Machine

/-! PROOFS. Every step ends settled (07 R138; 06 R110; log 23): the pins follow, no attempt is left, and no pin change
is left over. -/

namespace Sys2Proof.Machine

/-! ## The port leaves the engine alone -/

section Port

variable (s : State)

theorem State.readSelect_engine {act : State → State} (h : ∀ t, (act t).engine = t.engine) (code : Byte)
    (held : Nat) : (s.readSelect code held act).engine = s.engine := by
  unfold State.readSelect
  dsimp only
  split
  · simp
  · simp [h]

@[simp] theorem State.openRead_engine (code i : Byte) (n : Clocking) (form : State → Reading) :
    (s.openRead code i n form).engine = s.engine := by
  refine s.readSelect_engine (fun t => ?_) code n.held
  split
  · simp
  · split <;> simp

@[simp] theorem State.beginStatus_engine (n : Clocking) : (s.beginStatus n).engine = s.engine :=
  s.readSelect_engine (act := fun t => t.openPort n.held (.streaming [] n.counts)) (fun _ => rfl) _ _

@[simp] theorem State.receive_engine (d : List Byte) : (s.receive d).engine = s.engine := by
  unfold State.receive
  dsimp only
  split <;> simp [State.openLook, State.openLocate, State.openNotices, State.openIdent]

@[simp] theorem State.timeOut_engine (d : List Byte) : (s.timeOut d).engine = s.engine := by
  unfold State.timeOut
  split <;> simp

end Port

/-! ## Settled states -/

/-- The pins follow, and no pin change is left over. -/
def State.PinsSettled (s : State) : Prop := s.PinsFollow ∧ s.field.made = []

/-- At the end of a step the pins follow, and the changes made in it are all in its list. -/
theorem State.conclude_pinsSettled (s : State) : s.conclude.PinsSettled := by
  refine ⟨?_, by simp⟩
  simp only [State.PinsFollow, State.conclude_field_pins, State.pinsFollowed, State.conclude_engine,
    State.conclude_notices]

/-- The reset values of the pins follow the reset values of the mains, the contexts and the notices. -/
theorem State.afterReset_pinsSettled (pending : List Instr) (clock : Clock) (horizon : Horizon)
    (lines : Lines) (store : Store) (startup : Startup) (turns : List (Fin 4)) :
    (State.afterReset pending clock horizon lines store startup turns).PinsSettled := by
  refine ⟨?_, rfl⟩
  have hv : (State.afterReset pending clock horizon lines store startup turns).pinsFollowed.valves
      = Table.fill 24 false := Table.ext_get fun k => by
    rw [Table.get_fill, ← Bool.not_eq_true, State.pinsFollowed_valves]
    simp [State.afterReset]
  have hp : (State.afterReset pending clock horizon lines store startup turns).pinsFollowed.pumps
      = Table.fill 4 false := Table.ext_get fun m => by
    simp [State.pinsFollowed, State.afterReset, Main.pumpOn, Main.reset]
  have hm : (State.afterReset pending clock horizon lines store startup turns).pinsFollowed.selects
      = Table.fill 4 7 := Table.ext_get fun m => by
    simp [State.pinsFollowed, State.afterReset, Main.selectCode, Main.reset]
  have ha : (State.afterReset pending clock horizon lines store startup turns).pinsFollowed.attention
      = false := by
    rw [← Bool.not_eq_true, State.pinsFollowed_attention]
    simp [State.afterReset]
  show Pins.reset = State.pinsFollowed _
  rw [Pins.reset, ← hv, ← hp, ← hm, ← ha]

/-- How a command ends: at the end of a step, or with a reset. -/
theorem exec_settles {c : Instr} {s t : State} (h : exec c s = .next t) :
    t.PinsSettled ∧ (s.NoneAsked → t.NoneAsked) := by
  have ofConclude : ∀ u : State, (s.NoneAsked → u.NoneAsked) →
      u.conclude.PinsSettled ∧ (s.NoneAsked → u.conclude.NoneAsked) := fun u hu =>
    ⟨u.conclude_pinsSettled, fun hs m => by rw [State.conclude_engine]; exact hu hs m⟩
  have ofEngine : ∀ u : State, u.engine = s.engine →
      u.conclude.PinsSettled ∧ (s.NoneAsked → u.conclude.NoneAsked) := fun u hu =>
    ofConclude u fun hs m => by rw [hu]; exact hs m
  have host : ∀ code i act, (s.hostCommand code i act).PinsSettled
      ∧ (s.NoneAsked → (s.hostCommand code i act).NoneAsked) := by
    intro code i act
    unfold State.hostCommand
    split
    · split
      · exact ofEngine _ rfl
      · refine ofConclude _ fun _ m => ?_
        have hn := (act s).1.runAttempts_noneAsked none m
        cases (act s).2 <;> exact hn
    · exact ofEngine _ rfl
  have event : ∀ act, (s.event act).PinsSettled ∧ (s.NoneAsked → (s.event act).NoneAsked) := by
    intro act
    unfold State.event
    split
    · exact ofConclude _ fun _ => (act s).runAttempts_noneAsked none
    · exact ofEngine _ rfl
  have port : ∀ act : State → State, (act s).engine = s.engine →
      (s.portStep act).PinsSettled ∧ (s.NoneAsked → (s.portStep act).NoneAsked) := by
    intro act ha
    unfold State.portStep
    split
    · exact ofEngine _ ha
    · exact ofEngine _ rfl
  have reset : ∀ pending clock horizon lines store startup turns,
      (s.resetTo (State.afterReset pending clock horizon lines store startup turns)).PinsSettled
      ∧ (s.NoneAsked →
        (s.resetTo (State.afterReset pending clock horizon lines store startup turns)).NoneAsked) :=
    fun p c z l n u r => ⟨State.afterReset_pinsSettled p c z l n u r,
      fun _ m => by simp [State.resetTo, State.afterReset]⟩
  cases c <;> cases h
  case status n => exact port _ (by simp)
  case look k i n => exact port _ (by simp [State.openLook])
  case locate b y n => exact port _ (by simp [State.openLocate])
  case notices n => exact port _ (by simp [State.openNotices])
  case ident n => exact port _ (by simp [State.openIdent])
  case reset =>
    split
    · split
      · exact ofEngine _ rfl
      · exact reset _ _ _ _ _ _ _
    · exact ofEngine _ rfl
  case unknownCommand c => exact port _ rfl
  case shortParameterDeselect c d => exact port _ rfl
  case transactionTimeout d => exact port _ (by split <;> simp)
  case powerOn => exact reset _ _ _ _ _ _ _
  case resetLine => exact reset _ _ _ _ _ _ _
  case powerLoss => exact reset _ _ _ _ _ _ _
  case resetLineRelease =>
    refine ofEngine _ ?_
    split <;> rfl
  case rawLineChange i high =>
    split
    · exact ofConclude _ fun _ => (s.rawChange i high).runAttempts_noneAsked none
    · exact ofEngine _ rfl
  all_goals first | exact host _ _ _ | exact event _

/-- A unit of 50 ms asks for no attempt. -/
theorem State.unit_asked (s : State) : s.unit.engine.asked = s.engine.asked := by
  unfold State.unit
  dsimp only
  split <;> rfl

/-- What each step leaves settled (07 R138; 06 R110; log 23). -/
theorem step_settles {s t : State} (h : step s = .next t) :
    (s.PinsFollow → t.PinsFollow) ∧ (s.NoneAsked → t.NoneAsked)
      ∧ (s.field.made = [] → t.field.made = []) := by
  unfold step at h
  split at h
  · cases h
    unfold State.idle
    split
    · split
      · exact ⟨id, id, id⟩
      · have hc := s.unit.conclude_pinsSettled
        refine ⟨fun _ => hc.1, fun hn m => ?_, fun _ => hc.2⟩
        rw [State.conclude_engine, State.unit_asked]
        exact hn m
    · have hc := s.conclude_pinsSettled
      refine ⟨fun _ => hc.1, fun hn m => ?_, fun _ => hc.2⟩
      rw [State.conclude_engine]
      exact hn m
  · obtain ⟨⟨hp, hm⟩, hn⟩ := exec_settles h
    exact ⟨fun _ => hp, hn, fun _ => hm⟩

/-- Settles O54: the settled ends of every step, what the pins follow, and the order of their changes. -/
theorem stepsEndSettled : Obligations.StepsEndSettled := by
  unfold Obligations.StepsEndSettled
  refine ⟨fun s t h => step_settles h, fun s => ⟨Iff.rfl, s.pinsFollowed_valves, s.pinsFollowed_pumps,
    fun m => ⟨fun x hx => ?_, fun hx => ?_⟩, s.pinsFollowed_attention⟩, fun old new rank hv hm ha =>
    ⟨pairwise_pinChanges old new hv hm ha, valve_mem_pinChanges old new, pump_mem_pinChanges old new,
      select_mem_pinChanges old new, attention_mem_pinChanges old new⟩⟩
  · simp [State.pinsFollowed, Main.selectCode, hx]
  · simp [State.pinsFollowed, Main.selectCode, hx]

end Sys2Proof.Machine

/-! PROOFS. The laws of the records: of the clock and the slots (02 R22, R28), of the geometry (01 R1, R6), and of the
store (01 R18 to R20). Passes, orders, water and attempts leave the records alone. -/

namespace Sys2Proof.Machine

/-! ## What the laws of the records speak of -/

/-- The records: the buffers, the geometry, the clock, the slots, and the store but for its tag. -/
structure Records where
  staging : Table 2 (Option Staged)
  geometry : Geometry
  clock : Clock
  slots : Table 36 (Option Slot)
  entries : Table 16 (Option StoredExclusion)
  closed : Bool
  write : Option StoreWrite

/-- The records of a state. -/
def State.records (s : State) : Records :=
  { staging := s.staging, geometry := s.geometry, clock := s.clock, slots := s.horizon.slots,
    entries := s.store.entries, closed := s.store.closed, write := s.store.write }

/-- The records of a frame. -/
def Frame.records (f : Frame) : Records :=
  { staging := f.staging, geometry := f.geometry, clock := f.clock, slots := f.horizon.slots,
    entries := f.store.entries, closed := f.store.closed, write := f.store.write }

/-- What keeps the frame keeps the records. -/
theorem State.records_of_frame {s t : State} (h : t.frame = s.frame) : t.records = s.records :=
  congrArg Frame.records h

/-! ## Operations that keep the records -/

section

variable (s : State)

theorem State.placeOrder_frame (i : Fin 48) (r : Priority) (n : Option (Fin 24)) :
    (s.placeOrder i r n).1.frame = s.frame := by
  unfold State.placeOrder
  split
  · exact s.mergeOrder_frame _ _ _
  · split
    · next h => exact State.join_frame h
    · rfl

theorem State.holdYard_records : s.holdYard.records = s.records :=
  State.records_of_frame (s := s.setMode .held) (State.holdPasses_frame _)

theorem State.drainYard_records : s.drainYard.records = s.records := by
  have hd : ∀ t : State, t.startDrainTimers.records = t.records := fun _ => rfl
  unfold State.drainYard
  rw [State.records_of_frame (State.emptyQueue_frame _), hd,
    State.records_of_frame (State.drainPasses_frame _)]
  rfl

theorem State.closeMains_records : s.closeMains.records = s.records :=
  s.forEach_keeps State.records _ _ fun _ _ => rfl

theorem State.drained_records (m : Fin 4) : (s.drained m).records = s.records := by
  unfold State.drained
  dsimp only
  split <;> rfl

theorem State.commitSource_records {t : State} {i : Fin 6} {v : List Nat}
    (h : s.commitSource i v = .inr t) : t.records = s.records := by
  unfold State.commitSource at h
  split at h
  · next b _ =>
    unfold State.commitBasin at h
    dsimp only at h
    split at h
    · exact absurd h Sum.inl_ne_inr
    · rw [← Sum.inr.inj h]
      exact State.records_of_frame (by simp)
  · rw [← Sum.inr.inj h]
    rfl

theorem State.second_records : s.second.records = s.records := rfl

/-- A COMMIT of a pile keeps every record but its own, and the indexes. -/
theorem State.installPile_records (i : Fin 48) (p : Pile) (n : Nat) :
    (s.installPile i p n).records
      = ({ s with geometry := s.geometry.placePile i p } : State).records :=
  State.records_of_frame (by simp [State.installPile])

/-- The pass and the order of a pile that is retired, and its part in the MUST count, gone (01 R9). -/
def State.clearPile (i : Fin 48) : State :=
  let t := match s.contextOf i with
    | some c => s.endPass none c (.cutShort .retired) false
    | none => s
  (if t.hasOrder i then t.dropOrder i else t).discardMust i

/-- A pile taken from the geometry and the indexes (01 R6, R9). -/
def State.removePile (i : Fin 48) : State :=
  { s with geometry := { s.geometry with
    piles := s.geometry.piles.put i none, index := s.geometry.unindexed i } }

/-- RETIRE of a pile in its steps (01 R9). -/
theorem State.retirePile_eq (i : Fin 48) :
    s.retirePile i
      = (((s.clearPile i).removePile i).mapLiving i fun _ => Living.blank).loseBases .pile i.val := rfl

theorem State.clearPile_frame (i : Fin 48) : (s.clearPile i).frame = s.frame := by
  unfold State.clearPile State.discardMust
  rw [State.countMust_frame]
  split <;> split <;> simp

end

/-! ## The effects that reach the records -/

/-- What a law of the records must be kept by. -/
structure KeptByRecords (P : State → Prop) : Prop where
  congr : ∀ s t, t.records = s.records → P s → P t
  time : ∀ s t, s.TimeStep t → P s → P t
  stored : ∀ s t, s.StoreStep t → P s → P t
  buffer : ∀ s t, s.BufferStep t → P s → P t
  place : ∀ s t, s.PlaceStep t → P s → P t
  placePile : ∀ s i p, s.pileTest i p = none → P s → P { s with geometry := s.geometry.placePile i p }
  removePile : ∀ s i, P s → P (s.removePile i)
  setExclusion : ∀ s i e, e.fixed = false → s.exclusionTest i e = none → P s → P (s.setExclusion i (some e))
  resetWhole : ∀ s powered resetLow, P s → P (s.resetWhole powered resetLow)
  resetCommand : ∀ s, P s → P s.resetCommand

section

variable {P : State → Prop}

theorem KeptByRecords.of_frame (K : KeptByRecords P) {s t : State} (h : t.frame = s.frame) (hs : P s) :
    P t :=
  K.congr s t (State.records_of_frame h) hs

/-- A law of the records is kept by everything that leaves the records alone. -/
theorem KeptByRecords.kept (K : KeptByRecords P) : Kept P where
  core _ := ⟨K.congr _ _ rfl, K.congr _ _ rfl⟩
  endPass s c e _ := K.of_frame (s.endPass_frame none c e true)
  resume s c p _ _ _ := K.of_frame (s.resumePass_frame none c p)
  request s m c _ _ := K.of_frame (s.requestAndStart_frame none m c)
  time := K.time
  stored := K.stored
  buffer := K.buffer
  place := K.place
  installPile s i p n ht hs := K.congr _ _ (s.installPile_records i p n) (K.placePile s i p ht hs)
  exclude s i e hf ht hs := K.of_frame (State.trimPasses_frame _ _ _ _) (K.setExclusion s i e hf ht hs)
  commitMain _ _ _ _ := K.of_frame rfl
  commitSource s _ _ t h := K.congr s t (s.commitSource_records h)
  retirePile s i _ hs := K.buffer _ _ (.lose _ _) (K.congr (State.removePile _ i) _ rfl
    (K.removePile _ i (K.of_frame (s.clearPile_frame i) hs)))
  requeue _ _ _ := K.of_frame rfl
  evaluate s i w n := K.of_frame (s.evaluate_frame i w n true)
  assessPile s w r i := K.of_frame (s.assessPile_frame w r i)
  placeOrder s i r n _ _ := K.of_frame (s.placeOrder_frame i r n)
  withdrawOrder s _ o _ _ := K.of_frame (s.withdrawOrder_frame o)
  suspendPass s c p _ _ := K.of_frame (s.suspendPass_frame c p)
  holdPass _ _ _ _ _ _ _ := K.of_frame rfl
  finishBay s c p _ _ := K.of_frame (s.finishBay_frame none c p)
  confirmFlow s m := K.of_frame (s.confirmFlow_frame m)
  loseFlow s m := K.of_frame (s.loseFlow_frame m)
  primeOut s c _ _ _ := K.of_frame (s.endPass_frame none c _ true)
  clearFault _ _ _ := K.of_frame rfl
  inflow s b v n := K.of_frame (s.takeInflow_frame b v n)
  gauge s b l n _ := K.of_frame (s.takeGauge_frame b l n)
  isolate s y := K.of_frame (s.isolateSource_frame y)
  restore s y := K.of_frame (s.restoreSource_frame y)
  settled s b := K.of_frame (s.settled_frame b)
  clearSpilled _ := K.of_frame rfl
  rolloverDay s := K.of_frame s.rolloverDay_frame
  holdYard s _ := K.congr s _ s.holdYard_records
  drainYard s _ := K.congr s _ s.drainYard_records
  resumeHeld s _ := K.congr s _ rfl
  resumeDrained s _ := K.congr s _ (State.closeMains_records _)
  drained s m _ := K.congr s _ (s.drained_records m)
  second s := K.congr s _ s.second_records
  resetWhole := K.resetWhole
  resetCommand := K.resetCommand

end

/-! ## The store (01 R18 to R20) -/

/-- The fixed exclusion at a position agrees with the store's entry there (01 R18, R19). -/
def FixedAgrees (entry : Option StoredExclusion) (exclusion : Option Exclusion) : Prop :=
  match entry with
  | some n => ∃ e, exclusion = some e ∧ e.fixed = true ∧ e.bed = n.bed ∧ e.start = n.start
      ∧ e.length = n.length
  | none => ∀ e, exclusion = some e → e.fixed = false

theorem Geometry.isFixed_eq_false (g : Geometry) (i : Fin 16) :
    g.isFixed i = false ↔ ∀ e, g.exclusions.get i = some e → e.fixed = false := by
  unfold Geometry.isFixed
  split <;> simp_all

theorem State.fixedLaw_iff (s : State) :
    s.FixedLaw ↔ ∀ i, FixedAgrees (s.store.entries.get i) (s.geometry.exclusions.get i) := by
  refine forall_congr' fun i => ?_
  unfold FixedAgrees
  cases s.store.entries.get i with
  | none => exact Geometry.isFixed_eq_false _ i
  | some n => exact Iff.rfl

/-- Where an exclusion is not fixed the store holds no entry, and any exclusion that is not fixed agrees. -/
theorem State.FixedLaw.agrees_of_not_fixed {s : State} (h : s.FixedLaw) {i : Fin 16}
    (hf : s.geometry.isFixed i = false) {x : Option Exclusion} (hx : ∀ e, x = some e → e.fixed = false) :
    FixedAgrees (s.store.entries.get i) x := by
  have hi := (State.fixedLaw_iff s).1 h i
  cases hn : s.store.entries.get i with
  | none => exact hx
  | some n =>
    rw [hn] at hi
    obtain ⟨e, he, hfix, -⟩ := hi
    simp [(Geometry.isFixed_eq_false _ i).1 hf e he] at hfix

/-- An exclusion position that is not fixed may take any exclusion that is not fixed. -/
theorem State.FixedLaw.setExclusion {s : State} (h : s.FixedLaw) {i : Fin 16}
    (hf : s.geometry.isFixed i = false) {x : Option Exclusion} (hx : ∀ e, x = some e → e.fixed = false) :
    (s.setExclusion i x).FixedLaw := by
  refine (State.fixedLaw_iff _).2 fun j => ?_
  show FixedAgrees (s.store.entries.get j) ((s.geometry.exclusions.put i x).get j)
  rw [Table.get_put]
  split
  · next hij => exact hij ▸ h.agrees_of_not_fixed hf hx
  · exact (State.fixedLaw_iff s).1 h j

/-- The exclusions rebuilt from the store agree with it (01 R19). -/
theorem Store.rebuild_agrees (n : Store) (i : Fin 16) :
    FixedAgrees (n.entries.get i) (n.rebuild.get i) := by
  rw [Store.rebuild, Table.get_tab]
  cases n.entries.get i with
  | none => exact fun e he => absurd he (by simp)
  | some x => exact ⟨_, rfl, rfl, rfl, rfl, rfl⟩

/-- The end of a FIX leaves the exclusion and its entry in agreement (01 R18). -/
theorem State.FixedLaw.endFix {s : State} (h : s.FixedLaw) (i : Fin 16) : (s.endFix i).FixedLaw := by
  unfold State.endFix
  split
  · exact h
  · next e he =>
    refine (State.fixedLaw_iff _).2 fun j => ?_
    dsimp only
    simp only [Table.get_put]
    split
    · exact ⟨_, rfl, rfl, rfl, rfl, rfl⟩
    · exact (State.fixedLaw_iff s).1 h j

/-- The tests of an EXCLUSION COMMIT refuse a fixed exclusion first (01 R15). -/
theorem State.isFixed_of_exclusionTest {s : State} {i : Fin 16} {e : Exclusion}
    (h : s.exclusionTest i e = none) : s.geometry.isFixed i = false := by
  unfold State.exclusionTest at h
  split at h
  · cases h
  · next hf => exact Bool.eq_false_iff.2 hf

/-- Every effect keeps the agreement of the fixed exclusions with the store (01 R18, R19). -/
theorem fixedLaw_keptByRecords : KeptByRecords State.FixedLaw where
  congr s t h hs := by
    have hg : t.geometry = s.geometry := congrArg Records.geometry h
    have he : t.store.entries = s.store.entries := congrArg Records.entries h
    rw [State.fixedLaw_iff, hg, he]
    exact (State.fixedLaw_iff s).1 hs
  time s t h hs := by rw [h.eq]; exact hs
  stored s t h hs := by
    cases h with
    | endFix i => exact hs.endFix i
    | _ => exact hs
  buffer s t h hs := by rw [h.eq]; exact hs
  place s t h hs := by
    cases h with
    | retireExclusion i hf => exact hs.setExclusion hf (by simp)
    | _ => exact hs
  placePile _ _ _ _ hs := hs
  removePile _ _ hs := hs
  setExclusion s i e hf ht hs :=
    hs.setExclusion (State.isFixed_of_exclusionTest ht) fun e' he => by cases he; exact hf
  resetWhole s _ _ _ := (State.fixedLaw_iff _).2 s.store.rebuild_agrees
  resetCommand s _ := (State.fixedLaw_iff _).2 s.store.rebuild_agrees

/-- No effect begins a FIX in a closed store (01 R18, R20). -/
theorem closedLaw_keptByRecords : KeptByRecords State.ClosedLaw where
  congr s t h hs := by
    have hc : t.store.closed = s.store.closed := congrArg Records.closed h
    have hw : t.store.write = s.store.write := congrArg Records.write h
    rw [State.ClosedLaw, hc, hw]
    exact hs
  time s t h hs := by rw [h.eq]; exact hs
  stored s t h hs := by
    cases h with
    | beginFix i hc =>
      intro hc'
      exact absurd (hc.symm.trans hc') (by simp)
    | beginClose | beginTag => exact fun _ _ => by simp [State.beginWrite]
    | endFix i =>
      unfold State.endFix
      split <;> exact fun _ _ => by simp [Store.written]
    | endClose | endTag => exact fun _ _ => by simp [Store.written]
  buffer s t h hs := by rw [h.eq]; exact hs
  place s t h hs := by rw [h.eq]; exact hs
  placePile _ _ _ _ hs := hs
  removePile _ _ hs := hs
  setExclusion _ _ _ _ _ hs := hs
  resetWhole _ _ _ _ := fun _ _ => by simp [State.resetWhole, State.resetTo, State.afterReset]
  resetCommand _ _ := fun _ _ => by simp [State.resetCommand, State.resetTo, State.afterReset]

/-- A closed store stays closed, with the entries it has (01 R20). -/
def State.ClosedWith (entries : Table 16 (Option StoredExclusion)) (s : State) : Prop :=
  s.ClosedLaw ∧ s.store.closed = true ∧ s.store.entries = entries

/-- Every effect keeps the entries of a closed store. -/
theorem closedWith_keptByRecords (entries : Table 16 (Option StoredExclusion)) :
    KeptByRecords (State.ClosedWith entries) where
  congr s t h hs := by
    obtain ⟨hl, hc, he⟩ := hs
    exact ⟨closedLaw_keptByRecords.congr s t h hl, (congrArg Records.closed h).trans hc,
      (congrArg Records.entries h).trans he⟩
  time s t h hs := by rw [h.eq]; exact hs
  stored s t h hs := by
    obtain ⟨hl, hc, he⟩ := hs
    refine ⟨closedLaw_keptByRecords.stored s t h hl, ?_⟩
    cases h with
    | beginFix | beginClose | beginTag | endTag => exact ⟨hc, he⟩
    | endClose => exact ⟨rfl, he⟩
    | endFix i hw => exact absurd hw (hl hc i)
  buffer s t h hs := by rw [h.eq]; exact hs
  place s t h hs := by rw [h.eq]; exact hs
  placePile _ _ _ _ hs := hs
  removePile _ _ hs := hs
  setExclusion _ _ _ _ _ hs := hs
  resetWhole s a b hs := ⟨closedLaw_keptByRecords.resetWhole s a b hs.1, hs.2⟩
  resetCommand s hs := ⟨closedLaw_keptByRecords.resetCommand s hs.1, hs.2⟩

/-- Settles O55: each of the three laws is one of the records. -/
theorem closedStoreNeverGrows : Obligations.ClosedStoreNeverGrows := by
  unfold Obligations.ClosedStoreNeverGrows
  intro s t h
  refine ⟨fixedLaw_keptByRecords.kept.step h, fun hl => ⟨closedLaw_keptByRecords.kept.step h hl, fun hc => ?_⟩⟩
  exact ((closedWith_keptByRecords s.store.entries).kept.step h ⟨hl, hc, rfl⟩).2

/-! ## The clock and the slots (02 R22, R28) -/

/-- A slot stands where the law wants it, for a clock. -/
def SlotStands (c : Clock) (k : Fin 36) (x : Slot) : Prop :=
  slotPosition x.hour = k ∧ c.state ≠ .unset
    ∧ (c.hourRaised = false → c.hour ≤ x.hour ∧ x.hour ≤ c.hour + 35)

/-- What is left after the horizon is aligned was there before, and lies within the horizon (02 R31, R32). -/
theorem State.alignHorizon_slots {s : State} {k : Fin 36} {x : Slot}
    (h : s.alignHorizon.horizon.slots.get k = some x) :
    s.horizon.slots.get k = some x ∧ s.clock.hour ≤ x.hour ∧ x.hour ≤ s.clock.hour + 35 := by
  simp only [State.alignHorizon, Table.get_tab] at h
  split at h
  · next y hy =>
    split at h
    · next hh =>
      cases h
      exact ⟨hy, hh⟩
    · cases h
  · cases h

/-- A second on, the hour is the same unless its rollover is raised (02 R23). -/
theorem Clock.advanced_hour {c : Clock} (h : c.advanced.hourRaised = false) :
    c.hourRaised = false ∧ c.advanced.hour = c.hour := by
  simp only [Clock.advanced, Bool.or_eq_false_iff, decide_eq_false_iff_not] at h
  obtain ⟨hr, hn⟩ := h
  refine ⟨hr, ?_⟩
  by_cases hw : 86399 ≤ c.second
  · simp [hw] at hn
  · simp only [hw, decide_false, Bool.false_eq_true, if_false] at hn
    simp only [Clock.hour, Clock.advanced, hw, decide_false, Bool.false_eq_true, if_false]
    omega

/-- A second on, the clock is a time of day (02 R23). -/
theorem Clock.advanced_bounds {c : Clock} (hd : c.day < 65536) (hs : c.second < 86400) :
    c.advanced.day < 65536 ∧ c.advanced.second < 86400 := by
  by_cases hw : 86399 ≤ c.second
  · simp only [Clock.advanced, hw, decide_true, if_true]
    omega
  · simp only [Clock.advanced, hw, decide_false, Bool.false_eq_true, if_false]
    omega

@[simp] theorem Clock.unit_state (c : Clock) : c.unit.state = c.state := by
  unfold Clock.unit
  split
  · split <;> rfl
  · rfl
  · rfl

@[simp] theorem Clock.unit_day (c : Clock) : c.unit.day = c.day := by
  unfold Clock.unit
  split
  · split <;> rfl
  · rfl
  · rfl

@[simp] theorem Clock.unit_second (c : Clock) : c.unit.second = c.second := by
  unfold Clock.unit
  split
  · split <;> rfl
  · rfl
  · rfl

@[simp] theorem Clock.unit_hourRaised (c : Clock) : c.unit.hourRaised = c.hourRaised := by
  unfold Clock.unit
  split
  · split <;> rfl
  · rfl
  · rfl

/-- The tests of FORECAST keep a slot within the horizon (02 R29). -/
theorem State.hour_of_forecastTest {s : State} {x : Slot} {k : Nat} (h : s.forecastTest x k = none) :
    s.clock.hour ≤ x.hour ∧ x.hour ≤ s.clock.hour + 35 := by
  unfold State.forecastTest at h
  split at h
  · cases h
  · split at h
    · cases h
    · omega

/-- What the clock and FORECAST do keeps the law of the horizon. -/
theorem State.HorizonLaw.timeStep {s t : State} (hs : s.HorizonLaw) (h : s.TimeStep t) : t.HorizonLaw := by
  obtain ⟨⟨hday, hsec, hunset⟩, hslots⟩ := hs
  cases h with
  | hold hr =>
    exact ⟨⟨hday, hsec, by simp⟩, fun k x hx => ⟨(hslots k x hx).1, by simp, (hslots k x hx).2.2⟩⟩
  | set day second hr hle =>
    refine ⟨⟨day.isLt, by show second < 86400; omega, fun h => (by cases h)⟩, fun k x hx => ?_⟩
    obtain ⟨hold, hin⟩ := State.alignHorizon_slots hx
    exact ⟨(hslots k x hold).1, fun h => (by cases h), fun _ => hin⟩
  | run hr =>
    exact ⟨⟨hday, hsec, by simp⟩, fun k x hx => ⟨(hslots k x hx).1, by simp, (hslots k x hx).2.2⟩⟩
  | advance hr =>
    have hst : s.clock.advanced.state = .running := hr
    obtain ⟨hd, hs⟩ := Clock.advanced_bounds hday hsec
    refine ⟨⟨hd, hs, fun h => ?_⟩, fun k x hx => ⟨(hslots k x hx).1, fun h => ?_, fun hh => ?_⟩⟩
    · exact absurd (hst.symm.trans h) (by simp)
    · exact absurd (hst.symm.trans h) (by simp)
    · obtain ⟨hraised, hhour⟩ := Clock.advanced_hour hh
      show s.clock.advanced.hour ≤ x.hour ∧ x.hour ≤ s.clock.advanced.hour + 35
      rw [hhour]
      exact (hslots k x hx).2.2 hraised
  | unit =>
    refine ⟨by simpa [State.ClockLaw] using ⟨hday, hsec, hunset⟩, fun k x hx => ?_⟩
    simpa [Clock.hour] using hslots k x hx
  | assessment => exact ⟨⟨hday, hsec, hunset⟩, hslots⟩
  | hour =>
    refine ⟨⟨hday, hsec, fun h => ⟨(hunset h).1, (hunset h).2.1, rfl⟩⟩, fun k x hx => ?_⟩
    obtain ⟨hold, hin⟩ := State.alignHorizon_slots hx
    exact ⟨(hslots k x hold).1, (hslots k x hold).2.1, fun _ => hin⟩
  | day => exact ⟨⟨hday, hsec, hunset⟩, hslots⟩
  | forecast y n hu ht =>
    have hy := State.hour_of_forecastTest ht
    refine ⟨⟨hday, hsec, hunset⟩, fun k x hx => ?_⟩
    simp only [Table.get_put] at hx
    split at hx
    · next hk =>
      cases hx
      exact ⟨hk, hu, fun _ => hy⟩
    · exact hslots k x hx
  | retire i =>
    refine ⟨⟨hday, hsec, hunset⟩, fun k x hx => ?_⟩
    simp only [Table.get_put] at hx
    split at hx
    · cases hx
    · exact hslots k x hx

/-- Every effect keeps the law of the horizon. -/
theorem horizonLaw_keptByRecords : KeptByRecords State.HorizonLaw where
  congr s t h hs := by
    have hc : t.clock = s.clock := congrArg Records.clock h
    have hz : t.horizon.slots = s.horizon.slots := congrArg Records.slots h
    rw [State.HorizonLaw, State.ClockLaw, hc, hz]
    exact hs
  time _ _ h hs := hs.timeStep h
  stored s t h hs := by rw [h.eq]; exact hs
  buffer s t h hs := by rw [h.eq]; exact hs
  place s t h hs := by rw [h.eq]; exact hs
  placePile _ _ _ _ hs := hs
  removePile _ _ hs := hs
  setExclusion _ _ _ _ _ hs := hs
  resetWhole _ _ _ _ := by
    refine ⟨⟨show 0 < 65536 by decide, show 0 < 86400 by decide, fun _ => ⟨rfl, rfl, rfl⟩⟩, fun k x hx => ?_⟩
    simp [State.resetWhole, State.resetTo, State.afterReset, Horizon.reset] at hx
  resetCommand _ hs := hs

/-- Settles O56: the law of the horizon is one of the records. -/
theorem stepKeepsTheHorizonLaw : Obligations.StepKeepsTheHorizonLaw := by
  unfold Obligations.StepKeepsTheHorizonLaw
  exact fun s t hs h => horizonLaw_keptByRecords.kept.step h hs

end Sys2Proof.Machine

/-! PROOFS. The placement laws (01 R1), the window indexes (01 R6), and the fields that a FILL can leave in a buffer
(08 R157). -/

namespace Sys2Proof.Machine

/-! ## What a FILL can write -/

/-- The field found stands at its place in the layout. -/
theorem findField_getElem? {fields : List FieldSpec} {n k : Nat} {f : FieldSpec}
    (h : findField fields n = some (k, f)) : fields[k]? = some f := by
  unfold findField at h
  rw [Option.map_eq_some_iff] at h
  obtain ⟨⟨g, j⟩, hg, he⟩ := h
  cases he
  have hm := List.mem_of_find?_eq_some hg
  rw [List.mk_mem_zipIdx_iff_getElem?] at hm
  exact hm

/-- Each pair of a FILL's data is of a field at its place in the layout. -/
theorem parsePairs_getElem? {fields : List FieldSpec} (fuel : Nat) (data : List Byte) :
    ∀ x ∈ (parsePairs fields fuel data).1, fields[x.1]? = some x.2.1 := by
  induction fuel generalizing data with
  | zero => cases data <;> simp [parsePairs]
  | succ fuel ih =>
    cases data with
    | nil => simp [parsePairs]
    | cons n rest =>
      simp only [parsePairs]
      split
      · split <;> simp
      · next k f hf =>
        split
        · simp
        · intro x hx
          rcases List.mem_cons.1 hx with rfl | hx
          · exact findField_getElem? hf
          · exact ih _ x hx

/-- A pair that no test refuses holds a value in its field's range (08 R157). -/
theorem range_of_pairFault {base : Option Word16} {f : FieldSpec} {v : Nat}
    (h : pairFault base f v = none) : f.range.holds v = true := by
  unfold pairFault at h
  split at h
  · cases h
  · split at h
    · cases h
    · split at h
      · assumption
      · cases h
  · split at h
    · assumption
    · cases h

/-- Where no pair fails, every pair passes its tests (08 R157). -/
theorem pairFault_of_firstPairFault {base : Option Word16} {pairs : List (Nat × FieldSpec × Nat)}
    (h : firstPairFault base pairs = none) : ∀ x ∈ pairs, pairFault base x.2.1 x.2.2 = none := by
  intro x hx
  have := List.findSome?_eq_none_iff.1 h x hx
  simpa using this

/-- Pairs applied leave the class, the index and the base of a buffer. -/
theorem Staged.apply_keeps (b : Staged) (pairs : List (Nat × FieldSpec × Nat)) :
    (b.apply pairs).cls = b.cls ∧ (b.apply pairs).index = b.index := by
  unfold Staged.apply
  induction pairs generalizing b with
  | nil => exact ⟨rfl, rfl⟩
  | cons x pairs ih => exact ih { b with values := _, written := _ }

/-- A value after some pairs is the one before, or that of a pair at its place. -/
theorem Staged.apply_value (b : Staged) (pairs : List (Nat × FieldSpec × Nat)) (k : Nat) :
    (b.apply pairs).values.getD k 0 = b.values.getD k 0
      ∨ ∃ x ∈ pairs, x.1 = k ∧ (b.apply pairs).values.getD k 0 = x.2.2 := by
  unfold Staged.apply
  induction pairs generalizing b with
  | nil => exact .inl rfl
  | cons x pairs ih =>
    rcases ih { b with values := b.values.set x.1 x.2.2, written := b.written.set x.1 true } with h | h
    · rw [List.foldl_cons, h]
      by_cases hk : x.1 = k
      · by_cases hl : k < b.values.length
        · refine .inr ⟨x, List.mem_cons_self, hk, ?_⟩
          simp [hk, hl]
        · refine .inl ?_
          simp [List.set_eq_of_length_le (show b.values.length ≤ x.1 by omega)]
      · refine .inl ?_
        simp [List.getElem?_set_ne hk]
    · obtain ⟨y, hy, hyk, hv⟩ := h
      exact .inr ⟨y, List.mem_cons_of_mem _ hy, hyk, hv⟩

/-- A FILL leaves the class and the index, and each value as it was or in its field's range (08 R157). -/
theorem Staged.fill_value (b : Staged) (buffer : Byte) (data : List Byte) :
    (b.fill buffer data).1.cls = b.cls ∧ (b.fill buffer data).1.index = b.index
      ∧ ∀ k, (b.fill buffer data).1.values.getD k 0 = b.values.getD k 0
        ∨ ∃ f, (layout b.cls b.index)[k]? = some f
          ∧ f.range.holds ((b.fill buffer data).1.values.getD k 0) = true := by
  unfold Staged.fill
  dsimp only
  split
  · exact ⟨rfl, rfl, fun _ => .inl rfl⟩
  · split
    · exact ⟨rfl, rfl, fun _ => .inl rfl⟩
    · next hf =>
      refine ⟨(b.apply_keeps _).1, (b.apply_keeps _).2, fun k => ?_⟩
      rcases b.apply_value (parsePairs (layout b.cls b.index) data.length data).1 k with
        h | ⟨x, hx, hxk, hv⟩
      · exact .inl h
      · refine .inr ⟨x.2.1, hxk ▸ parsePairs_getElem? _ _ x hx, ?_⟩
        dsimp only
        rw [hv]
        exact range_of_pairFault (pairFault_of_firstPairFault hf x hx)
  · split <;> exact ⟨rfl, rfl, fun _ => .inl rfl⟩

/-- What the buffers hold of a field after any of their steps: what STAGE took, or a value that the buffer held, or
one in the field's range. -/
theorem State.BufferStep.value {s t : State} (h : s.BufferStep t) {k : Fin 2} {y : Staged}
    (hy : t.staging.get k = some y) (n : Nat) :
    (∃ i, y = s.stagedOf y.cls i)
    ∨ ∃ j b, s.staging.get j = some b ∧ b.cls = y.cls ∧ b.index = y.index
      ∧ (y.values.getD n 0 = b.values.getD n 0
        ∨ ∃ f, (layout b.cls b.index)[n]? = some f ∧ f.range.holds (y.values.getD n 0) = true) := by
  have other : ∀ b, s.staging.get k = some b → b = y → ∃ j b, s.staging.get j = some b ∧ b.cls = y.cls
      ∧ b.index = y.index ∧ (y.values.getD n 0 = b.values.getD n 0
        ∨ ∃ f, (layout b.cls b.index)[n]? = some f ∧ f.range.holds (y.values.getD n 0) = true) := by
    rintro b hb rfl
    exact ⟨k, b, hb, rfl, rfl, .inl rfl⟩
  cases h with
  | stage j cls i =>
    simp only [State.setBuffer_staging, Table.get_put] at hy
    split at hy
    · cases hy
      exact .inl ⟨i, rfl⟩
    · exact .inr (other y hy rfl)
  | fill j b hb buffer data =>
    simp only [State.setBuffer_staging, Table.get_put] at hy
    split at hy
    · cases hy
      obtain ⟨hc, hi, hv⟩ := b.fill_value buffer data
      exact .inr ⟨j, b, hb, hc.symm, hi.symm, hv n⟩
    · exact .inr (other y hy rfl)
  | empty j =>
    simp only [State.setBuffer_staging, Table.get_put] at hy
    split at hy
    · cases hy
    · exact .inr (other y hy rfl)
  | lose cls i =>
    simp only [State.loseBases, Table.get_tab, Option.map_eq_some_iff] at hy
    obtain ⟨b, hb, rfl⟩ := hy
    refine .inr ⟨k, b, hb, ?_⟩
    split <;> exact ⟨rfl, rfl, .inl rfl⟩

/-! ## The window indexes (01 R6) -/

section Index

variable {g : Geometry} {i : Fin 48} {x : Pile}

/-- The order of a window index: ascending Start bay. -/
def Geometry.StartsBefore (g : Geometry) (i j : Fin 48) : Prop :=
  ∀ p q, g.piles.get i = some p → g.piles.get j = some q → p.start ≤ q.start

theorem Geometry.mem_insertIndex (g : Geometry) (i j : Fin 48) (start : Nat) (l : List (Fin 48)) :
    j ∈ g.insertIndex i start l ↔ j = i ∨ j ∈ l := by
  unfold Geometry.insertIndex
  conv_rhs => rw [← List.takeWhile_append_dropWhile
    (p := fun j => match g.piles.get j with
      | some p => decide (p.start < start)
      | none => false) (l := l)]
  simp only [List.mem_append, List.mem_singleton]
  tauto

theorem Geometry.nodup_insertIndex {l : List (Fin 48)} (h : l.Nodup) (hi : i ∉ l) (start : Nat) :
    (g.insertIndex i start l).Nodup := by
  have hp : (g.insertIndex i start l).Perm (i :: l) := by
    unfold Geometry.insertIndex
    rw [List.append_assoc, List.singleton_append]
    refine List.perm_middle.trans ?_
    rw [List.takeWhile_append_dropWhile]
  exact hp.nodup_iff.2 (List.nodup_cons.2 ⟨hi, h⟩)

/-- A pile put among the piles of its bed at the place its Start bay gives keeps them in order (01 R6). -/
theorem Geometry.pairwise_insertIndex {l : List (Fin 48)} (hl : l.Pairwise g.StartsBefore) (hi : i ∉ l)
    (hp : ∀ j ∈ l, (g.piles.get j).isSome = true) :
    (g.insertIndex i x.start l).Pairwise (g.placePile i x).StartsBefore := by
  have hold : ∀ j ∈ l, (g.placePile i x).piles.get j = g.piles.get j := by
    intro j hj
    simp only [Geometry.placePile, Table.get_put]
    rw [if_neg]
    rintro rfl
    exact hi hj
  have hnew : (g.placePile i x).piles.get i = some x := by simp [Geometry.placePile]
  have hkeep : ∀ {l' : List (Fin 48)}, l'.Sublist l → l'.Pairwise (g.placePile i x).StartsBefore := by
    intro l' hs
    refine (hl.sublist hs).imp_of_mem fun {j k} hj hk hjk p q hpj hqk => ?_
    rw [hold j (hs.subset hj)] at hpj
    rw [hold k (hs.subset hk)] at hqk
    exact hjk p q hpj hqk
  unfold Geometry.insertIndex
  dsimp only
  generalize hb : (fun j => match g.piles.get j with
    | some p => decide (p.start < x.start)
    | none => false) = before
  have hbefore : ∀ j p, g.piles.get j = some p → before j = decide (p.start < x.start) := by
    intro j p hj
    rw [← hb]
    simp only [hj]
  -- the piles before the place start before the new one
  have hfirst : ∀ j ∈ l.takeWhile before, (g.placePile i x).StartsBefore j i := by
    intro j hj p q hpj hqi
    have hjl := (List.takeWhile_sublist before).subset hj
    rw [hold j hjl] at hpj
    cases hnew.symm.trans hqi
    have := List.mem_takeWhile_imp hj
    rw [hbefore j p hpj] at this
    exact (of_decide_eq_true this).le
  -- the piles from the place on start no earlier
  have hlast : ∀ k ∈ l.dropWhile before, ∀ q, g.piles.get k = some q → x.start ≤ q.start := by
    intro k hk q hq
    cases hd : l.dropWhile before with
    | nil => simp [hd] at hk
    | cons a rest =>
      have hal : a ∈ l := (List.dropWhile_sublist before).subset (by simp [hd])
      obtain ⟨p, hpa⟩ := Option.isSome_iff_exists.1 (hp a hal)
      have hna : before a = false := by
        have := List.head?_dropWhile_not before l
        simpa [hd] using this
      rw [hbefore a p hpa] at hna
      have hxa : x.start ≤ p.start := by simpa using hna
      rw [hd] at hk
      rcases List.mem_cons.1 hk with rfl | hk
      · cases hpa.symm.trans hq
        exact hxa
      · have hpair := hl.sublist (List.dropWhile_sublist before)
        rw [hd] at hpair
        exact hxa.trans (List.rel_of_pairwise_cons hpair hk p q hpa hq)
  rw [List.append_assoc, List.singleton_append]
  refine List.pairwise_append.2 ⟨hkeep (List.takeWhile_sublist _), List.pairwise_cons.2
    ⟨fun k hk p q hpi hqk => ?_, hkeep (List.dropWhile_sublist _)⟩, fun j hj k hk => ?_⟩
  · rw [hold k ((List.dropWhile_sublist before).subset hk)] at hqk
    cases hnew.symm.trans hpi
    exact hlast k hk q hqk
  · rcases List.mem_cons.1 hk with rfl | hk
    · exact hfirst j hj
    · intro p q hpj hqk
      have h1 := hfirst j hj p x hpj hnew
      rw [hold k ((List.dropWhile_sublist before).subset hk)] at hqk
      exact h1.trans (hlast k hk q hqk)

/-- The window indexes stay right where a pile leaves (01 R6, R9). -/
theorem Geometry.Indexed.unindexed (h : g.Indexed) (i : Fin 48) (b : Fin 8) :
    (∀ j, j ∈ (g.unindexed i).get b ↔ j ≠ i ∧ ∃ p, g.piles.get j = some p ∧ p.bed = b)
      ∧ ((g.unindexed i).get b).Nodup ∧ ((g.unindexed i).get b).Pairwise g.StartsBefore := by
  obtain ⟨hmem, hord⟩ := h
  simp only [Geometry.unindexed, Table.get_tab]
  refine ⟨fun j => ?_, (hord b).1.filter _, (hord b).2.sublist List.filter_sublist⟩
  rw [List.mem_filter, hmem, bne_iff_ne, and_comm]

/-- The window indexes are right after a pile is placed (01 R6). -/
theorem Geometry.Indexed.placePile (h : g.Indexed) (i : Fin 48) (x : Pile) : (g.placePile i x).Indexed := by
  have hpiles : ∀ j, (g.placePile i x).piles.get j = if i = j then some x else g.piles.get j := fun j => by
    simp [Geometry.placePile]
  have hindex : ∀ b, (g.placePile i x).index.get b
      = if x.bed = b then g.insertIndex i x.start ((g.unindexed i).get x.bed)
        else (g.unindexed i).get b := fun b => by
    simp [Geometry.placePile]
  refine ⟨fun b j => ?_, fun b => ?_⟩
  · obtain ⟨hmem, -⟩ := h.unindexed i b
    rw [hindex, hpiles]
    split
    · next hb =>
      subst hb
      rw [Geometry.mem_insertIndex, hmem]
      by_cases hj : i = j
      · subst hj; simp
      · simp [hj, Ne.symm hj]
    · next hb =>
      rw [hmem]
      by_cases hj : i = j
      · subst hj; simp [hb]
      · simp [hj, Ne.symm hj]
  · obtain ⟨hmem, hnodup, hord⟩ := h.unindexed i b
    have hi : i ∉ (g.unindexed i).get b := fun hi => ((hmem i).1 hi).1 rfl
    rw [hindex]
    split
    · next hb =>
      subst hb
      refine ⟨Geometry.nodup_insertIndex hnodup hi _, Geometry.pairwise_insertIndex hord hi fun j hj => ?_⟩
      obtain ⟨-, p, hp, -⟩ := (hmem j).1 hj
      simp [hp]
    · refine ⟨hnodup, hord.imp_of_mem fun {j k} hj hk hjk p q hp hq => ?_⟩
      rw [hpiles, if_neg (by rintro rfl; exact hi hj)] at hp
      rw [hpiles, if_neg (by rintro rfl; exact hi hk)] at hq
      exact hjk p q hp hq

end Index

/-! ## What the tests of COMMIT say (01 R4, R7, R11, R15) -/

section Tests

variable {s : State} {g : Geometry}

theorem Geometry.endsWithin_spec {b : Fin 8} {n : Nat} (h : g.endsWithin b n = true) :
    (∀ i p, g.piles.get i = some p → p.bed = b → p.start + p.length ≤ n)
      ∧ (∀ i c, g.cannons.get i = some c → c.bed = b → c.reachStart + c.reachLength ≤ n)
      ∧ ∀ i e, g.exclusions.get i = some e → e.bed = b → e.start + e.length ≤ n := by
  simp only [Geometry.endsWithin, Bool.and_eq_true, Table.all_eq_true] at h
  obtain ⟨⟨hp, hc⟩, he⟩ := h
  refine ⟨fun i p hi hb => ?_, fun i c hi hb => ?_, fun i e hi hb => ?_⟩
  · simpa [hi, hb] using hp i
  · simpa [hi, hb] using hc i
  · simpa [hi, hb] using he i

theorem Geometry.covered_spec {p : Pile} (h : g.covered p = true) :
    ∃ k c, g.cannons.get k = some c ∧ c.coversPile p = true := by
  simp only [Geometry.covered, Table.any_eq_true] at h
  obtain ⟨k, hk⟩ := h
  split at hk
  · next c hc => exact ⟨k, c, hc, hk⟩
  · cases hk

theorem Geometry.covered_of_allCovered (h : g.allCovered = true) : g.Covered := by
  intro i p hp
  simp only [Geometry.allCovered, Table.all_eq_true] at h
  have hi := h i
  simp only [hp] at hi
  exact Geometry.covered_spec hi

theorem Geometry.overlaps_eq_false {i : Fin 48} {x : Pile} (h : g.overlaps i x = false) {j : Fin 48}
    {p : Pile} (hj : j ≠ i) (hp : g.piles.get j = some p) (hb : p.bed = x.bed) :
    windowsMeet p.start p.length x.start x.length = false := by
  rw [← Bool.not_eq_true] at h
  simp only [Geometry.overlaps, Table.any_eq_true, not_exists] at h
  have := h j
  simpa [hp, hj, hb] using this

theorem windowsMeet_comm (a m b n : Nat) : windowsMeet a m b n = windowsMeet b n a m := by
  unfold windowsMeet
  cases decide (0 < m) <;> cases decide (0 < n) <;> simp [Bool.and_comm]

/-- A list of tests refuses nothing where the first does not and the rest do not. -/
theorem refusal_eq_none_iff {A : Prop} [Decidable A] {r : Result} {x : Option Result} :
    (if A then some r else x) = none ↔ ¬ A ∧ x = none := by
  by_cases h : A <;> simp [h]

theorem State.pileTest_spec {i : Fin 48} {x : Pile} (h : s.pileTest i x = none) :
    x.start + x.length ≤ (s.geometry.beds.get x.bed).length ∧ s.geometry.overlaps i x = false
      ∧ s.geometry.covered x = true
      ∧ ((s.watch.living.get i).engaged = true → ∀ p, s.geometry.piles.get i = some p →
        p.sameWindow x = true) := by
  rw [State.pileTest, refusal_eq_none_iff, refusal_eq_none_iff, refusal_eq_none_iff] at h
  obtain ⟨hl, ho, hc, he⟩ := h
  refine ⟨by omega, by simpa using ho, by simpa using hc, fun hx p hp => ?_⟩
  simpa [hp, hx] using he

theorem State.cannonTest_spec {i : Fin 24} {c : Cannon} (h : s.cannonTest i c = none) :
    c.reachStart + c.reachLength ≤ (s.geometry.beds.get c.bed).length
      ∧ (s.geometry.putCannon i (some c)).allCovered = true := by
  rw [State.cannonTest, refusal_eq_none_iff, refusal_eq_none_iff, refusal_eq_none_iff] at h
  obtain ⟨hl, -, hc, -⟩ := h
  exact ⟨by omega, by simpa using hc⟩

theorem State.exclusionTest_spec {i : Fin 16} {e : Exclusion} (h : s.exclusionTest i e = none) :
    1 ≤ e.length ∧ e.start + e.length ≤ (s.geometry.beds.get e.bed).length := by
  rw [State.exclusionTest, refusal_eq_none_iff, refusal_eq_none_iff, refusal_eq_none_iff] at h
  obtain ⟨-, h1, h2, -⟩ := h
  omega

end Tests

/-! ## The placement laws -/

/-- A record at a position of a table replaced meets what the others and the new one meet. -/
theorem Table.forall_put {n : Nat} {α : Type} {t : Table n (Option α)} {i : Fin n} {x : Option α}
    {Q : α → Prop} (ht : ∀ j a, t.get j = some a → Q a) (hx : ∀ a, x = some a → Q a) :
    ∀ j a, (t.put i x).get j = some a → Q a := by
  intro j a ha
  rw [Table.get_put] at ha
  split at ha
  · exact hx a ha
  · exact ht j a ha

theorem State.PlacementLaw.placeStep {s t : State} (hs : s.PlacementLaw) (h : s.PlaceStep t) :
    t.PlacementLaw := by
  obtain ⟨hd, ⟨hep, hec, hee⟩, hcov, hidx, hlen, hbuf, hent⟩ := hs
  cases h with
  | bed i v hv hw =>
    obtain ⟨hwp, hwc, hwe⟩ := Geometry.endsWithin_spec hw
    obtain ⟨k, b, hb, hc, rfl⟩ := hv
    have hbed : ∀ j n, (j = i → n ≤ fieldValue b.values 1) → n ≤ (s.geometry.beds.get j).length →
        n ≤ ((s.geometry.beds.modify i fun y =>
          { y.install b.values with revision := y.revision + 1 }).get j).length := by
      intro j n h1 h2
      rw [Table.get_modify]
      split
      · next hij => exact h1 hij.symm
      · exact h2
    refine ⟨hd, ⟨fun j p hp => hbed _ _ (hwp j p hp) (hep j p hp), fun j c hc => hbed _ _ (hwc j c hc) (hec j c hc),
      fun j e he => hbed _ _ (hwe j e he) (hee j e he)⟩, hcov, hidx, fun j => ?_, hbuf, hent⟩
    show ((s.geometry.beds.modify i _).get j).length ≤ 160
    rw [Table.get_modify]
    split
    · exact hbuf k b hb hc
    · exact hlen j
  | cannon i v r hv ht =>
    obtain ⟨hr, hall⟩ := State.cannonTest_spec ht
    exact ⟨hd, ⟨hep, Table.forall_put (Q := fun c : Cannon => c.reachStart + c.reachLength
      ≤ (s.geometry.beds.get c.bed).length) hec (by rintro a ⟨⟩; exact hr), hee⟩,
      Geometry.covered_of_allCovered hall, hidx, hlen, hbuf, hent⟩
  | retireCannon i hl hall =>
    exact ⟨hd, ⟨hep, Table.forall_put (Q := fun c : Cannon => c.reachStart + c.reachLength
      ≤ (s.geometry.beds.get c.bed).length) hec (by simp), hee⟩,
      Geometry.covered_of_allCovered hall, hidx, hlen, hbuf, hent⟩
  | retireExclusion i hf =>
    exact ⟨hd, ⟨hep, hec, Table.forall_put (Q := fun e : Exclusion => e.start + e.length
      ≤ (s.geometry.beds.get e.bed).length) hee (by simp)⟩, hcov, hidx, hlen, hbuf, hent⟩

theorem State.PlacementLaw.placePile {s : State} (hs : s.PlacementLaw) {i : Fin 48} {x : Pile}
    (ht : s.pileTest i x = none) :
    ({ s with geometry := s.geometry.placePile i x } : State).PlacementLaw := by
  obtain ⟨hd, ⟨hep, hec, hee⟩, hcov, hidx, hlen⟩ := hs
  obtain ⟨hx, ho, hc, -⟩ := State.pileTest_spec ht
  refine ⟨fun j k p q hjk hp hq hb => ?_, ⟨Table.forall_put (Q := fun p : Pile => p.start + p.length
    ≤ (s.geometry.beds.get p.bed).length) hep (by rintro a ⟨⟩; exact hx), hec, hee⟩,
    Table.forall_put (Q := fun p : Pile => ∃ k c, s.geometry.cannons.get k = some c ∧ c.coversPile p = true) hcov
      (by rintro a ⟨⟩; exact Geometry.covered_spec hc), hidx.placePile i x, hlen⟩
  simp only [Geometry.placePile, Table.get_put] at hp hq
  split at hp
  · next hij =>
    subst hij
    cases hp
    rw [if_neg hjk] at hq
    rw [windowsMeet_comm]
    exact Geometry.overlaps_eq_false ho (Ne.symm hjk) hq hb.symm
  · next hij =>
    split at hq
    · next hik =>
      subst hik
      cases hq
      exact Geometry.overlaps_eq_false ho hjk hp hb
    · exact hd j k p q hjk hp hq hb

theorem State.PlacementLaw.removePile {s : State} (hs : s.PlacementLaw) (i : Fin 48) :
    (s.removePile i).PlacementLaw := by
  obtain ⟨hd, ⟨hep, hec, hee⟩, hcov, hidx, hlen⟩ := hs
  have hold : ∀ j p, (s.geometry.piles.put i none).get j = some p →
      j ≠ i ∧ s.geometry.piles.get j = some p := by
    intro j p hp
    rw [Table.get_put] at hp
    split at hp
    · cases hp
    · next hij => exact ⟨Ne.symm hij, hp⟩
  refine ⟨fun j k p q hjk hp hq => hd j k p q hjk (hold j p hp).2 (hold k q hq).2,
    ⟨fun j p hp => hep j p (hold j p hp).2, hec, hee⟩, fun j p hp => hcov j p (hold j p hp).2,
    ⟨fun b j => ?_, fun b => ?_⟩, hlen⟩
  · rw [show (s.removePile i).geometry.index = s.geometry.unindexed i from rfl, (hidx.unindexed i b).1]
    constructor
    · rintro ⟨hj, p, hp, hb⟩
      refine ⟨p, ?_, hb⟩
      show (s.geometry.piles.put i none).get j = some p
      rw [Table.get_put, if_neg (Ne.symm hj), hp]
    · rintro ⟨p, hp, hb⟩
      exact ⟨(hold j p hp).1, p, (hold j p hp).2, hb⟩
  · obtain ⟨-, hn, hp⟩ := hidx.unindexed i b
    exact ⟨hn, hp.imp fun {j k} h p q hp hq => h p q (hold j p hp).2 (hold k q hq).2⟩

/-- A bed's Length is the first of its values. -/
theorem fieldValue_bedValues (b : Bed) (n : Word16) (m : Bool) : fieldValue (bedValues b n m) 1 = b.length := rfl

/-- The buffers hold no Length above 160 (01 R2). -/
theorem State.PlacementLaw.bufferStep {s t : State} (hs : s.PlacementLaw) (h : s.BufferStep t) :
    t.PlacementLaw := by
  obtain ⟨hd, he, hcov, hidx, hlen, hbuf, hent⟩ := hs
  have hb : ∀ k y, t.staging.get k = some y → y.cls = .bed → fieldValue y.values 1 ≤ 160 := by
    intro k y hy hc
    obtain ⟨i, hi⟩ | ⟨j, b, hj, hbc, -, hv⟩ := h.value hy 0
    · rw [hi, hc]
      exact hlen _
    · rw [hc] at hbc
      rcases hv with hv | ⟨f, hf, hr⟩
      · show y.values.getD 0 0 ≤ 160
        rw [hv]
        exact hbuf j b hj hbc
      · rw [hbc] at hf
        cases hf
        simp only [hostField, Range.holds, Bool.and_eq_true, decide_eq_true_eq] at hr
        exact hr.2
  rw [h.eq]
  exact ⟨hd, he, hcov, hidx, hlen, hb, hent⟩

/-- What the store does keeps the placement laws: an entry has the window of its exclusion (01 R18). -/
theorem State.PlacementLaw.storeStep {s t : State} (hs : s.PlacementLaw) (h : s.StoreStep t) :
    t.PlacementLaw := by
  cases h with
  | endFix i =>
    unfold State.endFix
    split
    · exact hs
    · next e he =>
      obtain ⟨hd, ⟨hep, hec, hee⟩, hcov, hidx, hlen, hbuf, hent⟩ := hs
      have hwin := hee i e he
      exact ⟨hd, ⟨hep, hec, Table.forall_put (Q := fun e : Exclusion => e.start + e.length
        ≤ (s.geometry.beds.get e.bed).length) hee (by rintro a ⟨⟩; exact hwin)⟩, hcov, hidx, hlen, hbuf,
        Table.forall_put (Q := fun n : StoredExclusion => n.start + n.length ≤ 160) hent
          (by rintro a ⟨⟩; exact hwin.trans (hlen _))⟩
  | _ => exact hs

/-- A reset leaves no pile and no cannon, beds of 160 bays, and the exclusions of the store (01 R2, R19). -/
theorem State.PlacementLaw.ofReset {s t : State} (hs : s.PlacementLaw)
    (hg : t.geometry =
      { beds := Table.fill 8 Bed.reset, piles := Table.fill 48 none, cannons := Table.fill 24 none,
        exclusions := s.store.rebuild, index := Table.fill 8 [] })
    (hb : t.staging = Table.fill 2 none) (he : t.store.entries = s.store.entries) : t.PlacementLaw := by
  obtain ⟨-, -, -, -, -, -, hent⟩ := hs
  have hx : ∀ i e, s.store.rebuild.get i = some e → e.start + e.length ≤ 160 := by
    intro i e h
    rw [Store.rebuild, Table.get_tab, Option.map_eq_some_iff] at h
    obtain ⟨n, hn, rfl⟩ := h
    exact hent i n hn
  have hl : ∀ b, ((Table.fill 8 Bed.reset).get b).length = 160 := fun b => by simp [Bed.reset]
  rw [State.PlacementLaw, State.LengthLaw, hg, hb, he]
  refine ⟨fun _ _ _ _ _ h => by simp at h, ⟨fun _ _ h => by simp at h, fun _ _ h => by simp at h,
    fun i e h => by rw [hl]; exact hx i e h⟩, fun _ _ h => by simp at h, ⟨fun _ _ => by simp, fun _ => by simp⟩,
    fun b => (hl b).le, fun _ _ h => by simp at h, hent⟩

/-- Every effect keeps the placement laws. -/
theorem placementLaw_keptByRecords : KeptByRecords State.PlacementLaw where
  congr s t h hs := by
    have hg : t.geometry = s.geometry := congrArg Records.geometry h
    have hb : t.staging = s.staging := congrArg Records.staging h
    have he : t.store.entries = s.store.entries := congrArg Records.entries h
    rw [State.PlacementLaw, State.LengthLaw, hg, hb, he]
    exact hs
  time s t h hs := by rw [h.eq]; exact hs
  stored _ _ h hs := hs.storeStep h
  buffer _ _ h hs := hs.bufferStep h
  place _ _ h hs := hs.placeStep h
  placePile _ _ _ ht hs := hs.placePile ht
  removePile _ i hs := hs.removePile i
  setExclusion s i e _ ht hs := by
    obtain ⟨hd, ⟨hep, hec, hee⟩, hcov, hidx, hlen⟩ := hs
    exact ⟨hd, ⟨hep, hec, Table.forall_put (Q := fun e : Exclusion => e.start + e.length
      ≤ (s.geometry.beds.get e.bed).length) hee
        (by rintro a ⟨⟩; exact (State.exclusionTest_spec ht).2)⟩, hcov, hidx, hlen⟩
  resetWhole _ _ _ hs := hs.ofReset rfl rfl rfl
  resetCommand _ hs := hs.ofReset rfl rfl rfl

/-- Settles O57: the placement laws are laws of the records. -/
theorem stepKeepsThePlacementLaw : Obligations.StepKeepsThePlacementLaw := by
  unfold Obligations.StepKeepsThePlacementLaw
  exact fun s t hs h => placementLaw_keptByRecords.kept.step h hs

end Sys2Proof.Machine

/-! PROOFS. The laws of Pile Watch and of the Order Queue see the piles, their living parts, the MUST count and the
queue. The Pass Engine and the Water Table leave these alone but for the reports of pass ends and the orders that a
request takes; what a law of this kind must be kept by is said here once. -/

namespace Sys2Proof.Machine

/-! ## What these laws see -/

/-- The piles, their living parts, the MUST count and the queue. -/
structure Yard where
  living : Table 48 Living
  mustCount : Nat
  queue : List Order
  piles : Table 48 (Option Pile)

/-- The piles and orders of a state. -/
def State.yard (s : State) : Yard :=
  { living := s.watch.living, mustCount := s.watch.mustCount, queue := s.queue, piles := s.geometry.piles }

section

variable (s : State)

/-- What the Water Table does leaves the piles and orders alone. -/
theorem State.yard_of_beyondWater {s t : State} (h : t.beyondWater = s.beyondWater) : t.yard = s.yard := by
  show t.beyondWater.yard = s.beyondWater.yard
  rw [h]

@[simp] theorem State.mapMain_yard (m : Fin 4) (f : Main → Main) : (s.mapMain m f).yard = s.yard := rfl
@[simp] theorem State.setContext_yard (c : Fin 8) (p : Option Pass) : (s.setContext c p).yard = s.yard := rfl
@[simp] theorem State.raise_yard (k : NoticeKind) (n : Nat) : (s.raise k n).yard = s.yard := rfl
@[simp] theorem State.ask_yard (m : Fin 4) : (s.ask m).yard = s.yard := rfl
@[simp] theorem State.askAll_yard : s.askAll.yard = s.yard := rfl
@[simp] theorem State.follow_yard : s.follow.yard = s.yard := by
  simp [State.yard]

@[simp] theorem State.askAllIf_yard (b : Bool) : (s.askAllIf b).yard = s.yard := by
  cases b <;> rfl

@[simp] theorem State.mapBasin_yard (b : Fin 5) (f : Basin → Basin) : (s.mapBasin b f).yard = s.yard := rfl
@[simp] theorem State.recordEnd_yard (i : Fin 48) (e : PassEnd) : (s.recordEnd i e).yard = s.yard := rfl
@[simp] theorem State.setMode_yard (m : YardMode) : (s.setMode m).yard = s.yard := rfl
@[simp] theorem State.countSuspension_yard : s.countSuspension.yard = s.yard := rfl

@[simp] theorem State.settle_yard (x : Option (Fin 5)) (p : Pass) (v : Nat) : (s.settle x p v).yard = s.yard :=
  State.yard_of_beyondWater (s.settle_beyondWater x p v)

@[simp] theorem State.reserve_yard (x : Fin 6) (v : Nat) : (s.reserve x v).yard = s.yard :=
  State.yard_of_beyondWater (s.reserve_beyondWater x v)

@[simp] theorem State.deduct_yard (x : Fin 6) (v : Nat) : (s.deduct x v).yard = s.yard :=
  State.yard_of_beyondWater (s.deduct_beyondWater x v)

@[simp] theorem State.release_yard (x : Fin 6) (v : Nat) : (s.release x v).yard = s.yard :=
  State.yard_of_beyondWater (s.release_beyondWater x v)

@[simp] theorem State.lowTest_yard (b : Fin 5) : (s.lowTest b).yard = s.yard :=
  State.yard_of_beyondWater (s.lowTest_beyondWater b)

@[simp] theorem State.lowTestUnless_yard (x : Option (Fin 5)) (y : Fin 6) :
    (s.lowTestUnless x y).yard = s.yard :=
  State.yard_of_beyondWater (s.lowTestUnless_beyondWater x y)

@[simp] theorem State.reportRise_yard (b : Fin 5) (y : Basin) : (s.reportRise b y).yard = s.yard :=
  State.yard_of_beyondWater (s.reportRise_beyondWater b y)

@[simp] theorem State.reportReady_yard (b : Fin 5) (y : Basin) : (s.reportReady b y).yard = s.yard :=
  State.yard_of_beyondWater (s.reportReady_beyondWater b y)

@[simp] theorem State.setIsolated_yard (x : Fin 6) (v : Bool) : (s.setIsolated x v).yard = s.yard :=
  State.yard_of_beyondWater (s.setIsolated_beyondWater x v)

@[simp] theorem State.mainAfterEnd_yard (p : Pass) (e : PassEnd) : (s.mainAfterEnd p e).yard = s.yard := by
  unfold State.mainAfterEnd
  repeat' split
  all_goals rfl

@[simp] theorem State.selected_yard (c : Fin 8) (p : Pass) : (s.selected c p).yard = s.yard := rfl

@[simp] theorem State.suspendPass_yard (c : Fin 8) (p : Pass) : (s.suspendPass c p).yard = s.yard := by
  unfold State.suspendPass
  dsimp only
  split <;> simp

@[simp] theorem State.closeSource_yard (x : Fin 6) : (s.closeSource x).yard = s.yard := by
  refine s.forEach_keeps State.yard _ _ fun t m => ?_
  split <;> simp

@[simp] theorem State.moveBaselines_yard (b : Fin 5) : (s.moveBaselines b).yard = s.yard := by
  refine s.forEach_keeps State.yard _ _ fun t c => ?_
  repeat' split
  all_goals simp

@[simp] theorem State.closeMains_yard : s.closeMains.yard = s.yard :=
  s.forEach_keeps State.yard _ _ fun _ _ => rfl

@[simp] theorem State.drained_yard (m : Fin 4) : (s.drained m).yard = s.yard := by
  unfold State.drained
  dsimp only
  split <;> rfl

@[simp] theorem State.startDrainTimers_yard : s.startDrainTimers.yard = s.yard := rfl

theorem State.commitSource_yard {t : State} {i : Fin 6} {v : List Nat}
    (h : s.commitSource i v = .inr t) : t.yard = s.yard := by
  unfold State.commitSource at h
  split at h
  · next b _ =>
    unfold State.commitBasin at h
    dsimp only at h
    split at h
    · exact absurd h Sum.inl_ne_inr
    · rw [← Sum.inr.inj h]
      simp
  · rw [← Sum.inr.inj h]
    rfl

end

/-! ## The steps of RETIRE on a pile (01 R9) -/

/-- The live pass of a pile ended, with no offer after it. -/
def State.endPile (s : State) (i : Fin 48) : State :=
  match s.contextOf i with
  | some c => s.endPass none c (.cutShort .retired) false
  | none => s

/-- The queued order of a pile dropped. -/
def State.removeOrder (s : State) (i : Fin 48) : State := if s.hasOrder i then s.dropOrder i else s

theorem State.clearPile_eq (s : State) (i : Fin 48) :
    s.clearPile i = ((s.endPile i).removeOrder i).discardMust i := rfl

theorem State.endPile_frame (s : State) (i : Fin 48) : (s.endPile i).frame = s.frame := by
  unfold State.endPile
  split <;> simp

theorem State.removeOrder_frame (s : State) (i : Fin 48) : (s.removeOrder i).frame = s.frame := by
  unfold State.removeOrder
  split <;> simp

/-! ## The effects that these laws see -/

/-- What a law of the piles and orders must be kept by. -/
structure KeptByYard (P : State → Prop) : Prop where
  congr : ∀ s t, t.yard = s.yard → P s → P t
  evaluate : ∀ s i w counts offers, P s → P (s.evaluate i w counts offers)
  assessPile : ∀ s w rain i, P s → P (s.assessPile w rain i)
  endReport : ∀ s r offers, P s → P (s.takeEndReport r offers)
  requeue : ∀ s f, (∀ o, (f o : Order).pile = o.pile ∧ (f o).watch = o.watch ∧ (f o).operator = o.operator) →
    P s → P (s.setQueue (s.queue.map f))
  dropOrder : ∀ s i, P s → P (s.dropOrder i)
  takeOrder : ∀ s i, P s → P (s.takeOrder i)
  placeOrder : ∀ s i r named, P s → P (s.placeOrder i r named).1
  withdrawOrder : ∀ s i o, s.orderOf i = some o → o.operator.isSome = true → P s → P (s.withdrawOrder o)
  place : ∀ s i x n count, P s →
    P (({ s with geometry := s.geometry.placePile i x } : State).mapLiving i fun l =>
      l.atCommit (s.geometry.piles.get i) x n count)
  remove : ∀ s i, (s.geometry.piles.get i).isSome = true → P s →
    P (((s.discardMust i).removePile i).mapLiving i fun _ => Living.blank)
  reset : ∀ t, t.watch.living = Table.fill 48 Living.blank → t.watch.mustCount = 0 → t.queue = [] →
    t.geometry.piles = Table.fill 48 none → P t

section

variable {P : State → Prop} (K : KeptByYard P) {s : State}
include K

theorem KeptByYard.endPass (x : Option (Fin 5)) (c : Fin 8) (e : PassEnd) (offers : Bool) (hs : P s) :
    P (s.endPass x c e offers) := by
  cases h : s.engine.contexts.get c with
  | none => rwa [State.endPass_of_free h]
  | some p =>
    rw [State.endPass_of_live h]
    have ht : P (((s.settle x p (p.finalDelivered e)).mainAfterEnd p e).setContext c none) :=
      K.congr s _ (by simp) hs
    exact K.congr _ _ (by simp) (K.endReport _ (p.report e (p.finalDelivered e)) offers ht)

theorem KeptByYard.prime (x : Option (Fin 5)) (c : Fin 8) (p : Pass) (hs : P s) : P (s.prime x c p) := by
  cases h : s.flowActive p.main with
  | true =>
    rw [State.prime_of_flow h]
    exact K.endPass x c _ true (K.congr s _ (by simp) hs)
  | false =>
    rw [State.prime_of_quiet h]
    exact K.congr s _ (by simp) hs

theorem KeptByYard.recordReasons (m : Fin 4) (hs : P s) : P (s.recordReasons m) :=
  State.forEach_inv _ P _ _ (fun t _ _ ht => K.congr t _ (t.raise_yard _ _) ht)
    (K.requeue s _ (fun _ => ⟨rfl, rfl, rfl⟩) hs)

theorem KeptByYard.startPass (x : Option (Fin 5)) (c : Fin 8) (m : Fin 4) (k : Candidate) (hs : P s) :
    P (s.startPass x c m k) := by
  obtain h | ⟨p, q, -, -, h⟩ := s.startPass_cases x c m k
  · rwa [h]
  · rw [h]
    exact K.prime x c _ (K.congr s _ (by simp) hs)

theorem KeptByYard.requestAndStart (x : Option (Fin 5)) (m : Fin 4) (c : Fin 8) (hs : P s) :
    P (s.requestAndStart x m c) := by
  obtain h | ⟨k, -, h⟩ := s.requestAndStart_cases x m c
  · rw [h]
    exact K.recordReasons m hs
  · rw [h]
    exact K.startPass x c m k (K.takeOrder _ _ (K.recordReasons m hs))

/-- The attempts keep it, whatever basin is exempt. -/
theorem KeptByYard.attempts (x : Option (Fin 5)) : KeptByAttempts x P where
  core _ := ⟨K.congr _ _ rfl, K.congr _ _ rfl⟩
  endPass _ c e _ := K.endPass x c e true
  resume _ c _ _ _ _ := K.prime x c _
  request _ m c _ _ := K.requestAndStart x m c

theorem KeptByYard.finishBay (c : Fin 8) (p : Pass) (hs : P s) : P (s.finishBay none c p) := by
  unfold State.finishBay
  dsimp only
  split
  · exact K.endPass none c _ true (K.congr s _ (by simp) hs)
  · exact K.congr s _ (by simp) hs

theorem KeptByYard.confirmFlow (m : Fin 4) (hs : P s) : P (s.confirmFlow m) := by
  unfold State.confirmFlow
  dsimp only
  split
  · split
    · exact hs
    · split
      · exact hs
      · split
        · exact K.finishBay _ _ (K.congr s _ (by simp) hs)
        · exact K.congr s _ (by simp) hs
  · exact hs

theorem KeptByYard.loseFlow (m : Fin 4) (hs : P s) : P (s.loseFlow m) := by
  unfold State.loseFlow
  dsimp only
  split
  · split
    · exact hs
    · exact K.endPass none _ _ true hs
  · exact hs

theorem KeptByYard.trimPasses (bed : Fin 8) (start length : Nat) (hs : P s) :
    P (s.trimPasses bed start length) := by
  refine s.forEach_inv P _ _ (fun t c _ ht => ?_) hs
  split
  · split
    · unfold State.trimPass
      dsimp only
      split
      · exact (K.attempts none).runAttempts (K.endPass none c _ true (K.congr t _ (by simp) ht))
      · exact K.congr t _ (by simp) ht
    · exact ht
  · exact ht

theorem KeptByYard.takeGauge (b : Fin 5) (level clarity : Nat) (hs : P s) :
    P (s.takeGauge b level clarity) := by
  unfold State.takeGauge
  dsimp only
  refine K.congr _ _ (State.reportRise_yard _ _ _) ?_
  split
  · unfold State.cutLow
    dsimp only
    exact K.congr _ _ ((State.reportReady_yard _ _ _).trans (State.lowTest_yard _ _))
      ((K.attempts (some b)).endWhere (by simp) _ (K.congr s _ (by simp) hs))
  · exact K.congr s _ (by simp) hs

theorem KeptByYard.isolateSource (x : Fin 6) (hs : P s) : P (s.isolateSource x) := by
  unfold State.isolateSource
  exact K.congr _ _ (State.closeSource_yard _ _)
    ((K.attempts none).endWhere (by simp) _ (K.congr s _ (by simp) hs))

theorem KeptByYard.holdYard (hs : P s) : P s.holdYard := by
  unfold State.holdYard State.holdPasses
  refine State.forEach_inv _ P _ _ (fun t m _ ht => ?_)
    ((K.attempts none).endWhere (by simp) _ (K.congr s _ (by simp) hs))
  split
  · exact ht
  · exact K.congr t _ (by simp) ht

theorem KeptByYard.drainYard (hs : P s) : P s.drainYard := by
  unfold State.drainYard State.drainPasses
  refine State.forEach_inv _ P _ _ (fun t i _ ht => K.dropOrder t i ht) ?_
  refine K.congr _ _ (State.startDrainTimers_yard _) ?_
  exact State.forEach_inv _ P _ _ (fun t m _ ht => K.congr t _ (by simp) ht)
    ((K.attempts none).endWhere (by simp) _ (K.congr s _ (by simp) hs))

theorem KeptByYard.retirePile (i : Fin 48) (hp : (s.geometry.piles.get i).isSome = true) (hs : P s) :
    P (s.retirePile i) := by
  have he : P (s.endPile i) := by
    unfold State.endPile
    split
    · exact K.endPass none _ _ false hs
    · exact hs
  have ho : P ((s.endPile i).removeOrder i) := by
    unfold State.removeOrder
    split
    · exact K.dropOrder _ i he
    · exact he
  have hg : ((s.endPile i).removeOrder i).geometry = s.geometry :=
    congrArg Frame.geometry (((s.endPile i).removeOrder_frame i).trans (s.endPile_frame i))
  rw [State.retirePile_eq, State.clearPile_eq]
  exact K.congr (State.mapLiving _ i fun _ => Living.blank) _ rfl (K.remove _ i (by rw [hg]; exact hp) ho)

theorem KeptByYard.clearNames (p : Order → Bool) (hs : P s) : P (s.clearNames p) :=
  K.requeue s _ (fun o => by split <;> exact ⟨rfl, rfl, rfl⟩) hs

theorem KeptByYard.installPile (i : Fin 48) (x : Pile) (n : Nat) (hs : P s) : P (s.installPile i x n) := by
  unfold State.installPile State.reevaluate
  dsimp only
  exact K.congr _ _ (State.askAll_yard _)
    (K.clearNames _ (K.evaluate _ i _ false true (K.place s i x n _ hs)))

/-- A law of the piles and orders is kept by everything that leaves them alone. -/
theorem KeptByYard.kept : Kept P where
  toKeptByAttempts := K.attempts none
  time s t h hs := K.congr s t (by rw [h.eq]; rfl) hs
  stored s t h hs := K.congr s t (by rw [h.eq]; rfl) hs
  buffer s t h hs := K.congr s t (by rw [h.eq]; rfl) hs
  place s t h hs := K.congr s t (by rw [h.eq]; rfl) hs
  installPile s i x n _ hs := K.installPile i x n hs
  exclude s i e _ _ hs := K.trimPasses _ _ _ (K.congr s _ rfl hs)
  commitMain s m v _ hs := K.congr s _ rfl hs
  commitSource s _ _ t h hs := K.congr s t (s.commitSource_yard h) hs
  retirePile _ i hp hs := K.retirePile i hp hs
  requeue := K.requeue
  evaluate s i w n hs := K.evaluate s i w n true hs
  assessPile := K.assessPile
  placeOrder s i r n _ _ hs := K.placeOrder s i r n hs
  withdrawOrder := K.withdrawOrder
  suspendPass s c p _ _ hs := K.congr s _ (s.suspendPass_yard c p) hs
  holdPass s _ _ _ _ _ _ hs := K.congr s _ rfl hs
  finishBay _ c p _ _ hs := K.finishBay c p hs
  confirmFlow _ m hs := K.confirmFlow m hs
  loseFlow _ m hs := K.loseFlow m hs
  primeOut _ c _ _ _ hs := K.endPass none c _ true hs
  clearFault s m _ hs := K.congr s _ rfl hs
  inflow s b v n hs := K.congr s _ (State.yard_of_beyondWater (s.takeInflow_beyondWater b v n)) hs
  gauge _ b l n _ hs := K.takeGauge b l n hs
  isolate _ y hs := K.isolateSource y hs
  restore s y hs := K.congr s _ (State.yard_of_beyondWater (s.restoreSource_beyondWater y)) hs
  settled s b hs := K.congr s _ (State.yard_of_beyondWater (s.settled_beyondWater b)) hs
  clearSpilled s hs := K.congr s _ rfl hs
  rolloverDay s hs := K.congr s _ (State.yard_of_beyondWater s.rolloverDay_beyondWater) hs
  holdYard _ _ hs := K.holdYard hs
  drainYard _ _ hs := K.drainYard hs
  resumeHeld s _ hs := K.congr s _ rfl hs
  resumeDrained s _ hs := K.congr s _ (State.closeMains_yard _) hs
  drained s m _ hs := K.congr s _ (s.drained_yard m) hs
  second s hs := K.congr s _ rfl hs
  resetWhole _ _ _ _ := K.reset _ rfl rfl rfl rfl
  resetCommand _ _ := K.reset _ rfl rfl rfl rfl

end

end Sys2Proof.Machine

/-! PROOFS. The floors of escalated and sweep-due piles, and the MUST count (03 R54, R56). -/

namespace Sys2Proof.Machine

/-! ## What the two laws see -/

/-- The urgency of a pile and its floors. -/
structure Height where
  urgency : Urgency
  escalated : Bool
  sweepDue : Bool

/-- The urgency of a living part and its floors. -/
def Living.height (l : Living) : Height :=
  { urgency := l.urgency, escalated := l.escalated, sweepDue := l.sweepDue }

/-- The urgencies, the MUST count and the piles. -/
structure Heights where
  height : Fin 48 → Height
  mustCount : Nat
  piles : Table 48 (Option Pile)

/-- The heights that a yard's living parts have. -/
def Yard.heights (y : Yard) : Heights :=
  { height := fun i => (y.living.get i).height, mustCount := y.mustCount, piles := y.piles }

/-- The urgencies of a state and what goes with them. -/
def State.heights (s : State) : Heights := s.yard.heights

/-- The MUST count moved with one urgency (03 R56). -/
def Heights.count (h : Heights) (before after : Urgency) : Heights :=
  if before ≠ .must ∧ after = .must then { h with mustCount := h.mustCount + 1 }
  else if before = .must ∧ after ≠ .must then { h with mustCount := h.mustCount - 1 }
  else h

section

variable {s t : State} {i : Fin 48} {f : Living → Living}

theorem State.heights_of_yard (h : t.yard = s.yard) : t.heights = s.heights := congrArg Yard.heights h

theorem State.heights_height (j : Fin 48) : s.heights.height j = (s.watch.living.get j).height := rfl

theorem State.mapLiving_height (j : Fin 48) :
    (s.mapLiving i f).heights.height j
      = if i = j then (f (s.watch.living.get i)).height else s.heights.height j := by
  rw [State.heights_height, State.mapLiving_watch_living, Table.get_modify]
  split <;> rfl

/-- A change of a living part that leaves its urgency and floors leaves the heights. -/
theorem State.mapLiving_heights (h : ∀ l, (f l).height = l.height) : (s.mapLiving i f).heights = s.heights := by
  have key : (s.mapLiving i f).heights.height = s.heights.height := by
    funext j
    rw [State.mapLiving_height]
    split
    · next hj => rw [h, hj, State.heights_height]
    · rfl
  exact congrArg (fun g => ({ s.heights with height := g } : Heights)) key

end

section

variable (s : State)

@[simp] theorem State.setQueue_heights (q : List Order) : (s.setQueue q).heights = s.heights := rfl
@[simp] theorem State.raise_heights (k : NoticeKind) (n : Nat) : (s.raise k n).heights = s.heights := rfl
@[simp] theorem State.askAll_heights : s.askAll.heights = s.heights := rfl
@[simp] theorem State.askAllIf_heights (b : Bool) : (s.askAllIf b).heights = s.heights := by
  cases b <;> rfl

@[simp] theorem State.dropOrder_heights (i : Fin 48) : (s.dropOrder i).heights = s.heights :=
  State.mapLiving_heights (s := s.setQueue _) fun _ => rfl

@[simp] theorem State.updateOrder_heights (o : Order) (f : Order → Order) :
    (s.updateOrder o f).heights = s.heights :=
  State.askAllIf_heights _ _

@[simp] theorem State.appendOrder_heights (o : Order) : (s.appendOrder o).heights = s.heights :=
  State.mapLiving_heights (s := s.setQueue _) fun _ => rfl

theorem State.join_heights {s t : State} {o : Order} (h : s.join o = some t) : t.heights = s.heights := by
  unfold State.join at h
  split at h
  · rw [← Option.some.inj h]
    simp
  · split at h
    · next d _ =>
      rw [← Option.some.inj h, State.appendOrder_heights]
      refine (State.mapLiving_heights ?_).trans (s.dropOrder_heights d.pile)
      exact fun _ => rfl
    · exact absurd h (by simp)

@[simp] theorem State.offer_heights (i : Fin 48) (u : Urgency) : (s.offer i u).heights = s.heights := by
  unfold State.offer
  split
  · simp
  · split
    · rfl
    · split <;> simp
  · rfl
  · split
    · next h => exact State.join_heights h
    · exact State.mapLiving_heights fun _ => rfl

@[simp] theorem State.offerRule_heights (i : Fin 48) : (s.offerRule i).heights = s.heights := by
  unfold State.offerRule
  repeat' split
  all_goals simp

@[simp] theorem State.mergeOrder_heights (o : Order) (r : Priority) (n : Option (Fin 24)) :
    (s.mergeOrder o r n).heights = s.heights := by
  simp [State.mergeOrder]

@[simp] theorem State.withdrawOrder_heights (o : Order) : (s.withdrawOrder o).heights = s.heights := by
  unfold State.withdrawOrder
  split <;> simp

@[simp] theorem State.placeOrder_heights (i : Fin 48) (r : Priority) (n : Option (Fin 24)) :
    (s.placeOrder i r n).1.heights = s.heights := by
  unfold State.placeOrder
  split
  · simp
  · split
    · next h => exact State.join_heights h
    · rfl

@[simp] theorem State.takeOrder_heights (i : Fin 48) : (s.takeOrder i).heights = s.heights := by
  refine (State.mapLiving_heights ?_).trans (s.dropOrder_heights i)
  exact fun _ => rfl

@[simp] theorem State.countMust_heights (i : Fin 48) (a b : Urgency) :
    (s.countMust i a b).heights = s.heights.count a b := by
  unfold State.countMust Heights.count
  dsimp only
  split
  · split
    · rfl
    · split <;> rfl
  · split <;> rfl

/-- An evaluation under a basis that is not a forecast is reported (03 R51). -/
def State.reportGap (i : Fin 48) (w : WindBasis) : State :=
  if w.kind = .forecast then s else s.raise .forecastGap i.val

@[simp] theorem State.reportGap_heights (i : Fin 48) (w : WindBasis) : (s.reportGap i w).heights = s.heights := by
  unfold State.reportGap
  split <;> rfl

@[simp] theorem State.reportGap_watch (i : Fin 48) (w : WindBasis) : (s.reportGap i w).watch = s.watch := by
  unfold State.reportGap
  split <;> rfl

/-- The living part of a present pile as an evaluation leaves it (03 R51 to R55). -/
def State.livingAfter (i : Fin 48) (p : Pile) (w : WindBasis) (counts : Bool) : Living :=
  (s.watch.living.get i).evaluated s.watch.model (s.geometry.beds.get p.bed) (s.watch.grades.get p.grade) w
    counts

/-- The steps of an evaluation of a present pile but for its offer. -/
def State.evaluatedAt (i : Fin 48) (p : Pile) (w : WindBasis) (counts : Bool) : State :=
  ((s.mapLiving i fun _ => s.livingAfter i p w counts).reportGap i w).countMust i (s.watch.living.get i).urgency
    (s.livingAfter i p w counts).urgency

/-- The steps of an evaluation of a present pile (03 R49 to R57). -/
theorem State.evaluate_of_present {s : State} {i : Fin 48} {p : Pile} (h : s.geometry.piles.get i = some p)
    (w : WindBasis) (counts offers : Bool) :
    s.evaluate i w counts offers = if offers then (s.evaluatedAt i p w counts).offerRule i
      else s.evaluatedAt i p w counts := by
  have hu : (((s.mapLiving i fun _ => s.livingAfter i p w counts).reportGap i w).watch.living.get i).urgency
      = (s.livingAfter i p w counts).urgency := by simp
  unfold State.evaluate State.evaluatedAt
  rw [← hu]
  simp only [h]
  rfl

/-- What an evaluation of a present pile does to the heights (03 R52 to R56). -/
theorem State.evaluate_heights {s : State} {i : Fin 48} {p : Pile} (h : s.geometry.piles.get i = some p)
    (w : WindBasis) (counts offers : Bool) :
    (s.evaluate i w counts offers).heights
      = ((s.mapLiving i fun _ => s.livingAfter i p w counts).heights).count (s.watch.living.get i).urgency
        (s.livingAfter i p w counts).urgency := by
  rw [State.evaluate_of_present h]
  cases offers <;> simp [State.evaluatedAt]

theorem State.evaluate_of_absent {s : State} {i : Fin 48} (h : s.geometry.piles.get i = none) (w : WindBasis)
    (counts offers : Bool) : s.evaluate i w counts offers = s := by
  unfold State.evaluate
  simp only [h]

@[simp] theorem State.evaluate_geometry (i : Fin 48) (w : WindBasis) (counts offers : Bool) :
    (s.evaluate i w counts offers).geometry = s.geometry :=
  congrArg Frame.geometry (s.evaluate_frame i w counts offers)

end

/-! ## The floors -/

/-- The floors of one pile hold (03 R54). -/
def Height.Floored (h : Height) : Prop :=
  (h.escalated = true → h.urgency = .must) ∧ (h.sweepDue = true → h.urgency = .need ∨ h.urgency = .must)

theorem State.urgencyLaw_iff (s : State) : s.UrgencyLaw ↔ ∀ i, (s.heights.height i).Floored := Iff.rfl

theorem Heights.count_height (h : Heights) (a b : Urgency) : (h.count a b).height = h.height := by
  unfold Heights.count
  repeat' split
  all_goals rfl

theorem floorUrgency_of_sweepDue (escalated : Bool) (u : Urgency) :
    floorUrgency escalated true u = .need ∨ floorUrgency escalated true u = .must := by
  cases escalated <;> cases u <;> decide

theorem floorUrgency_sweep_must (u : Urgency) : floorUrgency false true u = .must ↔ u = .must := by
  cases u <;> decide

/-- An evaluation leaves its pile above its floors (03 R54). -/
theorem Living.evaluated_floored (l : Living) (m : Model) (bed : Bed) (g : Grade) (w : WindBasis) (counts : Bool) :
    (l.evaluated m bed g w counts).height.Floored := by
  unfold Living.evaluated Living.height Height.Floored
  dsimp only
  generalize demote w _ = u
  refine ⟨fun h => by simp only [floorUrgency, h, if_true], fun h => ?_⟩
  rw [h]
  exact floorUrgency_of_sweepDue _ _

theorem State.evaluate_urgencyLaw {s : State} (hs : s.UrgencyLaw) (i : Fin 48) (w : WindBasis)
    (counts offers : Bool) : (s.evaluate i w counts offers).UrgencyLaw := by
  cases hp : s.geometry.piles.get i with
  | none => rwa [State.evaluate_of_absent hp]
  | some p =>
    rw [State.urgencyLaw_iff, State.evaluate_heights hp, Heights.count_height]
    intro j
    rw [State.mapLiving_height]
    split
    · exact Living.evaluated_floored _ _ _ _ _ _
    · exact (State.urgencyLaw_iff s).1 hs j

theorem State.urgencyLaw_of_heights {s t : State} (h : t.heights = s.heights) (hs : s.UrgencyLaw) :
    t.UrgencyLaw := by
  rw [State.urgencyLaw_iff, h]
  exact (State.urgencyLaw_iff s).1 hs

/-- A change of one living part keeps the floors where it keeps them of that pile. -/
theorem State.mapLiving_urgencyLaw {s : State} (hs : s.UrgencyLaw) {i : Fin 48} {f : Living → Living}
    (h : (s.watch.living.get i).height.Floored → (f (s.watch.living.get i)).height.Floored) :
    (s.mapLiving i f).UrgencyLaw := by
  refine (State.urgencyLaw_iff _).2 fun j => ?_
  rw [State.mapLiving_height]
  split
  · exact h (hs i)
  · exact hs j

theorem Living.blank_floored : Living.blank.height.Floored := ⟨by simp [Living.blank, Living.height],
  by simp [Living.blank, Living.height]⟩

/-- A pile found due is raised to its floor (03 R63). -/
theorem Living.sweepDue_floored {l : Living} (h : l.height.Floored) :
    ({ l with sweepDue := true, urgency := floorUrgency false true l.urgency } : Living).height.Floored := by
  refine ⟨fun he => ?_, fun _ => floorUrgency_of_sweepDue false l.urgency⟩
  show floorUrgency false true l.urgency = .must
  rw [show l.urgency = .must from h.1 he]
  rfl

theorem State.sweepTest_urgencyLaw {s : State} (hs : s.UrgencyLaw) (bed : Fin 8) (i : Fin 48) :
    (s.sweepTest bed i).UrgencyLaw := by
  refine s.forEach_inv State.UrgencyLaw _ _ (fun t j _ ht => ?_) hs
  split
  · split
    · exact State.urgencyLaw_of_heights (State.offerRule_heights _ _)
        (State.mapLiving_urgencyLaw ht Living.sweepDue_floored)
    · exact ht
  · exact ht

theorem State.takeEndReport_urgencyLaw {s : State} (hs : s.UrgencyLaw) (r : EndReport) (offers : Bool) :
    (s.takeEndReport r offers).UrgencyLaw := by
  unfold State.takeEndReport
  split
  · exact hs
  · next p _ =>
    refine State.evaluate_urgencyLaw ?_ _ _ _ _
    have hw := State.urgencyLaw_of_heights (t := s.mapLiving r.pile fun l =>
      { l with wetting := some (s.wettingOf r), engaged := false }) (State.mapLiving_heights fun _ => rfl) hs
    split
    · refine State.sweepTest_urgencyLaw ?_ _ _
      exact State.mapLiving_urgencyLaw hw fun _ => ⟨fun h => absurd h (by simp [Living.height]),
        fun h => absurd h (by simp [Living.height])⟩
    · exact hw

theorem State.assessPile_urgencyLaw {s : State} (hs : s.UrgencyLaw) (w : WindBasis) (rain : Bool) (i : Fin 48) :
    (s.assessPile w rain i).UrgencyLaw := by
  unfold State.assessPile
  dsimp only
  split
  · exact hs
  · refine State.urgencyLaw_of_heights (State.mapLiving_heights fun _ => rfl)
      (State.evaluate_urgencyLaw (State.urgencyLaw_of_heights (State.mapLiving_heights ?_) hs) _ _ _ _)
    exact fun _ => rfl

theorem Living.atCommit_floored {l : Living} (h : l.height.Floored) (old : Option Pile) (x : Pile) (n : Nat)
    (count : Word16) : (l.atCommit old x n count).height.Floored := by
  unfold Living.atCommit
  split
  · exact Living.blank_floored
  · split
    · exact h
    · exact h

/-- The floors are kept by all that touches the piles (03 R54). -/
theorem State.urgencyLaw_keptByYard : KeptByYard State.UrgencyLaw where
  congr _ _ h := State.urgencyLaw_of_heights (State.heights_of_yard h)
  evaluate _ i w counts offers hs := State.evaluate_urgencyLaw hs i w counts offers
  assessPile _ w rain i hs := State.assessPile_urgencyLaw hs w rain i
  endReport _ r offers hs := State.takeEndReport_urgencyLaw hs r offers
  requeue _ _ _ hs := hs
  dropOrder s i := State.urgencyLaw_of_heights (s.dropOrder_heights i)
  takeOrder s i := State.urgencyLaw_of_heights (s.takeOrder_heights i)
  placeOrder s i r n := State.urgencyLaw_of_heights (s.placeOrder_heights i r n)
  withdrawOrder s _ o _ _ := State.urgencyLaw_of_heights (s.withdrawOrder_heights o)
  place s i x n count hs := State.mapLiving_urgencyLaw
    (s := { s with geometry := s.geometry.placePile i x }) hs fun h => Living.atCommit_floored h _ _ _ _
  remove s i _ hs := State.mapLiving_urgencyLaw (s := (s.discardMust i).removePile i)
    (by
      rw [State.urgencyLaw_iff]
      show ∀ j, ((s.countMust i _ _).heights.height j).Floored
      rw [State.countMust_heights, Heights.count_height]
      exact hs) fun _ => Living.blank_floored
  reset t hl _ _ _ := by
    intro i
    rw [hl, Table.get_fill]
    exact Living.blank_floored

/-! ## The MUST count -/

/-- How much a pile of this urgency adds to the MUST count. -/
def Urgency.mustBit (u : Urgency) : Nat := if u = .must then 1 else 0

/-- How many piles are at MUST. -/
def Heights.musts (h : Heights) : Nat :=
  ((List.finRange 48).filter fun i => decide ((h.height i).urgency = .must)).length

/-- The MUST count is right (03 R56). -/
def Heights.Counted (h : Heights) : Prop :=
  h.mustCount = h.musts ∧ ∀ i, h.piles.get i = none → (h.height i).urgency = .none

theorem State.mustLaw_iff (s : State) : s.MustLaw ↔ s.heights.Counted := Iff.rfl

theorem length_filter_eq_sum {α : Type} (p : α → Prop) [DecidablePred p] (l : List α) :
    (l.filter fun a => decide (p a)).length = (l.map fun a => if p a then 1 else 0).sum := by
  induction l with
  | nil => rfl
  | cons a l ih =>
    by_cases h : p a
    · simp [h, ih, Nat.add_comm]
    · simp [h, ih]

theorem Heights.musts_eq_sum (h : Heights) : h.musts = ∑ i, (h.height i).urgency.mustBit := by
  rw [Fin.sum_univ_def]
  exact length_filter_eq_sum (fun i => (h.height i).urgency = .must) _

/-- One pile's urgency moved. -/
theorem Heights.musts_move {h g : Heights} {i : Fin 48} (hg : ∀ j, j ≠ i → g.height j = h.height j) :
    g.musts + (h.height i).urgency.mustBit = h.musts + (g.height i).urgency.mustBit := by
  have hrest : ∑ j ∈ Finset.univ.erase i, (g.height j).urgency.mustBit
      = ∑ j ∈ Finset.univ.erase i, (h.height j).urgency.mustBit :=
    Finset.sum_congr rfl fun j hj => by rw [hg j (Finset.ne_of_mem_erase hj)]
  rw [Heights.musts_eq_sum, Heights.musts_eq_sum,
    ← Finset.add_sum_erase _ _ (Finset.mem_univ i),
    ← Finset.add_sum_erase Finset.univ (fun j => (h.height j).urgency.mustBit) (Finset.mem_univ i), hrest]
  omega

theorem Heights.mustBit_le_musts (h : Heights) (i : Fin 48) : (h.height i).urgency.mustBit ≤ h.musts := by
  rw [Heights.musts_eq_sum]
  exact Finset.single_le_sum (f := fun j => (h.height j).urgency.mustBit) (fun _ _ => Nat.zero_le _)
    (Finset.mem_univ i)

theorem Heights.count_mustCount (h : Heights) {a b : Urgency} (ha : a.mustBit ≤ h.mustCount) :
    (h.count a b).mustCount + a.mustBit = h.mustCount + b.mustBit := by
  unfold Heights.count Urgency.mustBit at *
  by_cases h1 : a = .must <;> by_cases h2 : b = .must <;> simp_all

theorem Heights.count_mustCount_congr {g h : Heights} (hc : g.mustCount = h.mustCount) (a b : Urgency) :
    (g.count a b).mustCount = (h.count a b).mustCount := by
  unfold Heights.count
  split
  · exact congrArg (· + 1) hc
  · split
    · exact congrArg (· - 1) hc
    · exact hc

theorem Heights.count_musts (h : Heights) (a b : Urgency) : (h.count a b).musts = h.musts := by
  unfold Heights.musts
  rw [Heights.count_height]

theorem Heights.count_piles (h : Heights) (a b : Urgency) : (h.count a b).piles = h.piles := by
  unfold Heights.count
  repeat' split
  all_goals rfl

/-- One pile's urgency moved, and the count with it (03 R56). -/
theorem Heights.Counted.move {h g : Heights} {i : Fin 48} (hh : h.Counted)
    (hg : ∀ j, j ≠ i → g.height j = h.height j)
    (hc : g.mustCount = (h.count (h.height i).urgency (g.height i).urgency).mustCount)
    (hp : ∀ j, g.piles.get j = none → (g.height j).urgency = .none) : g.Counted := by
  have h1 := Heights.musts_move hg
  have h2 := h.mustBit_le_musts i
  have h3 := h.count_mustCount (a := (h.height i).urgency) (b := (g.height i).urgency) (by rw [hh.1]; exact h2)
  have h4 := hh.1
  exact ⟨by omega, hp⟩

/-- The count stands where no pile enters MUST or leaves it. -/
theorem Heights.Counted.of_same {h g : Heights} (hh : h.Counted)
    (hu : ∀ j, (g.height j).urgency = .must ↔ (h.height j).urgency = .must)
    (hc : g.mustCount = h.mustCount)
    (hp : ∀ j, g.piles.get j = none → (g.height j).urgency = .none) : g.Counted := by
  refine ⟨?_, hp⟩
  rw [hc, hh.1]
  unfold Heights.musts
  simp only [hu]

theorem State.mustLaw_of_heights {s t : State} (h : t.heights = s.heights) (hs : s.MustLaw) : t.MustLaw := by
  rw [State.mustLaw_iff, h]
  exact (State.mustLaw_iff s).1 hs

theorem State.evaluate_mustLaw {s : State} (hs : s.MustLaw) (i : Fin 48) (w : WindBasis) (counts offers : Bool) :
    (s.evaluate i w counts offers).MustLaw := by
  cases hp : s.geometry.piles.get i with
  | none => rwa [State.evaluate_of_absent hp]
  | some p =>
    have hne : ∀ j, j ≠ i →
        (s.mapLiving i fun _ => s.livingAfter i p w counts).heights.height j = s.heights.height j := by
      intro j hj
      rw [State.mapLiving_height, if_neg hj.symm]
    have hi : (s.mapLiving i fun _ => s.livingAfter i p w counts).heights.height i
        = (s.livingAfter i p w counts).height := by
      rw [State.mapLiving_height, if_pos rfl]
    rw [State.mustLaw_iff, State.evaluate_heights hp]
    refine Heights.Counted.move (i := i) ((State.mustLaw_iff s).1 hs) ?_ ?_ ?_
    · intro j hj
      rw [Heights.count_height, hne j hj]
    · rw [Heights.count_height, hi]
      exact Heights.count_mustCount_congr (g := (s.mapLiving i fun _ => s.livingAfter i p w counts).heights)
        (h := s.heights) rfl _ _
    · intro j hj
      rw [Heights.count_piles] at hj
      have hj' : s.geometry.piles.get j = none := hj
      have hji : j ≠ i := by
        rintro rfl
        simp [hp] at hj'
      rw [Heights.count_height, hne j hji]
      exact hs.2 j hj'

/-- A change of one living part that moves no urgency to MUST or from it, and none of an absent pile. -/
theorem State.mapLiving_mustLaw {s : State} (hs : s.MustLaw) {i : Fin 48} {f : Living → Living}
    (hu : (f (s.watch.living.get i)).urgency = .must ↔ (s.watch.living.get i).urgency = .must)
    (hp : s.geometry.piles.get i = none → (f (s.watch.living.get i)).urgency = .none) :
    (s.mapLiving i f).MustLaw := by
  refine (State.mustLaw_iff _).2 (Heights.Counted.of_same ((State.mustLaw_iff s).1 hs) (fun j => ?_) rfl
    fun j hj => ?_)
  · rw [State.mapLiving_height]
    split
    · next h => exact h ▸ hu
    · exact Iff.rfl
  · rw [State.mapLiving_height]
    split
    · next h => exact hp (h ▸ hj)
    · exact hs.2 j hj

theorem State.sweepTest_mustLaw {s : State} (hs : s.MustLaw) (bed : Fin 8) (i : Fin 48) :
    (s.sweepTest bed i).MustLaw := by
  refine s.forEach_inv State.MustLaw _ _ (fun t j _ ht => ?_) hs
  split
  · next p hp =>
    split
    · refine State.mustLaw_of_heights (State.offerRule_heights _ _)
        (State.mapLiving_mustLaw ht ?_ fun h => by simp [hp] at h)
      exact floorUrgency_sweep_must _
    · exact ht
  · exact ht

theorem State.takeEndReport_mustLaw {s : State} (hs : s.MustLaw) (r : EndReport) (offers : Bool) :
    (s.takeEndReport r offers).MustLaw := by
  unfold State.takeEndReport
  split
  · exact hs
  · next p _ =>
    refine State.evaluate_mustLaw ?_ _ _ _ _
    have hw := State.mustLaw_of_heights (t := s.mapLiving r.pile fun l =>
      { l with wetting := some (s.wettingOf r), engaged := false }) (State.mapLiving_heights fun _ => rfl) hs
    split
    · refine State.sweepTest_mustLaw ?_ _ _
      exact State.mapLiving_mustLaw hw Iff.rfl (hw.2 _)
    · exact hw

theorem State.assessPile_mustLaw {s : State} (hs : s.MustLaw) (w : WindBasis) (rain : Bool) (i : Fin 48) :
    (s.assessPile w rain i).MustLaw := by
  unfold State.assessPile
  dsimp only
  split
  · exact hs
  · refine State.mustLaw_of_heights (State.mapLiving_heights fun _ => rfl)
      (State.evaluate_mustLaw (State.mustLaw_of_heights (State.mapLiving_heights ?_) hs) _ _ _ _)
    exact fun _ => rfl

/-- A PILE COMMIT moves no urgency: a new pile starts at NONE (03 R43). -/
theorem State.place_mustLaw {s : State} (hs : s.MustLaw) (i : Fin 48) (x : Pile) (n : Nat) (count : Word16) :
    (({ s with geometry := s.geometry.placePile i x } : State).mapLiving i fun l =>
      l.atCommit (s.geometry.piles.get i) x n count).MustLaw := by
  have hi : ((s.watch.living.get i).atCommit (s.geometry.piles.get i) x n count).urgency
      = (s.watch.living.get i).urgency := by
    unfold Living.atCommit
    split
    · next h => exact (hs.2 i h).symm
    · split <;> rfl
  have hall : ∀ j, ((({ s with geometry := s.geometry.placePile i x } : State).mapLiving i fun l =>
      l.atCommit (s.geometry.piles.get i) x n count).heights.height j).urgency
        = (s.heights.height j).urgency := by
    intro j
    rw [State.mapLiving_height]
    split
    · next h => exact h ▸ hi
    · rfl
  refine (State.mustLaw_iff _).2 (Heights.Counted.of_same (h := s.heights) ((State.mustLaw_iff s).1 hs)
    (fun j => iff_of_eq (congrArg (· = .must) (hall j))) rfl fun j hj => ?_)
  rw [hall j]
  have hj' : (s.geometry.piles.put i (some x)).get j = none := hj
  refine hs.2 j ?_
  by_cases h : i = j
  · simp [h] at hj'
  · simpa [h] using hj'

/-- A pile whose part in the MUST count has been discarded is removed (01 R9, 03 R56). -/
theorem State.remove_counted {s t : State} (hs : s.MustLaw) {i : Fin 48}
    (ht : t.heights = s.heights.count (s.heights.height i).urgency .none) :
    ((t.removePile i).mapLiving i fun _ => Living.blank).MustLaw := by
  have hne : ∀ j, j ≠ i → ((t.removePile i).mapLiving i fun _ => Living.blank).heights.height j
      = s.heights.height j := by
    intro j hj
    rw [State.mapLiving_height, if_neg hj.symm]
    show t.heights.height j = _
    rw [ht, Heights.count_height]
  have hi : (((t.removePile i).mapLiving i fun _ => Living.blank).heights.height i).urgency = .none := by
    rw [State.mapLiving_height, if_pos rfl]
    rfl
  refine (State.mustLaw_iff _).2 (Heights.Counted.move (i := i) ((State.mustLaw_iff s).1 hs) hne ?_ fun j hj => ?_)
  · rw [hi, ← ht]
    rfl
  · by_cases h : j = i
    · rw [h]
      exact hi
    · rw [hne j h]
      have hp : t.geometry.piles = s.geometry.piles :=
        (congrArg Heights.piles ht).trans (Heights.count_piles _ _ _)
      have hj' : (t.geometry.piles.put i none).get j = none := hj
      exact hs.2 j (by simpa [hp, Ne.symm h] using hj')

theorem State.remove_mustLaw {s : State} (hs : s.MustLaw) (i : Fin 48) :
    (((s.discardMust i).removePile i).mapLiving i fun _ => Living.blank).MustLaw :=
  State.remove_counted hs (s.countMust_heights i _ _)

/-- The MUST count is kept by all that touches the piles (03 R56). -/
theorem State.mustLaw_keptByYard : KeptByYard State.MustLaw where
  congr _ _ h := State.mustLaw_of_heights (State.heights_of_yard h)
  evaluate _ i w counts offers hs := State.evaluate_mustLaw hs i w counts offers
  assessPile _ w rain i hs := State.assessPile_mustLaw hs w rain i
  endReport _ r offers hs := State.takeEndReport_mustLaw hs r offers
  requeue _ _ _ hs := hs
  dropOrder s i := State.mustLaw_of_heights (s.dropOrder_heights i)
  takeOrder s i := State.mustLaw_of_heights (s.takeOrder_heights i)
  placeOrder s i r n := State.mustLaw_of_heights (s.placeOrder_heights i r n)
  withdrawOrder s _ o _ _ := State.mustLaw_of_heights (s.withdrawOrder_heights o)
  place _ i x n count hs := State.place_mustLaw hs i x n count
  remove _ i _ hs := State.remove_mustLaw hs i
  reset t hl hm _ _ := by
    refine ⟨?_, fun i _ => by rw [hl, Table.get_fill]; rfl⟩
    rw [hm, State.pilesAtMust, hl]
    simp [Living.blank]

/-- Settles O58: every evaluation ends at its pile's floors, what marks a pile due raises it to its floor, and
what moves an urgency to MUST or from it moves the count. -/
theorem stepKeepsTheUrgencyLaws : Obligations.StepKeepsTheUrgencyLaws :=
  fun _ _ h => ⟨State.urgencyLaw_keptByYard.kept.step h, State.mustLaw_keptByYard.kept.step h⟩

end Sys2Proof.Machine

/-! PROOFS. The law of the queue: at most 16 orders, at most one for each pile, each with a part (05 R89, R90). -/

namespace Sys2Proof.Machine

/-- An order has a watch part or an operator part (05 R90). -/
def Order.Parted (o : Order) : Prop := o.watch.isSome = true ∨ o.operator.isSome = true

/-- The law of the queue, as it stands of the orders alone. -/
structure OrdersOk (q : List Order) : Prop where
  size : q.length ≤ 16
  one : (q.map (·.pile)).Nodup
  parted : ∀ o ∈ q, o.Parted

section

variable {q : List Order} {s t : State} {i : Fin 48} {o : Order}

theorem State.queueLaw_iff (s : State) : s.QueueLaw ↔ OrdersOk s.queue :=
  ⟨fun ⟨h1, h2, h3⟩ => ⟨h1, h2, h3⟩, fun ⟨h1, h2, h3⟩ => ⟨h1, h2, h3⟩⟩

/-! ## What keeps the law -/

theorem OrdersOk.filter (h : OrdersOk q) (p : Order → Bool) : OrdersOk (q.filter p) where
  size := (List.length_filter_le _ _).trans h.size
  one := h.one.sublist (List.filter_sublist.map _)
  parted o ho := h.parted o (List.mem_of_mem_filter ho)

theorem OrdersOk.map (h : OrdersOk q) {f : Order → Order} (hp : ∀ o, (f o).pile = o.pile)
    (hf : ∀ o ∈ q, (f o).Parted) : OrdersOk (q.map f) where
  size := by simpa using h.size
  one := by
    rw [List.map_map, show (fun o : Order => o.pile) ∘ f = fun o => o.pile from funext hp]
    exact h.one
  parted o ho := by
    obtain ⟨x, hx, rfl⟩ := List.mem_map.1 ho
    exact hf x hx

theorem OrdersOk.append (h : OrdersOk q) (hs : q.length < 16) (hn : ∀ x ∈ q, x.pile ≠ o.pile) (ho : o.Parted) :
    OrdersOk (q ++ [o]) where
  size := by simpa using hs
  one := by
    rw [List.map_append, List.nodup_append]
    refine ⟨h.one, by simp, ?_⟩
    intro a ha b hb
    obtain ⟨x, hx, rfl⟩ := List.mem_map.1 ha
    obtain rfl : b = o.pile := by simpa using hb
    exact hn x hx
  parted x hx := by
    rcases List.mem_append.1 hx with hx | hx
    · exact h.parted x hx
    · rw [List.mem_singleton.1 hx]
      exact ho

/-- The order of a pile is the only one of that pile (05 R89). -/
theorem OrdersOk.eq_of_pile (h : OrdersOk q) {x y : Order} (hx : x ∈ q) (hy : y ∈ q) (hxy : x.pile = y.pile) :
    x = y :=
  List.inj_on_of_nodup_map h.one hx hy hxy

/-! ## What the queue holds -/

/-- The order found for a pile stands in the queue. -/
theorem State.orderOf_spec (h : s.orderOf i = some o) : o ∈ s.queue ∧ o.pile = i := by
  refine ⟨List.mem_of_find?_eq_some h, ?_⟩
  have := List.find?_some h
  simpa using this

/-- Where no order is found for a pile none stands in the queue. -/
theorem State.pile_ne_of_orderOf_eq_none (h : s.orderOf i = none) : ∀ x ∈ s.queue, x.pile ≠ i := by
  intro x hx
  have := List.find?_eq_none.1 h x hx
  simpa using this

/-- What is displaced stands in the queue, with no operator part and a lower rank (05 R93). -/
theorem State.displaceable_spec {r : Nat} (h : s.displaceable r = some o) :
    o ∈ s.queue ∧ o.operator = none ∧ o.rank < r := by
  have key : ∀ y, s.displaceable r = some y → y ∈ s.queue ∧ y.operator = none ∧ y.rank < r := by
    unfold State.displaceable
    refine List.foldlRecOn (motive := fun best : Option Order =>
      ∀ y, best = some y → y ∈ s.queue ∧ y.operator = none ∧ y.rank < r) _ _ (by simp) ?_
    intro best hb x hx y hy
    split at hy
    · next hc =>
      obtain ⟨ho, hr⟩ : x.operator = none ∧ x.rank < r := by simpa using hc
      split at hy
      · split at hy
        · rw [← Option.some.inj hy]
          exact ⟨hx, ho, hr⟩
        · exact hb y hy
      · rw [← Option.some.inj hy]
        exact ⟨hx, ho, hr⟩
    · exact hb y hy
  exact key o h

/-! ## The operations -/

@[simp] theorem State.askAllIf_queue (b : Bool) : (s.askAllIf b).queue = s.queue := by
  cases b <;> rfl

theorem State.updateOrder_queue (o : Order) (f : Order → Order) : (s.updateOrder o f).queue
    = s.queue.map fun x => if x.pile = o.pile then { f x with pile := x.pile } else x := by
  simp [State.updateOrder, State.mapOrder]

theorem State.updateOrder_queueLaw (hs : s.QueueLaw) {f : Order → Order}
    (hf : ∀ x ∈ s.queue, x.pile = o.pile → (f x).Parted) : (s.updateOrder o f).QueueLaw := by
  rw [State.queueLaw_iff, State.updateOrder_queue]
  refine OrdersOk.map ((State.queueLaw_iff s).1 hs) (fun x => ?_) fun x hx => ?_
  · split <;> rfl
  · split
    · next h => exact hf x hx h
    · exact hs.2.2 x hx

theorem State.dropOrder_queueLaw (hs : s.QueueLaw) (i : Fin 48) : (s.dropOrder i).QueueLaw :=
  (State.queueLaw_iff _).2 (((State.queueLaw_iff s).1 hs).filter _)

theorem State.join_queueLaw (hs : s.QueueLaw) (hn : ∀ x ∈ s.queue, x.pile ≠ o.pile) (ho : o.Parted)
    (h : s.join o = some t) : t.QueueLaw := by
  have hq := (State.queueLaw_iff s).1 hs
  unfold State.join at h
  split at h
  · next hlt =>
    rw [← Option.some.inj h]
    exact (State.queueLaw_iff _).2 (hq.append hlt hn ho)
  · split at h
    · next d hd =>
      obtain ⟨hmem, -, -⟩ := State.displaceable_spec hd
      rw [← Option.some.inj h]
      refine (State.queueLaw_iff _).2 ((hq.filter fun y => y.pile != d.pile).append ?_ ?_ ho)
      · refine lt_of_lt_of_le (List.length_filter_lt_length_iff_exists.2 ⟨d, hmem, by simp⟩) hq.size
      · exact fun x hx => hn x (List.mem_of_mem_filter hx)
    · exact absurd h (by simp)

theorem State.offer_queueLaw (hs : s.QueueLaw) (i : Fin 48) (u : Urgency) : (s.offer i u).QueueLaw := by
  unfold State.offer
  split
  · exact State.updateOrder_queueLaw hs fun _ _ _ => .inl rfl
  · next o ho _ =>
    split
    · exact hs
    · split
      · exact State.dropOrder_queueLaw hs i
      · next hop =>
        refine State.updateOrder_queueLaw hs fun x hx hxo => .inr ?_
        rw [OrdersOk.eq_of_pile ((State.queueLaw_iff s).1 hs) hx (State.orderOf_spec ho).1 hxo]
        simpa [Option.isSome_iff_ne_none] using hop
  · exact hs
  · next w ho _ =>
    split
    · next h => exact State.join_queueLaw hs (State.pile_ne_of_orderOf_eq_none ho) (.inl rfl) h
    · exact hs

theorem State.offerRule_queueLaw (hs : s.QueueLaw) (i : Fin 48) : (s.offerRule i).QueueLaw := by
  unfold State.offerRule
  repeat' split
  · exact hs
  · exact State.offer_queueLaw hs _ _
  · exact State.offer_queueLaw hs _ _
  · exact hs
  · exact hs

theorem State.countMust_queue (s : State) (i : Fin 48) (a b : Urgency) : (s.countMust i a b).queue = s.queue := by
  unfold State.countMust
  dsimp only
  repeat' split
  all_goals rfl

theorem State.queueLaw_of_queue (h : t.queue = s.queue) (hs : s.QueueLaw) : t.QueueLaw :=
  (State.queueLaw_iff t).2 (h ▸ (State.queueLaw_iff s).1 hs)

theorem State.evaluatedAt_queue (s : State) (i : Fin 48) (p : Pile) (w : WindBasis) (counts : Bool) :
    (s.evaluatedAt i p w counts).queue = s.queue := by
  unfold State.evaluatedAt State.reportGap
  rw [State.countMust_queue]
  split <;> rfl

theorem State.evaluate_queueLaw (hs : s.QueueLaw) (i : Fin 48) (w : WindBasis) (counts offers : Bool) :
    (s.evaluate i w counts offers).QueueLaw := by
  cases hp : s.geometry.piles.get i with
  | none => rwa [State.evaluate_of_absent hp]
  | some p =>
    have he : (s.evaluatedAt i p w counts).QueueLaw :=
      State.queueLaw_of_queue (s.evaluatedAt_queue i p w counts) hs
    rw [State.evaluate_of_present hp]
    cases offers
    · exact he
    · exact State.offerRule_queueLaw he i

theorem State.sweepTest_queueLaw (hs : s.QueueLaw) (bed : Fin 8) (i : Fin 48) :
    (s.sweepTest bed i).QueueLaw := by
  refine s.forEach_inv State.QueueLaw _ _ (fun t j _ ht => ?_) hs
  split
  · split
    · exact State.offerRule_queueLaw (s := t.mapLiving _ _) ht j
    · exact ht
  · exact ht

theorem State.mapLiving_queueLaw {f : Living → Living} (hs : s.QueueLaw) : (s.mapLiving i f).QueueLaw := hs

theorem State.creditPass_queueLaw (hs : s.QueueLaw) (r : EndReport) (bed : Fin 8) :
    (s.creditPass r bed).QueueLaw := hs

theorem State.takeEndReport_queueLaw (hs : s.QueueLaw) (r : EndReport) (offers : Bool) :
    (s.takeEndReport r offers).QueueLaw := by
  unfold State.takeEndReport
  split
  · exact hs
  · refine State.evaluate_queueLaw ?_ _ _ _ _
    split
    · exact State.sweepTest_queueLaw (State.creditPass_queueLaw (State.mapLiving_queueLaw hs) _ _) _ _
    · exact State.mapLiving_queueLaw hs

theorem State.assessPile_queueLaw (hs : s.QueueLaw) (w : WindBasis) (rain : Bool) (i : Fin 48) :
    (s.assessPile w rain i).QueueLaw := by
  unfold State.assessPile
  dsimp only
  split
  · exact hs
  · exact State.mapLiving_queueLaw (State.evaluate_queueLaw (State.mapLiving_queueLaw hs) _ _ _ _)

theorem State.placeOrder_queueLaw (hs : s.QueueLaw) (i : Fin 48) (r : Priority) (named : Option (Fin 24)) :
    (s.placeOrder i r named).1.QueueLaw := by
  unfold State.placeOrder
  split
  · next o ho =>
    exact State.queueLaw_of_queue (State.askAllIf_queue _)
      (State.updateOrder_queueLaw hs fun _ _ _ => .inr rfl)
  · next ho =>
    split
    · next h => exact State.join_queueLaw hs (State.pile_ne_of_orderOf_eq_none ho) (.inr rfl) h
    · exact hs

theorem State.withdrawOrder_queueLaw (hs : s.QueueLaw) (ho : s.orderOf i = some o) :
    (s.withdrawOrder o).QueueLaw := by
  unfold State.withdrawOrder
  split
  · exact State.dropOrder_queueLaw hs _
  · next hw =>
    refine State.updateOrder_queueLaw hs fun x hx hxo => .inl ?_
    rw [OrdersOk.eq_of_pile ((State.queueLaw_iff s).1 hs) hx (State.orderOf_spec ho).1 hxo]
    simpa [Option.isSome_iff_ne_none] using hw

end

/-- The law of the queue is kept by all that touches the piles and orders. -/
theorem State.queueLaw_keptByYard : KeptByYard State.QueueLaw where
  congr _ _ h := State.queueLaw_of_queue (congrArg Yard.queue h)
  evaluate _ i w counts offers hs := State.evaluate_queueLaw hs i w counts offers
  assessPile _ w rain i hs := State.assessPile_queueLaw hs w rain i
  endReport _ r offers hs := State.takeEndReport_queueLaw hs r offers
  requeue s f hf hs := (State.queueLaw_iff _).2 (((State.queueLaw_iff s).1 hs).map (fun o => (hf o).1)
    fun o ho => by
      obtain ⟨-, hw, hp⟩ := hf o
      unfold Order.Parted
      rw [hw, hp]
      exact hs.2.2 o ho)
  dropOrder _ i hs := State.dropOrder_queueLaw hs i
  takeOrder _ i hs := State.queueLaw_of_queue rfl (State.dropOrder_queueLaw hs i)
  placeOrder _ i r n hs := State.placeOrder_queueLaw hs i r n
  withdrawOrder _ _ _ ho _ hs := State.withdrawOrder_queueLaw hs ho
  place _ _ _ _ _ hs := State.queueLaw_of_queue rfl hs
  remove s i _ hs := State.queueLaw_of_queue (s.countMust_queue i _ _) hs
  reset t _ _ hq _ := by
    rw [State.queueLaw_iff, hq]
    exact ⟨by simp, by simp, by simp⟩

end Sys2Proof.Machine

/-! PROOFS. What each yard mode allows (07 R139, R143; 05 R90). -/

namespace Sys2Proof.Machine

section

variable {s t : State}

/-! ## What the law sees of the mains -/

/-- A main is neither DRAINING nor DRAINED. -/
def Main.InYard (x : Main) : Prop := x.state ≠ .draining ∧ x.state ≠ .drained

/-- A live pass stands only in an ACTIVE yard. -/
theorem State.ModeLaw.active_of_live (hs : s.ModeLaw) {c : Fin 8} {p : Pass}
    (h : s.engine.contexts.get c = some p) : s.control.mode = .active := by
  unfold State.ModeLaw at hs
  split at hs
  · assumption
  · exact absurd (hs.1 c) (by simp [h])
  · exact absurd (hs.1 c) (by simp [h])
  · exact absurd (hs.1 c) (by simp [h])

/-- In an ACTIVE yard no drain timer runs, and no main drains. -/
theorem State.modeLaw_active_iff (h : s.control.mode = .active) :
    s.ModeLaw ↔ (∀ m, s.control.drainTimers.get m = none) ∧ ∀ m, (s.engine.mains.get m).InYard := by
  unfold State.ModeLaw Main.InYard
  simp only [h]

theorem State.modeLaw_held_iff (h : s.control.mode = .held) :
    s.ModeLaw ↔ s.NoPass ∧ (∀ m, s.control.drainTimers.get m = none) ∧ ∀ m, (s.engine.mains.get m).InYard := by
  unfold State.ModeLaw Main.InYard
  simp only [h]

theorem State.modeLaw_draining_iff (h : s.control.mode = .draining) :
    s.ModeLaw ↔ s.NoPass ∧ s.queue = []
      ∧ ∀ m, ((s.engine.mains.get m).state = .draining ∧ (s.control.drainTimers.get m).isSome = true)
        ∨ ((s.engine.mains.get m).state = .drained ∧ s.control.drainTimers.get m = none) := by
  unfold State.ModeLaw
  simp only [h]

theorem State.modeLaw_drained_iff (h : s.control.mode = .drained) :
    s.ModeLaw ↔ s.NoPass ∧ s.queue = []
      ∧ ∀ m, (s.engine.mains.get m).state = .drained ∧ s.control.drainTimers.get m = none := by
  unfold State.ModeLaw
  simp only [h]

/-- In an ACTIVE yard the law is kept by what puts no main among those that drain. -/
theorem State.ModeLaw.of_active (hs : s.ModeLaw) (ha : s.control.mode = .active)
    (hc : t.control.mode = s.control.mode) (hd : t.control.drainTimers = s.control.drainTimers)
    (hm : ∀ k, (t.engine.mains.get k).state = (s.engine.mains.get k).state ∨ (t.engine.mains.get k).InYard) :
    t.ModeLaw := by
  obtain ⟨h1, h2⟩ := (State.modeLaw_active_iff ha).1 hs
  refine (State.modeLaw_active_iff (hc.trans ha)).2 ⟨hd ▸ h1, fun k => ?_⟩
  obtain h | h := hm k
  · unfold Main.InYard
    rw [h]
    exact h2 k
  · exact h

/-- The law is kept by what makes no pass and no order where there may be none, and by what moves no main to or
from those that drain. -/
theorem State.ModeLaw.transfer (hs : s.ModeLaw) (hc : t.control.mode = s.control.mode)
    (hd : t.control.drainTimers = s.control.drainTimers) (hp : s.NoPass → t.NoPass)
    (hq : s.draining = true → s.queue = [] → t.queue = [])
    (hm : ∀ k, (t.engine.mains.get k).state = (s.engine.mains.get k).state
      ∨ ((s.engine.mains.get k).InYard ∧ (t.engine.mains.get k).InYard)) : t.ModeLaw := by
  have hyard : (∀ k, (s.engine.mains.get k).InYard) → ∀ k, (t.engine.mains.get k).InYard := by
    intro h k
    obtain hk | hk := hm k
    · unfold Main.InYard
      rw [hk]
      exact h k
    · exact hk.2
  cases ha : s.control.mode with
  | active =>
    obtain ⟨h1, h2⟩ := (State.modeLaw_active_iff ha).1 hs
    exact (State.modeLaw_active_iff (hc.trans ha)).2 ⟨hd ▸ h1, hyard h2⟩
  | held =>
    obtain ⟨h0, h1, h2⟩ := (State.modeLaw_held_iff ha).1 hs
    exact (State.modeLaw_held_iff (hc.trans ha)).2 ⟨hp h0, hd ▸ h1, hyard h2⟩
  | draining =>
    obtain ⟨h0, h1, h2⟩ := (State.modeLaw_draining_iff ha).1 hs
    refine (State.modeLaw_draining_iff (hc.trans ha)).2
      ⟨hp h0, hq (by simp [State.draining, ha]) h1, fun k => ?_⟩
    obtain hk | ⟨hk, -⟩ := hm k
    · rw [hk, hd]
      exact h2 k
    · obtain h | h := h2 k
      · exact absurd h.1 hk.1
      · exact absurd h.1 hk.2
  | drained =>
    obtain ⟨h0, h1, h2⟩ := (State.modeLaw_drained_iff ha).1 hs
    refine (State.modeLaw_drained_iff (hc.trans ha)).2
      ⟨hp h0, hq (by simp [State.draining, ha]) h1, fun k => ?_⟩
    obtain hk | ⟨hk, -⟩ := hm k
    · rw [hk, hd]
      exact h2 k
    · exact absurd (h2 k).1 hk.2

/-- What Pile Watch and the Order Queue do keeps the law where it makes no order in a yard that drains. -/
theorem State.ModeLaw.of_beyondWatch (hs : s.ModeLaw) (h : t.beyondWatch = s.beyondWatch)
    (hq : s.draining = true → s.queue = [] → t.queue = []) : t.ModeLaw := by
  obtain ⟨hm, hx, -, hc, -⟩ := State.beyondWatch_fields h
  exact hs.transfer (by rw [hc]) (by rw [hc]) (fun h c => by rw [hx]; exact h c) hq fun k => .inl (by rw [hm])

/-- What the Water Table does keeps the law. -/
theorem State.ModeLaw.of_beyondWater (hs : s.ModeLaw) (h : t.beyondWater = s.beyondWater) : t.ModeLaw := by
  obtain ⟨hm, hx, -, hq, hc, -⟩ := State.beyondWater_fields h
  exact hs.transfer (by rw [hc]) (by rw [hc]) (fun h c => by rw [hx]; exact h c) (fun _ h => by rw [hq]; exact h)
    fun k => .inl (by rw [hm])

/-- A main changed on which nothing drains before or after. -/
theorem State.ModeLaw.mapMain (hs : s.ModeLaw) {m : Fin 4} {f : Main → Main}
    (h : (f (s.engine.mains.get m)).state = (s.engine.mains.get m).state
      ∨ ((s.engine.mains.get m).InYard ∧ (f (s.engine.mains.get m)).InYard)) : (s.mapMain m f).ModeLaw := by
  refine hs.transfer rfl rfl id (fun _ => id) fun k => ?_
  by_cases hk : m = k
  · subst hk
    simpa using h
  · simp [hk]

/-! ## Orders in a yard that drains -/

/-- No offer is made in a yard that drains (03 R57). -/
theorem State.offerRule_of_draining (h : s.draining = true) (i : Fin 48) : s.offerRule i = s := by
  unfold State.offerRule
  split
  · rfl
  · split
    · next hm => simp [State.draining, hm] at h
    · next hm => simp [State.draining, hm] at h
    · rfl
    · rfl

theorem State.draining_of_frame (h : t.frame = s.frame) : t.draining = s.draining := by
  unfold State.draining
  rw [show t.control.mode = s.control.mode from congrArg Frame.mode h]

theorem State.evaluate_queue_of_draining (h : s.draining = true) (i : Fin 48) (w : WindBasis)
    (counts offers : Bool) : (s.evaluate i w counts offers).queue = s.queue := by
  cases hp : s.geometry.piles.get i with
  | none => rw [State.evaluate_of_absent hp]
  | some p =>
    have hd : (s.evaluatedAt i p w counts).draining = true := by
      rw [← h]
      apply State.draining_of_frame
      unfold State.evaluatedAt State.reportGap
      split <;> simp
    rw [State.evaluate_of_present hp, State.offerRule_of_draining hd]
    cases offers <;> exact State.evaluatedAt_queue s i p w counts

theorem State.reevaluate_queue_of_draining (h : s.draining = true) (i : Fin 48) (offers : Bool) :
    (s.reevaluate i offers).queue = s.queue :=
  State.evaluate_queue_of_draining h _ _ _ _

theorem State.markSweepDue_queue_of_draining (h : s.draining = true) (i : Fin 48) :
    (s.markSweepDue i).queue = s.queue := by
  unfold State.markSweepDue
  rw [State.offerRule_of_draining]
  · rfl
  · exact h

theorem State.sweepTest_queue_of_draining (h : s.draining = true) (bed : Fin 8) (i : Fin 48) :
    (s.sweepTest bed i).queue = s.queue := by
  have key : (s.sweepTest bed i).draining = true ∧ (s.sweepTest bed i).queue = s.queue := by
    refine s.forEach_inv (fun t => t.draining = true ∧ t.queue = s.queue) _ _ (fun t j _ ht => ?_) ⟨h, rfl⟩
    split
    · split
      · exact ⟨(State.draining_of_frame (by simp)).trans ht.1,
          (State.markSweepDue_queue_of_draining ht.1 j).trans ht.2⟩
      · exact ht
    · exact ht
  exact key.2

theorem State.takeEndReport_queue_of_draining (h : s.draining = true) (r : EndReport) (offers : Bool) :
    (s.takeEndReport r offers).queue = s.queue := by
  unfold State.takeEndReport
  split
  · rfl
  · dsimp only
    split
    · rw [State.reevaluate_queue_of_draining]
      · rw [State.sweepTest_queue_of_draining]
        · rfl
        · exact h
      · exact (State.draining_of_frame (by simp)).trans h
    · rw [State.reevaluate_queue_of_draining]
      · rfl
      · exact h

/-! ## Pass ends and attempts -/

/-- The main of an ended pass is FAULTED, OPEN or CLOSED, or stays (06 R128). -/
theorem State.mainAfterEnd_states (s : State) (p : Pass) (e : PassEnd) (k : Fin 4) :
    ((s.mainAfterEnd p e).engine.mains.get k).state = (s.engine.mains.get k).state
      ∨ ((s.mainAfterEnd p e).engine.mains.get k).InYard := by
  have hput : ∀ f : Main → Main, (f (s.engine.mains.get p.main)).InYard →
      ((s.engine.mains.modify p.main f).get k).state = (s.engine.mains.get k).state
        ∨ ((s.engine.mains.modify p.main f).get k).InYard := by
    intro f hf
    by_cases hk : p.main = k
    · subst hk
      exact .inr (by simpa using hf)
    · exact .inl (by simp [hk])
  unfold State.mainAfterEnd
  split
  · exact hput _ ⟨by simp [Main.shut], by simp [Main.shut]⟩
  · split
    · split
      · exact hput _ ⟨by simp [Main.shut], by simp [Main.shut]⟩
      · exact .inl rfl
    · split
      · exact hput _ ⟨by simp, by simp⟩
      · exact hput _ ⟨by simp [Main.shut], by simp [Main.shut]⟩

theorem State.endPass_states (s : State) (x : Option (Fin 5)) (c : Fin 8) (e : PassEnd) (offers : Bool)
    (k : Fin 4) : ((s.endPass x c e offers).engine.mains.get k).state = (s.engine.mains.get k).state
      ∨ ((s.endPass x c e offers).engine.mains.get k).InYard := by
  cases h : s.engine.contexts.get c with
  | none =>
    rw [State.endPass_of_free h]
    exact .inl rfl
  | some p =>
    rw [State.endPass_mains h, ← s.settle_mains x p (p.finalDelivered e)]
    exact State.mainAfterEnd_states _ p e k

theorem State.prime_states (s : State) (x : Option (Fin 5)) (c : Fin 8) (p : Pass) (k : Fin 4) :
    ((s.prime x c p).engine.mains.get k).state = (s.engine.mains.get k).state
      ∨ ((s.prime x c p).engine.mains.get k).InYard := by
  by_cases hk : p.main = k
  · subst hk
    obtain ⟨-, h⟩ | h := s.prime_mains x c p <;> rw [h] <;> simp [Main.InYard, Main.shut]
  · obtain ⟨-, h⟩ | h := s.prime_mains x c p <;> rw [h] <;> simp [hk]

theorem State.frame_mode (s : State) : s.frame.mode = s.control.mode := rfl

theorem State.frame_drainTimers (s : State) : s.frame.drainTimers = s.control.drainTimers := rfl

theorem State.control_of_frame (h : t.frame = s.frame) :
    t.control.mode = s.control.mode ∧ t.control.drainTimers = s.control.drainTimers :=
  ⟨congrArg Frame.mode h, congrArg Frame.drainTimers h⟩

theorem State.ModeLaw.endPass (hs : s.ModeLaw) (x : Option (Fin 5)) (c : Fin 8) (e : PassEnd) (offers : Bool) :
    (s.endPass x c e offers).ModeLaw := by
  cases h : s.engine.contexts.get c with
  | none => rwa [State.endPass_of_free h]
  | some p =>
    obtain ⟨hm, ht⟩ := State.control_of_frame (s.endPass_frame x c e offers)
    exact hs.of_active (hs.active_of_live h) hm ht (s.endPass_states x c e offers)

theorem State.ModeLaw.prime (hs : s.ModeLaw) (ha : s.control.mode = .active) (x : Option (Fin 5)) (c : Fin 8)
    (p : Pass) : (s.prime x c p).ModeLaw := by
  obtain ⟨hm, ht⟩ := State.control_of_frame (s.prime_frame x c p)
  exact hs.of_active ha hm ht (s.prime_states x c p)

/-- A request on an available main keeps the law: what it reserves and takes is beyond the mains. -/
theorem State.ModeLaw.requestAndStart (hs : s.ModeLaw) (ha : s.control.mode = .active) (x : Option (Fin 5))
    (m : Fin 4) (c : Fin 8) : (s.requestAndStart x m c).ModeLaw := by
  obtain ⟨hm, ht⟩ := State.control_of_frame (s.requestAndStart_frame x m c)
  refine hs.of_active ha hm ht fun k => ?_
  obtain h | ⟨y, -, h⟩ := s.requestAndStart_cases x m c
  · rw [h, State.recordReasons_engine]
    exact .inl rfl
  · obtain h' | ⟨p, q, -, -, h'⟩ := ((s.recordReasons m).takeOrder y.order.pile).startPass_cases x c m y
    · rw [h, h']
      exact .inl (by simp)
    · rw [h, h']
      exact (State.prime_states _ x c _ k).imp (fun hk => hk.trans (by simp)) id

/-- The law is kept by pass ends and attempts. -/
theorem State.modeLaw_attempts (x : Option (Fin 5)) : KeptByAttempts x State.ModeLaw where
  core _ := Iff.rfl
  endPass _ c e _ hs := hs.endPass x c e true
  resume _ c _ _ _ ha hs := hs.prime (State.available_eq_true.1 ha).1 x c _
  request _ m c ha _ hs := hs.requestAndStart (State.available_eq_true.1 ha).1 x m c

/-- A live pass changed keeps the law. -/
theorem State.ModeLaw.setContext (hs : s.ModeLaw) {c : Fin 8} {p : Pass}
    (h : s.engine.contexts.get c = some p) (q : Option Pass) : (s.setContext c q).ModeLaw :=
  hs.of_active (hs.active_of_live h) rfl rfl fun _ => .inl rfl

/-- The passes of a state without passes one second on. -/
theorem State.second_noPass (h : s.NoPass) : s.second.NoPass := fun c => by
  simp [State.second, h c]

theorem countDown_isSome (n : Option Nat) : (countDown n).isSome = n.isSome := by
  simp [countDown]

theorem countDown_eq_none (n : Option Nat) : countDown n = none ↔ n = none := by
  simp [countDown]

/-- A second takes no timer away and starts none (02 R27). -/
theorem State.ModeLaw.second (hs : s.ModeLaw) : s.second.ModeLaw := by
  have ht : ∀ m, s.second.control.drainTimers.get m = countDown (s.control.drainTimers.get m) := fun m => by
    simp [State.second]
  cases hm : s.control.mode with
  | active =>
    obtain ⟨h1, h2⟩ := (State.modeLaw_active_iff hm).1 hs
    exact (State.modeLaw_active_iff (s := s.second) hm).2 ⟨fun m => by rw [ht, h1 m]; rfl, h2⟩
  | held =>
    obtain ⟨h0, h1, h2⟩ := (State.modeLaw_held_iff hm).1 hs
    exact (State.modeLaw_held_iff (s := s.second) hm).2
      ⟨State.second_noPass h0, fun m => by rw [ht, h1 m]; rfl, h2⟩
  | draining =>
    obtain ⟨h0, h1, h2⟩ := (State.modeLaw_draining_iff hm).1 hs
    refine (State.modeLaw_draining_iff (s := s.second) hm).2 ⟨State.second_noPass h0, h1, fun m => ?_⟩
    rw [ht, countDown_isSome, countDown_eq_none]
    exact h2 m
  | drained =>
    obtain ⟨h0, h1, h2⟩ := (State.modeLaw_drained_iff hm).1 hs
    refine (State.modeLaw_drained_iff (s := s.second) hm).2 ⟨State.second_noPass h0, h1, fun m => ?_⟩
    rw [ht, countDown_eq_none]
    exact h2 m

/-- A state as a reset leaves it is HELD, without passes, and its mains are CLOSED (09 R171, R172). -/
theorem State.modeLaw_of_reset (hm : t.control.mode = .held) (hc : t.engine.contexts = Table.fill 8 none)
    (ht : t.control.drainTimers = Table.fill 4 none) (hx : t.engine.mains = Table.fill 4 Main.reset) :
    t.ModeLaw := by
  refine (State.modeLaw_held_iff hm).2 ⟨fun c => ?_, fun m => ?_, fun m => ?_⟩
  · rw [hc, Table.get_fill]
  · rw [ht, Table.get_fill]
  · rw [hx, Table.get_fill]
    exact ⟨by simp [Main.reset], by simp [Main.reset]⟩

theorem State.follow_modeLaw_iff : s.follow.ModeLaw ↔ s.ModeLaw := by
  simp only [State.ModeLaw, State.NoPass, State.follow_control, State.follow_engine, State.follow_queue]

theorem State.placeOrder_beyondWatch (s : State) (i : Fin 48) (r : Priority) (n : Option (Fin 24)) :
    (s.placeOrder i r n).1.beyondWatch = s.beyondWatch := by
  unfold State.placeOrder
  split
  · simp
  · split
    · next h => exact State.join_beyondWatch h
    · rfl

theorem State.commitSource_beyondWater {i : Fin 6} {v : List Nat}
    (h : s.commitSource i v = .inr t) : t.beyondWater = s.beyondWater := by
  unfold State.commitSource at h
  split at h
  · next b _ =>
    unfold State.commitBasin at h
    dsimp only at h
    split at h
    · exact absurd h Sum.inl_ne_inr
    · rw [← Sum.inr.inj h]
      simp
  · rw [← Sum.inr.inj h]
    rfl

/-! ## Ends of every pass in a yard that is not ACTIVE (06 R132) -/

/-- A walk over contexts, each of whose steps writes its own context, leaves what each step wrote. -/
theorem State.forEach_contexts {I : State → Prop} {f : State → Fin 8 → State} {g : Option Pass → Option Pass}
    (hI : ∀ t c, I t → I (f t c))
    (hf : ∀ t c, I t → (f t c).engine.contexts = t.engine.contexts.put c (g (t.engine.contexts.get c)))
    (l : List (Fin 8)) (hl : l.Nodup) (s : State) (hs : I s) (c : Fin 8) :
    (s.forEach l f).engine.contexts.get c
      = if c ∈ l then g (s.engine.contexts.get c) else s.engine.contexts.get c := by
  unfold State.forEach
  induction l generalizing s with
  | nil => simp
  | cons d l ih =>
    obtain ⟨hd, hl⟩ := List.nodup_cons.1 hl
    rw [List.foldl_cons, ih hl _ (hI s d hs), hf s d hs]
    by_cases hc : c = d
    · subst hc
      simp [hd]
    · simp [hc, Ne.symm hc]

theorem State.runAttempts_contexts_of_not_active (h : s.control.mode ≠ .active) (x : Option (Fin 5)) :
    (s.runAttempts x).engine.contexts = s.engine.contexts := by
  obtain ⟨turns, ht⟩ := State.runAttempts_of_not_active h x
  rw [ht]

theorem State.runAttempts_mains_of_not_active (h : s.control.mode ≠ .active) (x : Option (Fin 5)) :
    (s.runAttempts x).engine.mains = s.engine.mains := by
  obtain ⟨turns, ht⟩ := State.runAttempts_of_not_active h x
  rw [ht]

/-- What a walk of ends does at one context (06 R129, R131). -/
def State.endStep (x : Option (Fin 5)) (p : Pass → Bool) (e : PassEnd) (t : State) (c : Fin 8) : State :=
  match t.engine.contexts.get c with
  | some q => if p q then (t.endPass x c e true).runAttempts x else t
  | none => t

theorem State.endWhere_eq_forEach (s : State) (x : Option (Fin 5)) (p : Pass → Bool) (e : PassEnd) :
    s.endWhere x p e = s.forEach allContexts (State.endStep x p e) := rfl

/-- A context is left as it is, or its pass ends with the attempts of its end. -/
theorem State.endStep_cases (x : Option (Fin 5)) (p : Pass → Bool) (e : PassEnd) (t : State) (c : Fin 8) :
    ((∀ q, t.engine.contexts.get c = some q → p q = false) ∧ State.endStep x p e t c = t)
    ∨ ∃ q, t.engine.contexts.get c = some q ∧ p q = true
        ∧ State.endStep x p e t c = (t.endPass x c e true).runAttempts x := by
  unfold State.endStep
  split
  · next q hq =>
    split
    · next hp => exact .inr ⟨q, hq, hp, rfl⟩
    · next hp =>
      refine .inl ⟨fun r hr => ?_, rfl⟩
      rw [← Option.some.inj (hq.symm.trans hr)]
      exact Bool.eq_false_iff.2 hp
  · next hn => exact .inl ⟨fun q hq => by simp [hn] at hq, rfl⟩

theorem State.endPass_not_active (h : s.control.mode ≠ .active) (x : Option (Fin 5)) (c : Fin 8) (e : PassEnd)
    (offers : Bool) : (s.endPass x c e offers).control.mode ≠ .active := by
  rw [(State.control_of_frame (s.endPass_frame x c e offers)).1]
  exact h

theorem State.endStep_not_active (h : s.control.mode ≠ .active) (x : Option (Fin 5)) (p : Pass → Bool)
    (e : PassEnd) (c : Fin 8) : (State.endStep x p e s c).control.mode ≠ .active := by
  obtain ⟨-, he⟩ | ⟨q, -, -, he⟩ := State.endStep_cases x p e s c
  · rw [he]
    exact h
  · rw [he, State.runAttempts_mode]
    exact State.endPass_not_active h x c e true

/-- Where the ends of a yard that is not ACTIVE start no pass, none is left. -/
theorem State.endWhere_noPass (h : s.control.mode ≠ .active) (x : Option (Fin 5)) (e : PassEnd) :
    (s.endWhere x (fun _ => true) e).NoPass := by
  intro c
  have hstep : ∀ t d, (t : State).control.mode ≠ .active →
      (State.endStep x (fun _ => true) e t d).engine.contexts = t.engine.contexts.put d none := by
    intro t d ht
    obtain ⟨hn, he⟩ | ⟨q, -, -, he⟩ := State.endStep_cases x (fun _ => true) e t d
    · have hd : t.engine.contexts.get d = none := Option.eq_none_iff_forall_ne_some.2 fun q hq => by
        simpa using hn q hq
      rw [he, ← hd, Table.put_get_self]
    · rw [he, State.runAttempts_contexts_of_not_active (State.endPass_not_active ht x d e true),
        State.endPass_contexts]
  rw [State.endWhere_eq_forEach, State.forEach_contexts (I := fun t => t.control.mode ≠ .active)
    (g := fun _ => none) (fun t d ht => State.endStep_not_active ht x _ e d) hstep allContexts
    (List.nodup_finRange 8) s h c]
  exact if_pos (List.mem_finRange c)

/-- Outside ACTIVE, the ends leave every main as it was or out of the states that drain. -/
theorem State.endWhere_inYard (h : ∀ k, (s.engine.mains.get k).InYard) (hm : s.control.mode ≠ .active)
    (x : Option (Fin 5)) (p : Pass → Bool) (e : PassEnd) :
    ∀ k, ((s.endWhere x p e).engine.mains.get k).InYard := by
  rw [State.endWhere_eq_forEach]
  refine (State.forEach_inv s (fun t => t.control.mode ≠ .active ∧ ∀ k, (t.engine.mains.get k).InYard)
    allContexts (State.endStep x p e) (fun t c _ ht => ⟨State.endStep_not_active ht.1 x p e c, fun k => ?_⟩)
    ⟨hm, h⟩).2
  obtain ⟨-, he⟩ | ⟨q, -, -, he⟩ := State.endStep_cases x p e t c
  · rw [he]
    exact ht.2 k
  · rw [he, State.runAttempts_mains_of_not_active (State.endPass_not_active ht.1 x c e true)]
    obtain hk | hk := t.endPass_states x c e true k
    · unfold Main.InYard
      rw [hk]
      exact ht.2 k
    · exact hk

/-- A main as a change to HELD leaves it (06 R132). -/
def Main.halted (x : Main) : Main := if x.state = .faulted then x else x.shut .closed

/-- A main as a change to DRAINING leaves it (06 R132). -/
def Main.draining (x : Main) : Main := { x.shut .draining with fault := none }

theorem State.mapMain_self (s : State) (m : Fin 4) {f : Main → Main}
    (h : f (s.engine.mains.get m) = s.engine.mains.get m) : s.mapMain m f = s := by
  unfold State.mapMain Table.modify
  rw [h, Table.put_get_self]

/-- The mains close, but for those that are FAULTED (06 R132). -/
theorem State.forEach_halted (s : State) :
    s.forEach (List.finRange 4) (fun t m =>
        if (t.engine.mains.get m).state = .faulted then t else t.mapMain m fun x => x.shut .closed)
      = { s with engine := { s.engine with mains := Table.tab fun m => (s.engine.mains.get m).halted } } := by
  rw [← State.forEach_mapMain]
  unfold State.forEach
  refine foldl_of_step (fun t m => ?_) _ _
  by_cases h : (t.engine.mains.get m).state = .faulted
  · rw [if_pos h, State.mapMain_self t m (by simp [Main.halted, h])]
  · simp [State.mapMain, Table.modify, Main.halted, h]

theorem State.holdPasses_eq {s w : State} (hw : s.endWhere none (fun _ => true) (.cutShort .hold) = w) :
    s.holdPasses
      = { w with engine := { w.engine with mains := Table.tab fun m => (w.engine.mains.get m).halted } } := by
  subst hw
  exact State.forEach_halted _

theorem State.drainPasses_eq {s w : State} (hw : s.endWhere none (fun _ => true) (.cutShort .drain) = w) :
    s.drainPasses
      = { w with engine := { w.engine with mains := Table.tab fun m => (w.engine.mains.get m).draining } } := by
  subst hw
  exact State.forEach_mapMain _ _

theorem State.setMode_mode (s : State) (m : YardMode) : (s.setMode m).control.mode = m := rfl

/-- A change to HELD in one equation (07 R140, 06 R132). -/
theorem State.holdYard_eq {s w : State}
    (hw : (s.setMode .held).endWhere none (fun _ => true) (.cutShort .hold) = w) :
    s.holdYard
      = { w with engine := { w.engine with mains := Table.tab fun m => (w.engine.mains.get m).halted } } :=
  State.holdPasses_eq hw

theorem State.setMode_held_ne (s : State) : (s.setMode .held).control.mode ≠ .active := by
  rw [State.setMode_mode]
  decide

theorem State.setMode_draining_ne (s : State) : (s.setMode .draining).control.mode ≠ .active := by
  rw [State.setMode_mode]
  decide

/-- A main that does not drain is CLOSED or FAULTED in HELD (06 R132). -/
theorem Main.halted_inYard {x : Main} (h : x.InYard) : x.halted.InYard := by
  unfold Main.halted
  split
  · exact h
  · exact ⟨by simp [Main.shut], by simp [Main.shut]⟩

/-- The law of the modes, kept folded while it is carried through the steps. -/
@[irreducible] def State.Modes (s : State) : Prop := s.ModeLaw

theorem State.modes_iff (s : State) : s.Modes ↔ s.ModeLaw := by
  unfold State.Modes
  exact Iff.rfl

/-- The mains that close in HELD leave a state that meets its law. -/
theorem State.modeLaw_halted {w : State} (hm : w.control.mode = .held) (hp : w.NoPass)
    (ht : ∀ m, w.control.drainTimers.get m = none) (hy : ∀ m, (w.engine.mains.get m).InYard) :
    ({ w with engine := { w.engine with
      mains := Table.tab fun m => (w.engine.mains.get m).halted } } : State).ModeLaw := by
  refine (State.modeLaw_held_iff ?_).2 ⟨fun c => ?_, ?_, fun m => ?_⟩
  · exact hm
  · exact hp c
  · exact ht
  · simp only [Table.get_tab]
    exact Main.halted_inYard (hy m)

/-- The law after the ends that a change to HELD makes, however they are named. -/
theorem State.modes_halted {w : State} (hw : (s.setMode .held).endWhere none (fun _ => true) (.cutShort .hold) = w)
    (ht : ∀ m, s.control.drainTimers.get m = none) (hy : ∀ m, (s.engine.mains.get m).InYard) :
    ({ w with engine := { w.engine with
      mains := Table.tab fun m => (w.engine.mains.get m).halted } } : State).Modes := by
  have hp := State.endWhere_noPass s.setMode_held_ne none (.cutShort .hold)
  have hf := State.endWhere_frame (s.setMode .held) none (fun _ => true) (.cutShort .hold)
  have hi := State.endWhere_inYard (s := s.setMode .held) hy s.setMode_held_ne none (fun _ => true)
    (.cutShort .hold)
  rw [hw] at hp hf hi
  refine (State.modes_iff _).2 (State.modeLaw_halted ?_ hp ?_ hi)
  · exact (State.control_of_frame hf).1
  · rw [(State.control_of_frame hf).2]
    exact ht

theorem State.Modes.holdYard (hs : s.Modes) (h : s.control.mode = .active) : s.holdYard.Modes := by
  obtain ⟨ht, hy⟩ := (State.modeLaw_active_iff h).1 ((State.modes_iff s).1 hs)
  rw [State.holdYard_eq rfl]
  exact State.modes_halted rfl ht hy

/-- A change to DRAINING in one equation (07 R142, R143; 05 R99; 06 R132). -/
theorem State.drainYard_eq {s w : State}
    (hw : (s.setMode .draining).endWhere none (fun _ => true) (.cutShort .drain) = w) :
    s.drainYard = { w with
      queue := []
      watch := { w.watch with
        living := Table.tab fun i => if w.hasOrder i then { w.watch.living.get i with carried := false }
          else w.watch.living.get i }
      engine := { w.engine with mains := Table.tab fun m => (w.engine.mains.get m).draining }
      control := { w.control with
        drainTimers := Table.tab fun m => some (60 * (w.engine.mains.get m).drainTime) } } := by
  have ht : ∀ m, ((Table.tab fun m => (w.engine.mains.get m).draining : Table 4 Main).get m).drainTime
      = (w.engine.mains.get m).drainTime := fun m => by simp [Main.draining, Main.shut]
  unfold State.drainYard
  rw [State.emptyQueue_eq, State.drainPasses_eq hw]
  simp only [State.startDrainTimers, ht]
  rfl

theorem State.modes_drained {w : State}
    (hw : (s.setMode .draining).endWhere none (fun _ => true) (.cutShort .drain) = w) :
    ({ w with
      queue := []
      watch := { w.watch with
        living := Table.tab fun i => if w.hasOrder i then { w.watch.living.get i with carried := false }
          else w.watch.living.get i }
      engine := { w.engine with mains := Table.tab fun m => (w.engine.mains.get m).draining }
      control := { w.control with
        drainTimers := Table.tab fun m => some (60 * (w.engine.mains.get m).drainTime) } } : State).Modes := by
  have hp := State.endWhere_noPass s.setMode_draining_ne none (.cutShort .drain)
  have hf := State.endWhere_frame (s.setMode .draining) none (fun _ => true) (.cutShort .drain)
  rw [hw] at hp hf
  refine (State.modes_iff _).2 ((State.modeLaw_draining_iff ?_).2 ⟨fun c => ?_, rfl, fun m => .inl ?_⟩)
  · exact (State.control_of_frame hf).1
  · exact hp c
  · simp [Main.draining, Main.shut]

theorem State.drainYard_modes (s : State) : s.drainYard.Modes := by
  rw [State.drainYard_eq rfl]
  exact State.modes_drained rfl

theorem State.closeMains_eq (s : State) : s.closeMains = { s with
    engine := { s.engine with
      mains := Table.tab fun m => { (s.engine.mains.get m).shut .closed with fault := none } } } :=
  State.forEach_mapMain _ _

/-- A drain timer runs in a DRAINING yard alone (07 R143). -/
theorem State.ModeLaw.draining_of_timer (hs : s.ModeLaw) {m : Fin 4} {n : Nat}
    (h : s.control.drainTimers.get m = some n) : s.control.mode = .draining := by
  cases hm : s.control.mode with
  | active => exact absurd (((State.modeLaw_active_iff hm).1 hs).1 m) (by simp [h])
  | held => exact absurd (((State.modeLaw_held_iff hm).1 hs).2.1 m) (by simp [h])
  | draining => rfl
  | drained => exact absurd (((State.modeLaw_drained_iff hm).1 hs).2.2 m).2 (by simp [h])

/-- A drain timer that runs out drains its main, and the last one the yard (07 R143). -/
theorem State.ModeLaw.drained (hs : s.ModeLaw) {m : Fin 4} (h : s.control.drainTimers.get m = some 0) :
    (s.drained m).ModeLaw := by
  have hmode := hs.draining_of_timer h
  obtain ⟨hp, hq, hk⟩ := (State.modeLaw_draining_iff hmode).1 hs
  have hk' : ∀ k, (((s.engine.mains.modify m fun x => { x with state := .drained }).get k).state = .draining
      ∧ ((s.control.drainTimers.put m none).get k).isSome = true)
      ∨ (((s.engine.mains.modify m fun x => { x with state := .drained }).get k).state = .drained
        ∧ (s.control.drainTimers.put m none).get k = none) := by
    intro k
    by_cases hkm : m = k
    · subst hkm
      exact .inr (by simp)
    · simpa [hkm] using hk k
  unfold State.drained
  dsimp only
  split
  · next hall =>
    refine (State.modeLaw_drained_iff rfl).2 ⟨hp, hq, fun k => ?_⟩
    have hst : ((s.engine.mains.modify m fun x => { x with state := .drained }).get k).state = .drained := by
      have := List.all_eq_true.1 hall k (List.mem_finRange k)
      simpa using this
    obtain hd | hd := hk' k
    · exact absurd hd.1 (by rw [hst]; simp)
    · exact hd
  · refine (State.modeLaw_draining_iff ?_).2 ⟨hp, hq, hk'⟩
    exact hmode

/-- What keeps the law keeps it folded. -/
theorem State.Modes.of (hs : s.Modes) (h : s.ModeLaw → t.ModeLaw) : t.Modes :=
  (State.modes_iff t).2 (h ((State.modes_iff s).1 hs))

theorem State.modes_attempts (x : Option (Fin 5)) : KeptByAttempts x State.Modes where
  core s := by
    rw [State.modes_iff, State.modes_iff]
    exact (State.modeLaw_attempts x).core s
  endPass s c e he hs := hs.of ((State.modeLaw_attempts x).endPass s c e he)
  resume s c p hp hr ha hs := hs.of ((State.modeLaw_attempts x).resume s c p hp hr ha)
  request s m c ha hc hs := hs.of ((State.modeLaw_attempts x).request s m c ha hc)

/-! ## The law, folded, through the operations -/

theorem State.Modes.of_beyondWatch (hs : s.Modes) (h : t.beyondWatch = s.beyondWatch)
    (hq : s.draining = true → s.queue = [] → t.queue = []) : t.Modes :=
  hs.of fun hm => hm.of_beyondWatch h hq

theorem State.Modes.of_beyondWater (hs : s.Modes) (h : t.beyondWater = s.beyondWater) : t.Modes :=
  hs.of fun hm => hm.of_beyondWater h

theorem State.Modes.mapMain (hs : s.Modes) {m : Fin 4} {f : Main → Main}
    (h : (f (s.engine.mains.get m)).state = (s.engine.mains.get m).state
      ∨ ((s.engine.mains.get m).InYard ∧ (f (s.engine.mains.get m)).InYard)) : (s.mapMain m f).Modes :=
  hs.of fun hm => hm.mapMain h

theorem State.Modes.setContext (hs : s.Modes) {c : Fin 8} {p : Pass}
    (h : s.engine.contexts.get c = some p) (q : Option Pass) : (s.setContext c q).Modes :=
  hs.of fun hm => hm.setContext h q

theorem State.Modes.endPass (hs : s.Modes) (x : Option (Fin 5)) (c : Fin 8) (e : PassEnd) (offers : Bool) :
    (s.endPass x c e offers).Modes :=
  hs.of fun hm => hm.endPass x c e offers

theorem State.Modes.follow (hs : s.Modes) : s.follow.Modes := hs.of State.follow_modeLaw_iff.2

theorem State.Modes.active_of_live (hs : s.Modes) {c : Fin 8} {p : Pass}
    (h : s.engine.contexts.get c = some p) : s.control.mode = .active :=
  ((State.modes_iff s).1 hs).active_of_live h

theorem State.Modes.draining_of_timer (hs : s.Modes) {m : Fin 4} {n : Nat}
    (h : s.control.drainTimers.get m = some n) : s.control.mode = .draining :=
  ((State.modes_iff s).1 hs).draining_of_timer h

/-! ## The effects -/

theorem State.Modes.evaluate (hs : s.Modes) (i : Fin 48) (w : WindBasis) (counts offers : Bool) :
    (s.evaluate i w counts offers).Modes :=
  hs.of_beyondWatch (s.evaluate_beyondWatch i w counts offers) fun hd hq => by
    rw [State.evaluate_queue_of_draining hd, hq]

theorem State.Modes.requeue (hs : s.Modes) (f : Order → Order) : (s.setQueue (s.queue.map f)).Modes :=
  hs.of_beyondWatch rfl fun _ hq => by simp [hq]

theorem State.Modes.mapLiving (hs : s.Modes) (i : Fin 48) (f : Living → Living) : (s.mapLiving i f).Modes :=
  hs.of id

theorem State.Modes.installPile (hs : s.Modes) (i : Fin 48) (x : Pile) (n : Nat) :
    (s.installPile i x n).Modes := by
  have hp : ({ s with geometry := s.geometry.placePile i x } : State).Modes := hs.of id
  unfold State.installPile State.reevaluate
  exact State.Modes.of_beyondWatch (State.Modes.requeue (State.Modes.evaluate (hp.mapLiving i _) i _ false true) _)
    (State.askAll_beyondWatch _) fun _ => id

theorem State.Modes.assessPile (hs : s.Modes) (w : WindBasis) (rain : Bool) (i : Fin 48) :
    (s.assessPile w rain i).Modes := by
  unfold State.assessPile
  dsimp only
  split
  · exact hs
  · exact State.Modes.mapLiving (State.Modes.evaluate (hs.mapLiving i _) i w _ true) i _

theorem State.Modes.finishBay (hs : s.Modes) {c : Fin 8} {p : Pass} (h : s.engine.contexts.get c = some p)
    (q : Pass) : (s.finishBay none c q).Modes := by
  unfold State.finishBay
  dsimp only
  split
  · exact (hs.setContext h _).endPass _ _ _ _
  · exact hs.setContext h _

theorem State.Modes.confirmFlow (hs : s.Modes) (m : Fin 4) : (s.confirmFlow m).Modes := by
  unfold State.confirmFlow
  dsimp only
  split
  · next hm =>
    have hy : (s.mapMain m fun y => { y with state := .running }).Modes :=
      hs.mapMain (.inr ⟨by simp [Main.InYard, hm], by simp [Main.InYard]⟩)
    split
    · exact hs
    · next c _ =>
      split
      · exact hs
      · next p hp =>
        split
        · exact State.Modes.finishBay (hy.setContext hp _).follow (by simp; rfl) _
        · exact (hy.setContext hp _).follow
  · exact hs

theorem State.Modes.loseFlow (hs : s.Modes) (m : Fin 4) : (s.loseFlow m).Modes := by
  unfold State.loseFlow
  dsimp only
  split
  · split
    · exact hs
    · exact hs.endPass _ _ _ _
  · exact hs

/-- A suspension opens the main of a live pass, in an ACTIVE yard. -/
theorem State.Modes.suspendPass (hs : s.Modes) {c : Fin 8} {p : Pass}
    (h : s.engine.contexts.get c = some p) : (s.suspendPass c p).Modes := by
  refine hs.of fun hm => hm.of_active (hs.active_of_live h) ?_ ?_ fun k => ?_
  · rw [← State.frame_mode, ← State.frame_mode, State.suspendPass_frame]
  · rw [← State.frame_drainTimers, ← State.frame_drainTimers, State.suspendPass_frame]
  · have hm : (s.suspendPass c p).engine.mains = s.engine.mains.modify p.main fun x =>
        { x with state := .opened, openSource := some p.source, context := none } := by
      have hl : ∀ (t : State) (d : Nat), (if 0 < d then t.lowTestUnless none p.source else t).engine.mains
          = t.engine.mains := by
        intro t d
        split
        · exact (State.beyondWater_fields (t.lowTestUnless_beyondWater none p.source)).1
        · rfl
      unfold State.suspendPass
      dsimp only
      rw [State.follow_engine, State.ask_engine_mains, hl,
        (State.beyondWater_fields (State.deduct_beyondWater _ p.source _)).1]
      rfl
    rw [hm]
    by_cases hk : p.main = k
    · subst hk
      exact .inr (by simp [Main.InYard])
    · exact .inl (by simp [hk])

theorem State.Modes.release (hs : s.Modes) (x : Fin 6) (v : Nat) : (s.release x v).Modes :=
  hs.of_beyondWater (s.release_beyondWater x v)

theorem State.Modes.trimPasses (hs : s.Modes) (bed : Fin 8) (start length : Nat) :
    (s.trimPasses bed start length).Modes := by
  refine s.forEach_inv State.Modes _ _ (fun t c _ ht => ?_) hs
  split
  · next p hp =>
    split
    · have hr : ((t.setContext c (some (p.trimmed start length))).release p.source
          (p.planned - (p.trimmed start length).planned)).Modes :=
        (ht.setContext hp _).release _ _
      unfold State.trimPass
      dsimp only
      split
      · exact (State.modes_attempts none).runAttempts (hr.endPass _ _ _ _)
      · exact hr
    · exact ht
  · exact ht

theorem State.Modes.moveBaselines (hs : s.Modes) (b : Fin 5) : (s.moveBaselines b).Modes := by
  refine s.forEach_inv State.Modes _ _ (fun t c _ ht => ?_) hs
  split
  · next p hp =>
    split
    · exact State.Modes.setContext (s := t.mapBasin b _) (ht.of id) hp _
    · exact ht
  · exact ht

theorem State.Modes.takeGauge (hs : s.Modes) (b : Fin 5) (level clarity : Nat) :
    (s.takeGauge b level clarity).Modes := by
  have hl : ((((s.moveBaselines b).mapBasin b fun y => { y with level, baseClarity := clarity, clarity })).lowTest
      b).Modes :=
    ((hs.moveBaselines b).of_beyondWater (State.mapBasin_beyondWater _ _ _)).of_beyondWater
      (State.lowTest_beyondWater _ _)
  unfold State.takeGauge
  dsimp only
  refine State.Modes.of_beyondWater ?_ (State.reportRise_beyondWater _ _ _)
  split
  · unfold State.cutLow
    exact (((State.modes_attempts (some b)).endWhere (by simp) _ hl).of_beyondWater
      (State.lowTest_beyondWater _ _)).of_beyondWater (State.reportReady_beyondWater _ _ _)
  · exact hl

theorem State.Modes.shut (hs : s.Modes) (m : Fin 4) (h : (s.engine.mains.get m).InYard) :
    (s.mapMain m fun y => y.shut .closed).Modes :=
  hs.mapMain (.inr ⟨h, by simp [Main.InYard, Main.shut]⟩)

theorem State.Modes.closeSource (hs : s.Modes) (x : Fin 6) : (s.closeSource x).Modes := by
  refine s.forEach_inv State.Modes _ _ (fun t m _ ht => ?_) hs
  split
  · next h => exact (ht.shut m (by simp [Main.InYard, h.1])).follow
  · exact ht

theorem State.Modes.isolateSource (hs : s.Modes) (x : Fin 6) : (s.isolateSource x).Modes := by
  unfold State.isolateSource
  exact ((State.modes_attempts none).endWhere (by simp) _
    (hs.of_beyondWater (s.setIsolated_beyondWater x true))).closeSource x

theorem State.Modes.endPile (hs : s.Modes) (i : Fin 48) : (s.endPile i).Modes := by
  unfold State.endPile
  split
  · exact hs.endPass _ _ _ _
  · exact hs

theorem State.Modes.removeOrder (hs : s.Modes) (i : Fin 48) : (s.removeOrder i).Modes := by
  unfold State.removeOrder
  split
  · exact hs.of_beyondWatch (s.dropOrder_beyondWatch i) fun _ hq => by simp [State.dropOrder, hq]
  · exact hs

theorem State.Modes.discardMust (hs : s.Modes) (i : Fin 48) : (s.discardMust i).Modes :=
  hs.of_beyondWatch (s.discardMust_beyondWatch i) fun _ hq => by
    rw [State.discardMust, State.countMust_queue, hq]

theorem State.Modes.removePile (hs : s.Modes) (i : Fin 48) : (s.removePile i).Modes := hs.of id

theorem State.Modes.setExclusion (hs : s.Modes) (i : Fin 16) (e : Option Exclusion) : (s.setExclusion i e).Modes :=
  hs.of id

theorem State.Modes.loseBases (hs : s.Modes) (cls : RecordClass) (i : Nat) : (s.loseBases cls i).Modes := hs.of id

theorem State.Modes.retirePile (hs : s.Modes) (i : Fin 48) : (s.retirePile i).Modes := by
  rw [State.retirePile_eq, State.clearPile_eq]
  exact (((((hs.endPile i).removeOrder i).discardMust i).removePile i).mapLiving i _).loseBases _ _

theorem Main.closeUnmasked_state (x : Main) : x.closeUnmasked.state = x.state
    ∨ (x.InYard ∧ x.closeUnmasked.InYard) := by
  unfold Main.closeUnmasked
  split
  · split
    · next h => exact .inr ⟨by simp [Main.InYard, h.1], by simp [Main.InYard, Main.shut]⟩
    · exact .inl rfl
  · exact .inl rfl

/-- The law is kept by every effect (07 R139, R143; 05 R90). -/
theorem State.modes_kept : Kept State.Modes where
  toKeptByAttempts := State.modes_attempts none
  time s t h hs := hs.of fun hm => by rw [h.eq]; exact hm
  stored s t h hs := hs.of fun hm => by rw [h.eq]; exact hm
  buffer s t h hs := hs.of fun hm => by rw [h.eq]; exact hm
  place s t h hs := hs.of fun hm => by rw [h.eq]; exact hm
  installPile _ i x n _ hs := hs.installPile i x n
  exclude _ i e _ _ hs := (hs.setExclusion i (some e)).trimPasses _ _ _
  commitMain s m v _ hs := hs.mapMain (Main.closeUnmasked_state _)
  commitSource s i v t h hs := hs.of_beyondWater (State.commitSource_beyondWater h)
  retirePile _ i _ hs := hs.retirePile i
  requeue _ f _ hs := hs.requeue f
  evaluate _ i w n hs := hs.evaluate i w n true
  assessPile _ w r i hs := hs.assessPile w r i
  placeOrder s i r n hd _ hs := hs.of_beyondWatch (s.placeOrder_beyondWatch i r n)
    fun hd' => by simp [hd] at hd'
  withdrawOrder s i o ho _ hs := hs.of_beyondWatch (s.withdrawOrder_beyondWatch o)
    fun _ hq => by simp [State.orderOf, hq] at ho
  suspendPass _ c p h _ hs := hs.suspendPass h
  holdPass _ c p w m h _ hs := hs.setContext h _
  finishBay _ c p h _ hs := hs.finishBay h p
  confirmFlow _ m hs := hs.confirmFlow m
  loseFlow _ m hs := hs.loseFlow m
  primeOut _ c _ _ _ hs := hs.endPass none c _ true
  clearFault _ m h hs := hs.mapMain (.inr ⟨by simp [Main.InYard, h], by simp [Main.InYard]⟩)
  inflow s b v n hs := hs.of_beyondWater (s.takeInflow_beyondWater b v n)
  gauge _ b l n _ hs := hs.takeGauge b l n
  isolate _ y hs := hs.isolateSource y
  restore s y hs := hs.of_beyondWater (s.restoreSource_beyondWater y)
  settled s b hs := hs.of_beyondWater (s.settled_beyondWater b)
  clearSpilled _ hs := hs.of id
  rolloverDay s hs := hs.of_beyondWater s.rolloverDay_beyondWater
  holdYard _ h hs := hs.holdYard h
  drainYard s _ _ := s.drainYard_modes
  resumeHeld s h hs := hs.of fun hm => by
    obtain ⟨-, ht, hy⟩ := (State.modeLaw_held_iff h).1 hm
    refine (State.modeLaw_active_iff ?_).2 ⟨ht, hy⟩
    rfl
  resumeDrained s h hs := hs.of fun hm => by
    obtain ⟨-, -, hy⟩ := (State.modeLaw_drained_iff h).1 hm
    rw [State.closeMains_eq]
    exact (State.modeLaw_active_iff rfl).2 ⟨fun m => (hy m).2, fun m => by simp [Main.InYard, Main.shut]⟩
  drained _ m h hs := hs.of fun hm => hm.drained h
  second s hs := hs.of fun h => h.second
  resetWhole _ _ _ _ := (State.modes_iff _).2 (State.modeLaw_of_reset rfl rfl rfl rfl)
  resetCommand _ _ := (State.modes_iff _).2 (State.modeLaw_of_reset rfl rfl rfl rfl)

end

end Sys2Proof.Machine

/-! PROOFS. The mains and the passes they serve agree (06 R107). -/

namespace Sys2Proof.Machine

/-! ## The law in two halves -/

/-- A main that serves no pass holds what its State allows (06 R107). -/
def Main.Resting (x : Main) : Prop :=
  match x.state with
  | .priming => False
  | .running => False
  | .opened => x.openSource.isSome = true ∧ x.context = none
  | _ => x.openSource = none ∧ x.context = none

/-- The States of a main and of the pass that it serves. -/
def MainState.Serves (x : MainState) (p : PassState) : Prop :=
  (x = .priming ∧ p = .priming) ∨ (x = .running ∧ p = .running)

/-- A main serves a pass, on that pass's source (06 R107). -/
def State.MainServed (s : State) (m : Fin 4) : Prop :=
  ∃ c p, (s.engine.mains.get m).context = some c ∧ s.engine.contexts.get c = some p
    ∧ (s.engine.mains.get m).state.Serves p.state ∧ p.main = m
    ∧ (s.engine.mains.get m).openSource = some p.source

section

variable {s t : State} {m : Fin 4} {c : Fin 8} {p q : Pass}

theorem Main.resting_shut (x : Main) (st : MainState) (h : st = .closed ∨ st = .faulted ∨ st = .draining) :
    (x.shut st).Resting := by
  obtain rfl | rfl | rfl := h <;> exact ⟨rfl, rfl⟩

theorem Main.resting_faulted (x : Main) (f : Option FaultCause) :
    ({ x.shut .faulted with fault := f } : Main).Resting :=
  ⟨rfl, rfl⟩

theorem Main.resting_opened (x : Main) (y : Fin 6) :
    ({ x with state := .opened, openSource := some y, context := none } : Main).Resting :=
  ⟨rfl, rfl⟩

theorem MainState.Serves.ne {x : MainState} {p : PassState} (h : x.Serves p) : p ≠ .suspended := by
  obtain ⟨-, rfl⟩ | ⟨-, rfl⟩ := h <;> decide

theorem Main.Resting.not_serving {x : Main} (h : x.Resting) : x.state ≠ .priming ∧ x.state ≠ .running := by
  constructor <;> intro hx <;> simp [Main.Resting, hx] at h

theorem State.mainLaw_iff (s : State) : s.MainLaw ↔
    (∀ m, (s.engine.mains.get m).Resting ∨ s.MainServed m)
    ∧ (∀ c p, s.engine.contexts.get c = some p → p.state ≠ .suspended →
        (s.engine.mains.get p.main).context = some c
          ∧ ((s.engine.mains.get p.main).state = .priming ∨ (s.engine.mains.get p.main).state = .running))
    ∧ ∀ c p, s.engine.contexts.get c = some p → p.primeTimer.isSome = true → p.state = .priming := by
  unfold State.MainLaw
  refine and_congr_left' (forall_congr' fun m => ?_)
  unfold Main.Resting State.MainServed MainState.Serves
  generalize s.engine.mains.get m = x
  obtain ⟨-, -, -, -, st, openSource, context, -, -⟩ := x
  cases st <;> simp

/-- No pass is primed or run on a main that rests. -/
theorem State.MainLaw.main_ne (hs : s.MainLaw) (hm : (s.engine.mains.get m).Resting)
    (h : s.engine.contexts.get c = some p) (hp : p.state ≠ .suspended) : p.main ≠ m := by
  rintro rfl
  obtain ⟨h1, h2⟩ := hm.not_serving
  obtain ⟨-, h3 | h3⟩ := ((State.mainLaw_iff s).1 hs).2.1 c p h hp
  · exact h1 h3
  · exact h2 h3

/-- The pass that a main serves is the only one that is primed or run on it. -/
theorem State.MainLaw.context_eq (hs : s.MainLaw) {d : Fin 8} (hp : s.engine.contexts.get c = some p)
    (hps : p.state ≠ .suspended) (hq : s.engine.contexts.get d = some q) (hqs : q.state ≠ .suspended)
    (h : q.main = p.main) : d = c := by
  obtain ⟨-, h2, -⟩ := (State.mainLaw_iff s).1 hs
  have hpc := (h2 c p hp hps).1
  have hqd := (h2 d q hq hqs).1
  rw [h, hpc] at hqd
  exact (Option.some.inj hqd).symm

/-! ## What keeps the law -/

theorem State.MainLaw.congr (hs : s.MainLaw) (hm : t.engine.mains = s.engine.mains)
    (hc : t.engine.contexts = s.engine.contexts) : t.MainLaw := by
  unfold State.MainLaw
  rw [hm, hc]
  exact hs

/-- A main comes to rest, and no pass is primed or run on it any more. -/
theorem State.MainLaw.rest (hs : s.MainLaw) (m : Fin 4)
    (hm : ∀ k, k ≠ m → t.engine.mains.get k = s.engine.mains.get k) (hx : (t.engine.mains.get m).Resting)
    (hsub : ∀ d q, t.engine.contexts.get d = some q → q.state ≠ .suspended →
      s.engine.contexts.get d = some q ∧ q.main ≠ m)
    (hkeep : ∀ d q, s.engine.contexts.get d = some q → q.state ≠ .suspended → q.main ≠ m →
      t.engine.contexts.get d = some q)
    (htimer : ∀ d q, t.engine.contexts.get d = some q → q.primeTimer.isSome = true → q.state = .priming) :
    t.MainLaw := by
  obtain ⟨h1, h2, -⟩ := (State.mainLaw_iff s).1 hs
  refine (State.mainLaw_iff t).2 ⟨fun k => ?_, fun d q hq hqs => ?_, htimer⟩
  · by_cases hk : k = m
    · rw [hk]
      exact .inl hx
    · obtain h | ⟨d, q, hd, hq, hst, hqm, hsrc⟩ := h1 k
      · rw [hm k hk]
        exact .inl h
      · refine .inr ⟨d, q, ?_, hkeep d q hq hst.ne (by rw [hqm]; exact hk), ?_, hqm, ?_⟩ <;> rw [hm k hk]
        · exact hd
        · exact hst
        · exact hsrc
  · obtain ⟨hq', hqm⟩ := hsub d q hq hqs
    rw [hm _ hqm]
    exact h2 d q hq' hqs

/-- A main comes to serve the pass in a context, or serves it in another State. -/
theorem State.MainLaw.serve (hs : s.MainLaw) (c : Fin 8) (q : Pass)
    (hm : ∀ k, k ≠ q.main → t.engine.mains.get k = s.engine.mains.get k)
    (hx : (t.engine.mains.get q.main).context = some c)
    (hst : (t.engine.mains.get q.main).state.Serves q.state)
    (hsrc : (t.engine.mains.get q.main).openSource = some q.source)
    (hc : t.engine.contexts = s.engine.contexts.put c (some q))
    (htimer : q.primeTimer.isSome = true → q.state = .priming)
    (h1 : ∀ d p, s.engine.contexts.get d = some p → p.state ≠ .suspended → p.main = q.main → d = c)
    (h2 : ∀ p, s.engine.contexts.get c = some p → p.state ≠ .suspended → p.main = q.main) :
    t.MainLaw := by
  obtain ⟨hl1, hl2, hl3⟩ := (State.mainLaw_iff s).1 hs
  have hget : ∀ d, d ≠ c → t.engine.contexts.get d = s.engine.contexts.get d := fun d hd => by
    simp [hc, hd.symm]
  have hgetc : t.engine.contexts.get c = some q := by simp [hc]
  refine (State.mainLaw_iff t).2 ⟨fun k => ?_, fun d p hp hps => ?_, fun d p hp => ?_⟩
  · by_cases hk : k = q.main
    · subst hk
      exact .inr ⟨c, q, hx, hgetc, hst, rfl, hsrc⟩
    · obtain h | ⟨d, p, hd, hp, hpst, hpm, hpsrc⟩ := hl1 k
      · rw [hm k hk]
        exact .inl h
      · have hdc : d ≠ c := by
          rintro rfl
          exact hk (hpm ▸ h2 p hp hpst.ne)
        refine .inr ⟨d, p, ?_, (hget d hdc).trans hp, ?_, hpm, ?_⟩ <;> rw [hm k hk]
        · exact hd
        · exact hpst
        · exact hpsrc
  · by_cases hd : d = c
    · subst hd
      obtain rfl : q = p := Option.some.inj (hgetc.symm.trans hp)
      exact ⟨hx, hst.imp (·.1) (·.1)⟩
    · rw [hget d hd] at hp
      have hpm : p.main ≠ q.main := fun h => hd (h1 d p hp hps h)
      rw [hm _ hpm]
      exact hl2 d p hp hps
  · by_cases hd : d = c
    · subst hd
      obtain rfl : q = p := Option.some.inj (hgetc.symm.trans hp)
      exact htimer
    · rw [hget d hd] at hp
      exact hl3 d p hp

/-- A pass is to its main what another was. -/
def Pass.Like (q p : Pass) : Prop :=
  q.state = p.state ∧ q.main = p.main ∧ q.source = p.source
    ∧ (q.primeTimer.isSome = true → p.primeTimer.isSome = true)

/-- The passes stay what they were to their mains. -/
theorem State.MainLaw.reshape (hs : s.MainLaw) (hm : t.engine.mains = s.engine.mains)
    (hc : ∀ d, Option.Rel Pass.Like (t.engine.contexts.get d) (s.engine.contexts.get d)) : t.MainLaw := by
  obtain ⟨h1, h2, h3⟩ := (State.mainLaw_iff s).1 hs
  have hto : ∀ d q, t.engine.contexts.get d = some q → ∃ p, s.engine.contexts.get d = some p ∧ q.Like p := by
    intro d q hq
    have h := hc d
    rw [hq] at h
    generalize hd : s.engine.contexts.get d = o at h
    cases h with
    | some hl => exact ⟨_, rfl, hl⟩
  have hof : ∀ d p, s.engine.contexts.get d = some p → ∃ q, t.engine.contexts.get d = some q ∧ q.Like p := by
    intro d p hp
    have h := hc d
    rw [hp] at h
    generalize hd : t.engine.contexts.get d = o at h
    cases h with
    | some hl => exact ⟨_, rfl, hl⟩
  refine (State.mainLaw_iff t).2 ⟨fun k => ?_, fun d q hq hqs => ?_, fun d q hq hqt => ?_⟩
  · rw [hm]
    refine (h1 k).imp id ?_
    rintro ⟨d, p, hd, hp, hst, hpm, hsrc⟩
    obtain ⟨q, hq, h1, h2, h3, -⟩ := hof d p hp
    exact ⟨d, q, by rw [hm, hd], hq, by rw [hm, h1]; exact hst, h2.trans hpm, by rw [hm, h3]; exact hsrc⟩
  · obtain ⟨p, hp, he1, he2, -, -⟩ := hto d q hq
    rw [hm, he2]
    exact h2 d p hp (he1 ▸ hqs)
  · obtain ⟨p, hp, he1, -, -, he4⟩ := hto d q hq
    rw [he1]
    exact h3 d p hp (he4 hqt)

/-- A SUSPENDED pass goes, and no main changes. -/
theorem State.MainLaw.drop (hs : s.MainLaw) (hm : t.engine.mains = s.engine.mains)
    (hc : t.engine.contexts = s.engine.contexts.put c none) (h : s.engine.contexts.get c = some p)
    (hp : p.state = .suspended) : t.MainLaw := by
  obtain ⟨h1, h2, h3⟩ := (State.mainLaw_iff s).1 hs
  have hto : ∀ d q, t.engine.contexts.get d = some q → s.engine.contexts.get d = some q := by
    intro d q hq
    by_cases hd : c = d
    · simp [hc, hd] at hq
    · simpa [hc, hd] using hq
  refine (State.mainLaw_iff t).2 ⟨fun k => ?_, fun d q hq => ?_, fun d q hq => h3 d q (hto d q hq)⟩
  · rw [hm]
    refine (h1 k).imp id ?_
    rintro ⟨d, q, hd, hq, hst, hpm, hsrc⟩
    have hne : c ≠ d := by
      rintro rfl
      obtain rfl : p = q := Option.some.inj (h.symm.trans hq)
      exact hst.ne hp
    exact ⟨d, q, by rw [hm, hd], by simpa [hc, hne] using hq, by rw [hm]; exact hst, hpm, by rw [hm]; exact hsrc⟩
  · rw [hm]
    exact h2 d q (hto d q hq)

/-- Without passes, mains that rest are all that the law asks. -/
theorem State.mainLaw_of_noPass (hp : t.NoPass) (h : ∀ m, (t.engine.mains.get m).Resting) : t.MainLaw :=
  (State.mainLaw_iff t).2 ⟨fun m => .inl (h m), fun c p hc => by simp [hp c] at hc,
    fun c p hc => by simp [hp c] at hc⟩

theorem State.MainLaw.resting_of_noPass (hs : s.MainLaw) (hp : s.NoPass) (m : Fin 4) :
    (s.engine.mains.get m).Resting := by
  obtain h | ⟨c, p, -, hc, -⟩ := ((State.mainLaw_iff s).1 hs).1 m
  · exact h
  · simp [hp c] at hc

/-- A main that rests is changed to one that rests. -/
theorem State.MainLaw.mapMain (hs : s.MainLaw) {f : Main → Main} (h : (s.engine.mains.get m).Resting)
    (hf : (f (s.engine.mains.get m)).Resting) : (s.mapMain m f).MainLaw := by
  refine hs.rest m (fun k hk => by simp [hk.symm]) (by simpa using hf)
    (fun d q hq hqs => ⟨hq, hs.main_ne h hq hqs⟩) (fun _ _ hq _ _ => hq) ((State.mainLaw_iff s).1 hs).2.2

/-- A main changed in no part that the law sees. -/
theorem State.MainLaw.mapMain_same (hs : s.MainLaw) {f : Main → Main}
    (h1 : (f (s.engine.mains.get m)).state = (s.engine.mains.get m).state)
    (h2 : (f (s.engine.mains.get m)).context = (s.engine.mains.get m).context)
    (h3 : (f (s.engine.mains.get m)).openSource = (s.engine.mains.get m).openSource) :
    (s.mapMain m f).MainLaw := by
  have hall : ∀ k, ((s.engine.mains.modify m f).get k).state = (s.engine.mains.get k).state
      ∧ ((s.engine.mains.modify m f).get k).context = (s.engine.mains.get k).context
      ∧ ((s.engine.mains.modify m f).get k).openSource = (s.engine.mains.get k).openSource := by
    intro k
    by_cases hk : m = k
    · subst hk
      simp [h1, h2, h3]
    · simp [hk]
  unfold State.MainLaw at hs ⊢
  simp only [State.mapMain_engine_mains, State.mapMain_engine_contexts, (hall _).1, (hall _).2.1, (hall _).2.2]
  exact hs

/-- The law of the mains, kept folded while it is carried through the steps. -/
@[irreducible] def State.MainsAgree (s : State) : Prop := s.MainLaw

theorem State.mainsAgree_iff (s : State) : s.MainsAgree ↔ s.MainLaw := by
  unfold State.MainsAgree
  exact Iff.rfl

theorem State.MainsAgree.of (hs : s.MainsAgree) (h : s.MainLaw → t.MainLaw) : t.MainsAgree :=
  (State.mainsAgree_iff t).2 (h ((State.mainsAgree_iff s).1 hs))

theorem State.MainsAgree.congr (hs : s.MainsAgree) (hm : t.engine.mains = s.engine.mains)
    (hc : t.engine.contexts = s.engine.contexts) : t.MainsAgree :=
  hs.of fun h => h.congr hm hc

theorem State.MainsAgree.of_beyondWatch (hs : s.MainsAgree) (h : t.beyondWatch = s.beyondWatch) : t.MainsAgree := by
  obtain ⟨hm, hc, -⟩ := State.beyondWatch_fields h
  exact hs.congr hm hc

theorem State.MainsAgree.of_beyondWater (hs : s.MainsAgree) (h : t.beyondWater = s.beyondWater) : t.MainsAgree := by
  obtain ⟨hm, hc, -⟩ := State.beyondWater_fields h
  exact hs.congr hm hc

theorem State.MainsAgree.follow (hs : s.MainsAgree) : s.follow.MainsAgree := hs.congr (by simp) (by simp)

/-- A live pass becomes one that is the same to its main. -/
theorem State.MainsAgree.setContext (hs : s.MainsAgree) (h : s.engine.contexts.get c = some p) (hq : q.Like p) :
    (s.setContext c (some q)).MainsAgree := by
  refine hs.of fun hm => hm.reshape rfl fun d => ?_
  by_cases hd : c = d
  · subst hd
    simpa [h] using Option.Rel.some hq
  · simp only [State.setContext_engine_contexts, Table.get_put, if_neg hd]
    cases s.engine.contexts.get d with
    | none => exact .none
    | some r => exact .some ⟨rfl, rfl, rfl, id⟩

/-! ## Pass ends -/

/-- What the end of a pass makes of the mains: a SUSPENDED pass's main stays, or is closed where it was OPEN; any
other's main comes to rest, as does the main that a flow fault takes out of service (06 R128). -/
theorem State.mainAfterEnd_cases (s : State) (p : Pass) (e : PassEnd) :
    (p.state = .suspended ∧ (∀ cause, e ≠ .noFlow cause)
      ∧ ((s.mainAfterEnd p e).engine.mains = s.engine.mains
        ∨ ((s.engine.mains.get p.main).state = .opened
          ∧ (s.mainAfterEnd p e).engine.mains = s.engine.mains.modify p.main fun x => x.shut .closed)))
    ∨ ((p.state ≠ .suspended ∨ ∃ cause, e = .noFlow cause)
      ∧ ∃ x : Main, x.Resting ∧ (s.mainAfterEnd p e).engine.mains = s.engine.mains.put p.main x) := by
  unfold State.mainAfterEnd
  split
  · next cause =>
    exact .inr ⟨.inr ⟨cause, rfl⟩, _, Main.resting_faulted (s.engine.mains.get p.main) (some cause), rfl⟩
  · next hne =>
    have hn : ∀ cause, e ≠ .noFlow cause := hne
    split
    · next hp =>
      split
      · next h => exact .inl ⟨hp, hn, .inr ⟨h.1, rfl⟩⟩
      · exact .inl ⟨hp, hn, .inl rfl⟩
    · next hp =>
      split
      · exact .inr ⟨.inl hp, _, Main.resting_opened (s.engine.mains.get p.main) p.source, rfl⟩
      · exact .inr ⟨.inl hp, _, Main.resting_shut (s.engine.mains.get p.main) .closed (by simp), rfl⟩

theorem State.MainLaw.endPass (hs : s.MainLaw) (h : s.engine.contexts.get c = some p) (x : Option (Fin 5))
    (e : PassEnd) (he : p.state ≠ .suspended ∨ ∀ cause, e ≠ .noFlow cause) (offers : Bool) :
    (s.endPass x c e offers).MainLaw := by
  have hmains := State.endPass_mains h x e offers
  have hctx := s.endPass_contexts x c e offers
  have hset := s.settle_mains x p (p.finalDelivered e)
  have hsub : ∀ d q, (s.endPass x c e offers).engine.contexts.get d = some q →
      d ≠ c ∧ s.engine.contexts.get d = some q := by
    intro d q hq
    by_cases hd : c = d
    · subst hd
      simp at hq
    · exact ⟨Ne.symm hd, by simpa [hctx, hd] using hq⟩
  have htimer : ∀ d q, (s.endPass x c e offers).engine.contexts.get d = some q → q.primeTimer.isSome = true →
      q.state = .priming := fun d q hq => ((State.mainLaw_iff s).1 hs).2.2 d q (hsub d q hq).2
  obtain ⟨hp, -, hm | ⟨hst, hm⟩⟩ | ⟨hor, y, hy, hm⟩ :=
    (s.settle x p (p.finalDelivered e)).mainAfterEnd_cases p e
  · rw [hset] at hm
    exact hs.drop (hmains.trans hm) hctx h hp
  · -- the OPEN main of a suspended pass is closed
    rw [hset] at hm hst
    have hrest : (s.engine.mains.get p.main).Resting := by
      obtain h | ⟨_, _, _, _, h, _⟩ := ((State.mainLaw_iff s).1 hs).1 p.main
      · exact h
      · rw [hst] at h
        simp [MainState.Serves] at h
    refine hs.rest p.main (fun k hk => ?_) ?_ (fun d q hq hqs => ?_) (fun d q hq hqs _ => ?_) htimer
    · rw [hmains, hm]
      simp [hk.symm]
    · rw [hmains, hm, Table.get_modify, if_pos rfl]
      exact Main.resting_shut _ .closed (by simp)
    · exact ⟨(hsub d q hq).2, hs.main_ne hrest (hsub d q hq).2 hqs⟩
    · have hd : c ≠ d := by
        rintro rfl
        obtain rfl : p = q := Option.some.inj (h.symm.trans hq)
        exact hqs hp
      simpa [hctx, hd] using hq
  · rw [hset] at hm
    have hns : p.state ≠ .suspended := by
      obtain h | ⟨cause, h⟩ := hor
      · exact h
      · exact he.resolve_right fun hn => hn cause h
    refine hs.rest p.main (fun k hk => ?_) ?_ (fun d q hq hqs => ?_) (fun d q hq hqs hqm => ?_) htimer
    · rw [hmains, hm]
      simp [hk.symm]
    · rw [hmains, hm, Table.get_put, if_pos rfl]
      exact hy
    · obtain ⟨hd, hq⟩ := hsub d q hq
      exact ⟨hq, fun hqm => hd (hs.context_eq h hns hq hqs hqm)⟩
    · have hd : c ≠ d := by
        rintro rfl
        obtain rfl : p = q := Option.some.inj (h.symm.trans hq)
        exact hqm rfl
      simpa [hctx, hd] using hq

theorem State.MainsAgree.endPass (hs : s.MainsAgree) (h : s.engine.contexts.get c = some p)
    (x : Option (Fin 5)) (e : PassEnd) (he : p.state ≠ .suspended ∨ ∀ cause, e ≠ .noFlow cause)
    (offers : Bool) : (s.endPass x c e offers).MainsAgree :=
  hs.of fun hm => hm.endPass h x e he offers

/-- The end of a pass for another cause than its flow keeps the law, live or not. -/
theorem State.MainsAgree.endPass_of (hs : s.MainsAgree) (x : Option (Fin 5)) (c : Fin 8) (e : PassEnd)
    (he : ∀ cause, e ≠ .noFlow cause) (offers : Bool) : (s.endPass x c e offers).MainsAgree := by
  cases h : s.engine.contexts.get c with
  | none => rwa [State.endPass_of_free h]
  | some p => exact hs.endPass h x e (.inr he) offers

/-! ## Primes -/

/-- A prime leaves its context FREE, after a stray flow, or with the pass PRIMING (06 R115, R116). -/
theorem State.prime_cases (s : State) (x : Option (Fin 5)) (c : Fin 8) (p : Pass) :
    (∃ q : Pass, q.state = .priming ∧ q.main = p.main ∧ q.source = p.source
        ∧ (s.prime x c p).engine.contexts = s.engine.contexts.put c (some q)
        ∧ (s.prime x c p).engine.mains = s.engine.mains.modify p.main fun y =>
            { y with openSource := some p.source, state := .priming, context := some c })
    ∨ ((s.prime x c p).engine.contexts = s.engine.contexts.put c none
        ∧ (s.prime x c p).engine.mains = s.engine.mains.modify p.main fun y =>
            { y.shut .faulted with fault := some .stray }) := by
  cases h : s.flowActive p.main with
  | false =>
    refine .inl ⟨{ p with
      prime := s.primeKind p.main p.source, state := .priming
      primeTimer := some ((s.engine.mains.get p.main).primeTime (s.primeKind p.main p.source)) }, rfl, rfl, rfl, ?_⟩
    rw [State.prime_of_quiet h]
    exact ⟨by simp [State.selected], by simp [State.selected, Table.modify]⟩
  | true =>
    have hc : (s.selected c p).follow.engine.contexts.get c
        = some { p with prime := s.primeKind p.main p.source } := by
      simp [State.selected]
    refine .inr ?_
    rw [State.prime_of_flow h, State.endPass_mains hc, State.endPass_contexts]
    exact ⟨by simp [State.selected], by simp [State.mainAfterEnd, State.selected, Table.modify, Main.shut]⟩

/-- A prime on a main that rests, in a context without a pass that is primed or run. -/
theorem State.MainLaw.prime (hs : s.MainLaw) (hm : (s.engine.mains.get p.main).Resting)
    (hc : ∀ q, s.engine.contexts.get c = some q → q.state = .suspended) (x : Option (Fin 5)) :
    (s.prime x c p).MainLaw := by
  obtain ⟨q, hq, hqm, hqs, hctx, hmains⟩ | ⟨hctx, hmains⟩ := s.prime_cases x c p
  · rw [← hqm] at hm hmains
    refine hs.serve c q (fun k hk => ?_) ?_ ?_ ?_ hctx (fun _ => hq) (fun d r hr hrs hrm => ?_)
      fun r hr hrs => absurd (hc r hr) hrs
    · rw [hmains]
      simp [hk.symm]
    · rw [hmains]
      simp
    · rw [hmains, hq]
      exact .inl ⟨by simp, rfl⟩
    · rw [hmains, hqs]
      simp
    · exact absurd hrm (hs.main_ne hm hr hrs)
  · refine hs.rest p.main (fun k hk => ?_) ?_ (fun d r hr hrs => ?_) (fun d r hr hrs _ => ?_) fun d r hr => ?_
    · rw [hmains]
      simp [hk.symm]
    · rw [hmains, Table.get_modify, if_pos rfl]
      exact Main.resting_faulted _ _
    · by_cases hd : c = d
      · subst hd
        simp [hctx] at hr
      · have hr' : s.engine.contexts.get d = some r := by simpa [hctx, hd] using hr
        exact ⟨hr', hs.main_ne hm hr' hrs⟩
    · have hd : c ≠ d := by
        rintro rfl
        exact hrs (hc r hr)
      simpa [hctx, hd] using hr
    · by_cases hd : c = d
      · subst hd
        simp [hctx] at hr
      · exact ((State.mainLaw_iff s).1 hs).2.2 d r (by simpa [hctx, hd] using hr)

/-- An available main rests (06 R107). -/
theorem State.MainLaw.resting_of_available (hs : s.MainLaw) (h : s.available m = true) :
    (s.engine.mains.get m).Resting := by
  obtain h' | ⟨_, _, _, _, h', _⟩ := ((State.mainLaw_iff s).1 hs).1 m
  · exact h'
  · obtain ⟨-, h | h⟩ := State.available_eq_true.1 h <;> simp [h, MainState.Serves] at h'

theorem State.freeContext_spec (h : s.freeContext = some c) : s.engine.contexts.get c = none := by
  have := List.find?_some h
  simpa using this

theorem State.MainsAgree.prime (hs : s.MainsAgree) (hm : (s.engine.mains.get p.main).Resting)
    (hc : ∀ q, s.engine.contexts.get c = some q → q.state = .suspended) (x : Option (Fin 5)) :
    (s.prime x c p).MainsAgree :=
  hs.of fun h => h.prime hm hc x

theorem State.MainsAgree.resting_of_available (hs : s.MainsAgree) (h : s.available m = true) :
    (s.engine.mains.get m).Resting :=
  ((State.mainsAgree_iff s).1 hs).resting_of_available h

/-- A request primes its main in a FREE context, or leaves the mains and passes. -/
theorem State.MainsAgree.requestAndStart (hs : s.MainsAgree) (ha : s.available m = true)
    (hc : s.freeContext = some c) (x : Option (Fin 5)) : (s.requestAndStart x m c).MainsAgree := by
  have hrest := hs.resting_of_available ha
  have hfree := State.freeContext_spec hc
  have hr : (s.recordReasons m).MainsAgree := hs.of_beyondWatch (s.recordReasons_beyondWatch m)
  obtain h | ⟨k, -, h⟩ := s.requestAndStart_cases x m c
  · rw [h]
    exact hr
  · have ht : ((s.recordReasons m).takeOrder k.order.pile).MainsAgree :=
      hr.of_beyondWatch (State.takeOrder_beyondWatch _ _)
    obtain h' | ⟨p, q, -, -, h'⟩ := ((s.recordReasons m).takeOrder k.order.pile).startPass_cases x c m k
    · rw [h, h']
      exact ht
    · rw [h, h']
      refine State.MainsAgree.prime (ht.of_beyondWater (State.reserve_beyondWater _ _ _)) ?_ ?_ x
      · simpa [newPass] using hrest
      · simp [hfree]

theorem State.mainsAgree_attempts (x : Option (Fin 5)) : KeptByAttempts x State.MainsAgree where
  core s := by
    rw [State.mainsAgree_iff, State.mainsAgree_iff]
    exact Iff.rfl
  endPass _ c e he hs := hs.endPass_of x c e he true
  resume s c p hp hr ha hs := by
    refine State.MainsAgree.prime (p := { p with limitTimer := none, since := none }) hs
      (hs.resting_of_available ha) (fun q hq => ?_) x
    obtain rfl : p = q := Option.some.inj (hp.symm.trans hq)
    simp only [Pass.resumable, Bool.and_eq_true, decide_eq_true_eq] at hr
    exact hr.1.1
  request _ m c ha hc hs := hs.requestAndStart ha hc x

/-! ## The effects -/

theorem Pass.moveCursor_like (p : Pass) (rest : List Nat) : (p.moveCursor rest).Like p := by
  unfold Pass.moveCursor
  split <;> exact ⟨rfl, rfl, rfl, id⟩

theorem Pass.trimmed_like (p : Pass) (start length : Nat) : (p.trimmed start length).Like p := by
  unfold Pass.trimmed Pass.moveCursor
  dsimp only
  repeat' split
  all_goals exact ⟨rfl, rfl, rfl, id⟩

theorem State.MainsAgree.finishBay (hs : s.MainsAgree) (h : s.engine.contexts.get c = some p) :
    (s.finishBay none c p).MainsAgree := by
  have hl : (({ p with baysDone := p.baysDone + 1 } : Pass).moveCursor p.rest.tail).Like p :=
    Pass.moveCursor_like _ _
  unfold State.finishBay
  dsimp only
  split
  · exact (hs.setContext h hl).endPass_of _ _ _ (by simp) _
  · refine hs.setContext h ?_
    exact hl

/-- The pass that a PRIMING or RUNNING main names is the one that it serves (06 R107). -/
theorem State.MainLaw.served (hs : s.MainLaw) (hx : (s.engine.mains.get m).state = .priming
      ∨ (s.engine.mains.get m).state = .running) (hc : (s.engine.mains.get m).context = some c)
    (hp : s.engine.contexts.get c = some p) :
    (s.engine.mains.get m).state.Serves p.state ∧ p.main = m
      ∧ (s.engine.mains.get m).openSource = some p.source := by
  obtain h | ⟨d, q, hd, hq, hst, hqm, hsrc⟩ := ((State.mainLaw_iff s).1 hs).1 m
  · obtain ⟨h1, h2⟩ := h.not_serving
    exact absurd hx (by simp [h1, h2])
  · obtain rfl : c = d := Option.some.inj (hc.symm.trans hd)
    obtain rfl : p = q := Option.some.inj (hp.symm.trans hq)
    exact ⟨hst, hqm, hsrc⟩

/-- A PRIMING main comes to run, and its pass with it (06 R117). -/
theorem State.MainLaw.run (hs : s.MainLaw) (hx : (s.engine.mains.get m).state = .priming)
    (hc : (s.engine.mains.get m).context = some c) (hp : s.engine.contexts.get c = some p)
    (hq : q.state = .running ∧ q.main = p.main ∧ q.source = p.source ∧ q.primeTimer = none) :
    ((s.mapMain m fun y => { y with state := .running }).setContext c (some q)).MainLaw := by
  obtain ⟨hst, hpm, hsrc⟩ := hs.served (.inl hx) hc hp
  obtain ⟨h1, h2, h3, h4⟩ := hq
  have hqm : q.main = m := h2.trans hpm
  refine hs.serve c q (fun k hk => ?_) ?_ ?_ ?_ rfl (by simp [h4]) (fun d r hr hrs hrm => ?_) fun r hr _ => ?_
  · rw [hqm] at hk
    simp [hk.symm]
  · simp [hqm, hc]
  · rw [h1]
    exact .inr ⟨by simp [hqm], rfl⟩
  · simp [hqm, hsrc, h3]
  · exact hs.context_eq hp hst.ne hr hrs (hrm.trans h2)
  · obtain rfl : p = r := Option.some.inj (hp.symm.trans hr)
    exact h2.symm

theorem State.MainsAgree.confirmFlow (hs : s.MainsAgree) (m : Fin 4) : (s.confirmFlow m).MainsAgree := by
  unfold State.confirmFlow
  dsimp only
  split
  · next hm =>
    split
    · exact hs
    · next c hc =>
      split
      · exact hs
      · next p hp =>
        split
        · refine State.MainsAgree.finishBay (State.MainsAgree.follow (hs.of fun h => h.run hm hc hp ?_)) ?_
          · exact ⟨rfl, rfl, rfl, rfl⟩
          · simp
        · refine State.MainsAgree.follow (hs.of fun h => h.run hm hc hp ?_)
          exact ⟨rfl, rfl, rfl, rfl⟩
  · exact hs

theorem State.MainsAgree.loseFlow (hs : s.MainsAgree) (m : Fin 4) : (s.loseFlow m).MainsAgree := by
  unfold State.loseFlow
  dsimp only
  split
  · next hm =>
    split
    · exact hs
    · next c hc =>
      cases hp : s.engine.contexts.get c with
      | none => rwa [State.endPass_of_free hp]
      | some p =>
        exact hs.endPass hp _ _ (.inl (((State.mainsAgree_iff s).1 hs).served (.inr hm) hc hp).1.ne) _
  · exact hs

/-- What a suspension makes of the mains and the passes (06 R121). -/
theorem State.suspendPass_bench (s : State) (c : Fin 8) (p : Pass) :
    (s.suspendPass c p).engine.mains = (s.engine.mains.modify p.main fun x =>
        { x with state := .opened, openSource := some p.source, context := none })
      ∧ ∃ q : Pass, q.state = .suspended ∧ q.primeTimer = none
        ∧ (s.suspendPass c p).engine.contexts = s.engine.contexts.put c (some q) := by
  have hl : ∀ (t : State) (d : Nat), (if 0 < d then t.lowTestUnless none p.source else t).engine.mains
      = t.engine.mains ∧ (if 0 < d then t.lowTestUnless none p.source else t).engine.contexts
      = t.engine.contexts := by
    intro t d
    split
    · obtain ⟨h1, h2, -⟩ := State.beyondWater_fields (t.lowTestUnless_beyondWater none p.source)
      exact ⟨h1, h2⟩
    · exact ⟨rfl, rfl⟩
  unfold State.suspendPass
  dsimp only
  refine ⟨?_, State.suspended (s.mapMain p.main fun x =>
    { x with state := .opened, openSource := some p.source, context := none }) p, rfl, rfl, ?_⟩
  · rw [State.follow_engine, State.ask_engine_mains, (hl _ _).1,
      (State.beyondWater_fields (State.deduct_beyondWater _ p.source _)).1]
    rfl
  · rw [State.follow_engine, State.ask_engine_contexts, (hl _ _).2,
      (State.beyondWater_fields (State.deduct_beyondWater _ p.source _)).2.1]
    rfl

theorem State.MainLaw.suspendPass (hs : s.MainLaw) (h : s.engine.contexts.get c = some p)
    (hp : p.state ≠ .suspended) : (s.suspendPass c p).MainLaw := by
  obtain ⟨hmains, q, hq, hqt, hctx⟩ := s.suspendPass_bench c p
  have hget : ∀ d, d ≠ c → (s.suspendPass c p).engine.contexts.get d = s.engine.contexts.get d := fun d hd => by
    simp [hctx, hd.symm]
  have hgetc : (s.suspendPass c p).engine.contexts.get c = some q := by simp [hctx]
  refine hs.rest p.main (fun k hk => ?_) ?_ (fun d r hr hrs => ?_) (fun d r hr hrs hrm => ?_) fun d r hr => ?_
  · rw [hmains]
    simp [hk.symm]
  · rw [hmains, Table.get_modify, if_pos rfl]
    exact Main.resting_opened _ _
  · by_cases hd : d = c
    · subst hd
      obtain rfl : q = r := Option.some.inj (hgetc.symm.trans hr)
      exact absurd hq hrs
    · rw [hget d hd] at hr
      exact ⟨hr, fun hrm => hd (hs.context_eq h hp hr hrs hrm)⟩
  · have hd : d ≠ c := by
      rintro rfl
      obtain rfl : p = r := Option.some.inj (h.symm.trans hr)
      exact hrm rfl
    rw [hget d hd]
    exact hr
  · by_cases hd : d = c
    · subst hd
      obtain rfl : q = r := Option.some.inj (hgetc.symm.trans hr)
      simp [hqt]
    · rw [hget d hd] at hr
      exact ((State.mainLaw_iff s).1 hs).2.2 d r hr

theorem State.MainsAgree.trimPasses (hs : s.MainsAgree) (bed : Fin 8) (start length : Nat) :
    (s.trimPasses bed start length).MainsAgree := by
  refine s.forEach_inv State.MainsAgree _ _ (fun t c _ ht => ?_) hs
  split
  · next p hp =>
    split
    · have hr : ((t.setContext c (some (p.trimmed start length))).release p.source
          (p.planned - (p.trimmed start length).planned)).MainsAgree :=
        (ht.setContext hp (p.trimmed_like start length)).of_beyondWater (State.release_beyondWater _ _ _)
      unfold State.trimPass
      dsimp only
      split
      · exact (State.mainsAgree_attempts none).runAttempts (hr.endPass_of _ _ _ (by simp) _)
      · exact hr
    · exact ht
  · exact ht

theorem State.MainsAgree.moveBaselines (hs : s.MainsAgree) (b : Fin 5) : (s.moveBaselines b).MainsAgree := by
  refine s.forEach_inv State.MainsAgree _ _ (fun t c _ ht => ?_) hs
  split
  · next p hp =>
    split
    · refine State.MainsAgree.setContext (s := t.mapBasin b _) (ht.congr rfl rfl) hp ?_
      exact ⟨rfl, rfl, rfl, id⟩
    · exact ht
  · exact ht

theorem State.MainsAgree.takeGauge (hs : s.MainsAgree) (b : Fin 5) (level clarity : Nat) :
    (s.takeGauge b level clarity).MainsAgree := by
  have hl : ((((s.moveBaselines b).mapBasin b fun y => { y with level, baseClarity := clarity, clarity })).lowTest
      b).MainsAgree :=
    ((hs.moveBaselines b).of_beyondWater (State.mapBasin_beyondWater _ _ _)).of_beyondWater
      (State.lowTest_beyondWater _ _)
  unfold State.takeGauge
  dsimp only
  refine State.MainsAgree.of_beyondWater ?_ (State.reportRise_beyondWater _ _ _)
  split
  · unfold State.cutLow
    exact (((State.mainsAgree_attempts (some b)).endWhere (by simp) _ hl).of_beyondWater
      (State.lowTest_beyondWater _ _)).of_beyondWater (State.reportReady_beyondWater _ _ _)
  · exact hl

/-- An OPEN main that is shut was at rest and is. -/
theorem State.MainsAgree.shutOpened (hs : s.MainsAgree) (h : (s.engine.mains.get m).state = .opened) :
    (s.mapMain m fun y => y.shut .closed).MainsAgree := by
  refine hs.of fun hm => hm.mapMain ?_ (Main.resting_shut _ _ (by simp))
  obtain h' | ⟨_, _, _, _, h', _⟩ := ((State.mainLaw_iff s).1 hm).1 m
  · exact h'
  · rw [h] at h'
    simp [MainState.Serves] at h'

theorem State.MainsAgree.closeSource (hs : s.MainsAgree) (x : Fin 6) : (s.closeSource x).MainsAgree := by
  refine s.forEach_inv State.MainsAgree _ _ (fun t m _ ht => ?_) hs
  split
  · next h => exact (ht.shutOpened h.1).follow
  · exact ht

theorem State.MainsAgree.isolateSource (hs : s.MainsAgree) (x : Fin 6) : (s.isolateSource x).MainsAgree := by
  unfold State.isolateSource
  exact ((State.mainsAgree_attempts none).endWhere (by simp) _
    (hs.of_beyondWater (s.setIsolated_beyondWater x true))).closeSource x

theorem State.MainsAgree.removePile (hs : s.MainsAgree) (i : Fin 48) : (s.removePile i).MainsAgree := hs.congr rfl rfl

theorem State.MainsAgree.setExclusion (hs : s.MainsAgree) (i : Fin 16) (e : Option Exclusion) :
    (s.setExclusion i e).MainsAgree :=
  hs.congr rfl rfl

theorem State.MainsAgree.loseBases (hs : s.MainsAgree) (cls : RecordClass) (i : Nat) :
    (s.loseBases cls i).MainsAgree :=
  hs.congr rfl rfl

theorem State.MainsAgree.endPile (hs : s.MainsAgree) (i : Fin 48) : (s.endPile i).MainsAgree := by
  unfold State.endPile
  split
  · exact hs.endPass_of _ _ _ (by simp) _
  · exact hs

theorem State.MainsAgree.removeOrder (hs : s.MainsAgree) (i : Fin 48) : (s.removeOrder i).MainsAgree := by
  unfold State.removeOrder
  split
  · exact hs.of_beyondWatch (s.dropOrder_beyondWatch i)
  · exact hs

theorem State.MainsAgree.retirePile (hs : s.MainsAgree) (i : Fin 48) : (s.retirePile i).MainsAgree := by
  rw [State.retirePile_eq, State.clearPile_eq]
  have hd := (((hs.endPile i).removeOrder i).of_beyondWatch (State.discardMust_beyondWatch _ i)).removePile i
  exact (hd.of_beyondWatch (State.mapLiving_beyondWatch _ i _)).loseBases _ _

theorem State.MainsAgree.installPile (hs : s.MainsAgree) (i : Fin 48) (x : Pile) (n : Nat) :
    (s.installPile i x n).MainsAgree := by
  have hp : ({ s with geometry := s.geometry.placePile i x } : State).MainsAgree := hs.congr rfl rfl
  unfold State.installPile
  refine hp.of_beyondWatch ?_
  simp

/-- Where a main is not closed for its mask, its COMMIT changes no part that serves (06 R108). -/
theorem Main.closeUnmasked_cases (x : Main) :
    x.closeUnmasked = x ∨ (x.state = .opened ∧ x.closeUnmasked = x.shut .closed) := by
  unfold Main.closeUnmasked
  split
  · split
    · next h => exact .inr ⟨h.1, rfl⟩
    · exact .inl rfl
  · exact .inl rfl

/-- A COMMIT of a main changes nothing that it serves with, or closes it where it is OPEN (06 R108). -/
theorem State.MainsAgree.commitMain (hs : s.MainsAgree) (m : Fin 4) (v : List Nat) :
    (s.mapMain m fun y => ({ y.install v with revision := y.revision + 1 } : Main).closeUnmasked).MainsAgree := by
  refine hs.of fun hm => ?_
  obtain h | ⟨hst, h⟩ := Main.closeUnmasked_cases
    { (s.engine.mains.get m).install v with revision := (s.engine.mains.get m).revision + 1 }
  · refine hm.mapMain_same ?_ ?_ ?_ <;> rw [h] <;> rfl
  · refine hm.mapMain ?_ (by rw [h]; exact Main.resting_shut _ _ (by simp))
    obtain h' | ⟨_, _, _, _, h', _⟩ := ((State.mainLaw_iff s).1 hm).1 m
    · exact h'
    · rw [show (s.engine.mains.get m).state = .opened from hst] at h'
      simp [MainState.Serves] at h'

/-- A change to HELD leaves every main at rest (06 R132). -/
theorem State.MainsAgree.holdYard (hs : s.MainsAgree) : s.holdYard.MainsAgree := by
  have key : ∀ w, (s.setMode .held).endWhere none (fun _ => true) (.cutShort .hold) = w →
      s.holdYard.MainsAgree := by
    intro w hw
    have hp := State.endWhere_noPass s.setMode_held_ne none (.cutShort .hold)
    have hm : (s.setMode .held).MainsAgree := hs.congr rfl rfl
    have hk := (State.mainsAgree_attempts none).endWhere (e := .cutShort .hold) (by simp) (fun _ => true) hm
    rw [hw] at hp hk
    rw [State.holdYard_eq hw]
    refine (State.mainsAgree_iff _).2 (State.mainLaw_of_noPass (fun c => ?_) fun m => ?_)
    · exact hp c
    · have hr := ((State.mainsAgree_iff w).1 hk).resting_of_noPass hp m
      simp only [Table.get_tab, Main.halted]
      split
      · exact hr
      · exact Main.resting_shut _ _ (by simp)
  exact key _ rfl

theorem State.drainYard_mainsAgree (s : State) : s.drainYard.MainsAgree := by
  have key : ∀ w, (s.setMode .draining).endWhere none (fun _ => true) (.cutShort .drain) = w →
      s.drainYard.MainsAgree := by
    intro w hw
    have hp := State.endWhere_noPass s.setMode_draining_ne none (.cutShort .drain)
    rw [hw] at hp
    rw [State.drainYard_eq hw]
    refine (State.mainsAgree_iff _).2 (State.mainLaw_of_noPass (fun c => ?_) fun m => ?_)
    · exact hp c
    · simp only [Table.get_tab]
      exact ⟨rfl, rfl⟩
  exact key _ rfl

/-- A second leaves every pass what it is to its main (02 R27). -/
theorem Pass.second_like (p : Pass) : p.second.Like p := by
  unfold Pass.second
  dsimp only
  split <;> exact ⟨rfl, rfl, rfl, by simp [countDown_isSome]⟩

theorem State.MainsAgree.second (hs : s.MainsAgree) : s.second.MainsAgree := by
  refine hs.of fun hm => hm.reshape rfl fun d => ?_
  have hd : s.second.engine.contexts.get d = (s.engine.contexts.get d).map Pass.second := by
    simp [State.second]
  rw [hd]
  cases s.engine.contexts.get d with
  | none => exact .none
  | some p => exact .some p.second_like

/-- A drain timer that runs out finds its main at rest (07 R143). -/
theorem State.MainsAgree.drained (hs : s.MainsAgree) (hm : s.Modes) (h : s.control.drainTimers.get m = some 0) :
    (s.drained m).MainsAgree := by
  have hmode := hm.draining_of_timer h
  obtain ⟨hp, -, hk⟩ := (State.modeLaw_draining_iff hmode).1 ((State.modes_iff s).1 hm)
  have hr := ((State.mainsAgree_iff s).1 hs).resting_of_noPass hp
  have hmap : (s.mapMain m fun x => { x with state := .drained }).MainsAgree := by
    refine hs.of fun hl => hl.mapMain (hr m) ?_
    have hrm := hr m
    unfold Main.Resting at hrm
    obtain ⟨h', -⟩ | ⟨h', -⟩ := hk m <;> rw [h'] at hrm <;> exact hrm
  unfold State.drained
  dsimp only
  split <;> exact hmap.congr rfl rfl

/-- A FAULTED main that is cleared was at rest and is (06 R126). -/
theorem State.MainsAgree.clearFault (hs : s.MainsAgree) (h : (s.engine.mains.get m).state = .faulted) :
    (s.mapMain m fun y => { y with state := .closed, fault := none }).MainsAgree := by
  refine hs.of fun hm => ?_
  obtain h' | ⟨_, _, _, _, h', _⟩ := ((State.mainLaw_iff s).1 hm).1 m
  · refine hm.mapMain h' ?_
    unfold Main.Resting at h'
    rw [h] at h'
    exact h'
  · rw [h] at h'
    simp [MainState.Serves] at h'

/-- The mains CLOSED in a yard without passes (06 R132). -/
theorem State.closeMains_mainsAgree (hp : s.NoPass) : (s.setMode .active).closeMains.MainsAgree := by
  rw [State.closeMains_eq]
  refine (State.mainsAgree_iff _).2 (State.mainLaw_of_noPass hp fun m => ?_)
  simp only [Table.get_tab]
  exact ⟨rfl, rfl⟩

theorem State.mainsAgree_of_reset (hc : t.engine.contexts = Table.fill 8 none)
    (hx : t.engine.mains = Table.fill 4 Main.reset) : t.MainsAgree := by
  refine (State.mainsAgree_iff _).2 (State.mainLaw_of_noPass (fun c => ?_) fun m => ?_)
  · rw [hc, Table.get_fill]
  · rw [hx, Table.get_fill]
    exact ⟨rfl, rfl⟩

/-- The modes and the mains, kept together. -/
def State.Bench (s : State) : Prop := s.Modes ∧ s.MainsAgree

/-- The law of the mains is kept by every effect, where the modes' is (06 R107). -/
theorem State.bench_kept : Kept State.Bench where
  core s := and_congr (State.modes_kept.core s) ((State.mainsAgree_attempts none).core s)
  endPass s c e he hs := ⟨State.modes_kept.endPass s c e he hs.1, hs.2.endPass_of none c e he true⟩
  resume s c p hp hr ha hs := ⟨State.modes_kept.resume s c p hp hr ha hs.1,
    (State.mainsAgree_attempts none).resume s c p hp hr ha hs.2⟩
  request s m c ha hc hs := ⟨State.modes_kept.request s m c ha hc hs.1, hs.2.requestAndStart ha hc none⟩
  time s t h hs := ⟨State.modes_kept.time s t h hs.1, hs.2.congr (by rw [h.eq]) (by rw [h.eq])⟩
  stored s t h hs := ⟨State.modes_kept.stored s t h hs.1, hs.2.congr (by rw [h.eq]) (by rw [h.eq])⟩
  buffer s t h hs := ⟨State.modes_kept.buffer s t h hs.1, hs.2.congr (by rw [h.eq]) (by rw [h.eq])⟩
  place s t h hs := ⟨State.modes_kept.place s t h hs.1, hs.2.congr (by rw [h.eq]) (by rw [h.eq])⟩
  installPile s i x n h hs := ⟨State.modes_kept.installPile s i x n h hs.1, hs.2.installPile i x n⟩
  exclude s i e he h hs := ⟨State.modes_kept.exclude s i e he h hs.1,
    (hs.2.setExclusion i (some e)).trimPasses _ _ _⟩
  commitMain s m v h hs := ⟨State.modes_kept.commitMain s m v h hs.1, hs.2.commitMain m v⟩
  commitSource s i v t h hs := ⟨State.modes_kept.commitSource s i v t h hs.1,
    hs.2.of_beyondWater (State.commitSource_beyondWater h)⟩
  retirePile s i h hs := ⟨State.modes_kept.retirePile s i h hs.1, hs.2.retirePile i⟩
  requeue s f h hs := ⟨State.modes_kept.requeue s f h hs.1, hs.2.congr rfl rfl⟩
  evaluate s i w n hs := ⟨State.modes_kept.evaluate s i w n hs.1,
    hs.2.of_beyondWatch (s.evaluate_beyondWatch i w n true)⟩
  assessPile s w r i hs := ⟨State.modes_kept.assessPile s w r i hs.1,
    hs.2.of_beyondWatch (s.assessPile_beyondWatch w r i)⟩
  placeOrder s i r n h1 h2 hs := ⟨State.modes_kept.placeOrder s i r n h1 h2 hs.1,
    hs.2.of_beyondWatch (s.placeOrder_beyondWatch i r n)⟩
  withdrawOrder s i o h1 h2 hs := ⟨State.modes_kept.withdrawOrder s i o h1 h2 hs.1,
    hs.2.of_beyondWatch (s.withdrawOrder_beyondWatch o)⟩
  suspendPass s c p h hp hs := ⟨State.modes_kept.suspendPass s c p h hp hs.1,
    hs.2.of fun hm => hm.suspendPass h hp⟩
  holdPass s c p w m h hp hs := ⟨State.modes_kept.holdPass s c p w m h hp hs.1,
    hs.2.setContext h ⟨rfl, rfl, rfl, id⟩⟩
  finishBay s c p h hp hs := ⟨State.modes_kept.finishBay s c p h hp hs.1, hs.2.finishBay h⟩
  confirmFlow s m hs := ⟨State.modes_kept.confirmFlow s m hs.1, hs.2.confirmFlow m⟩
  loseFlow s m hs := ⟨State.modes_kept.loseFlow s m hs.1, hs.2.loseFlow m⟩
  primeOut s c p h ht hs := ⟨State.modes_kept.primeOut s c p h ht hs.1, hs.2.endPass h _ _ (.inl (by
    rw [((State.mainLaw_iff s).1 ((State.mainsAgree_iff s).1 hs.2)).2.2 c p h (by simp [ht])]
    decide)) _⟩
  clearFault s m h hs := ⟨State.modes_kept.clearFault s m h hs.1, hs.2.clearFault h⟩
  inflow s b v n hs := ⟨State.modes_kept.inflow s b v n hs.1, hs.2.of_beyondWater (s.takeInflow_beyondWater b v n)⟩
  gauge s b l n h hs := ⟨State.modes_kept.gauge s b l n h hs.1, hs.2.takeGauge b l n⟩
  isolate s y hs := ⟨State.modes_kept.isolate s y hs.1, hs.2.isolateSource y⟩
  restore s y hs := ⟨State.modes_kept.restore s y hs.1, hs.2.of_beyondWater (s.restoreSource_beyondWater y)⟩
  settled s b hs := ⟨State.modes_kept.settled s b hs.1, hs.2.of_beyondWater (s.settled_beyondWater b)⟩
  clearSpilled s hs := ⟨State.modes_kept.clearSpilled s hs.1, hs.2.congr rfl rfl⟩
  rolloverDay s hs := ⟨State.modes_kept.rolloverDay s hs.1, hs.2.of_beyondWater s.rolloverDay_beyondWater⟩
  holdYard s h hs := ⟨State.modes_kept.holdYard s h hs.1, hs.2.holdYard⟩
  drainYard s h hs := ⟨State.modes_kept.drainYard s h hs.1, s.drainYard_mainsAgree⟩
  resumeHeld s h hs := ⟨State.modes_kept.resumeHeld s h hs.1, hs.2.congr rfl rfl⟩
  resumeDrained s h hs := ⟨State.modes_kept.resumeDrained s h hs.1, State.closeMains_mainsAgree
    ((State.modeLaw_drained_iff h).1 ((State.modes_iff s).1 hs.1)).1⟩
  drained s m h hs := ⟨State.modes_kept.drained s m h hs.1, hs.2.drained hs.1 h⟩
  second s hs := ⟨State.modes_kept.second s hs.1, hs.2.second⟩
  resetWhole s a b hs := ⟨State.modes_kept.resetWhole s a b hs.1, State.mainsAgree_of_reset rfl rfl⟩
  resetCommand s hs := ⟨State.modes_kept.resetCommand s hs.1, State.mainsAgree_of_reset rfl rfl⟩

end

end Sys2Proof.Machine

/-! PROOFS. Each live pass is on a present pile that it alone engages, and an engaged pile has a live pass and no
order (03 R44, 05 R90). -/

namespace Sys2Proof.Machine

/-- The pile of the live pass in a context. -/
def State.passOn (s : State) (c : Fin 8) : Option (Fin 48) := (s.engine.contexts.get c).map (·.pile)

/-- A pile is engaged (03 R44). -/
def State.isEngaged (s : State) (i : Fin 48) : Bool := (s.watch.living.get i).engaged

section

variable {s t : State} {i : Fin 48} {c : Fin 8} {p q : Pass}

theorem State.passOn_eq_some : s.passOn c = some i ↔ ∃ p, s.engine.contexts.get c = some p ∧ p.pile = i := by
  simp [State.passOn]

theorem State.hasOrder_iff : s.hasOrder i = true ↔ ∃ o ∈ s.queue, o.pile = i := by
  simp [State.hasOrder, List.any_eq_true]

/-- The law, by the piles of the passes. -/
theorem State.engagedLaw_iff (s : State) : s.EngagedLaw ↔
    (∀ c i, s.passOn c = some i → (s.geometry.piles.get i).isSome = true ∧ s.isEngaged i = true)
    ∧ (∀ c d i, s.passOn c = some i → s.passOn d = some i → c = d)
    ∧ (∀ i, s.isEngaged i = true → ∃ c, s.passOn c = some i)
    ∧ ∀ i, s.isEngaged i = true → s.hasOrder i = false := by
  unfold State.EngagedLaw State.isEngaged
  refine and_congr ⟨fun h c i hc => ?_, fun h c p hp => h c p.pile (State.passOn_eq_some.2 ⟨p, hp, rfl⟩)⟩
    (and_congr ⟨fun h c d i hc hd => ?_, fun h c d p q hp hq hpq => ?_⟩ (and_congr
      (forall_congr' fun i => ?_) Iff.rfl))
  · obtain ⟨p, hp, rfl⟩ := State.passOn_eq_some.1 hc
    exact h c p hp
  · obtain ⟨p, hp, rfl⟩ := State.passOn_eq_some.1 hc
    obtain ⟨q, hq, hqp⟩ := State.passOn_eq_some.1 hd
    exact h c d p q hp hq hqp.symm
  · exact h c d p.pile (State.passOn_eq_some.2 ⟨p, hp, rfl⟩) (State.passOn_eq_some.2 ⟨q, hq, hpq.symm⟩)
  · simp only [State.passOn_eq_some]

/-- The law of the engaged piles, kept folded while it is carried through the steps. -/
@[irreducible] def State.Engages (s : State) : Prop := s.EngagedLaw

theorem State.engages_iff (s : State) : s.Engages ↔
    (∀ c i, s.passOn c = some i → (s.geometry.piles.get i).isSome = true ∧ s.isEngaged i = true)
    ∧ (∀ c d i, s.passOn c = some i → s.passOn d = some i → c = d)
    ∧ (∀ i, s.isEngaged i = true → ∃ c, s.passOn c = some i)
    ∧ ∀ i, s.isEngaged i = true → s.hasOrder i = false := by
  unfold State.Engages
  exact State.engagedLaw_iff s

theorem State.engages_iff_engagedLaw (s : State) : s.Engages ↔ s.EngagedLaw := by
  unfold State.Engages
  exact Iff.rfl

/-- The law is kept where the passes stay on their piles, the same piles are engaged, no pile goes, and no engaged
pile gets an order. -/
theorem State.Engages.congr (hs : s.Engages) (hon : ∀ c, t.passOn c = s.passOn c)
    (he : ∀ i, t.isEngaged i = s.isEngaged i)
    (hp : ∀ i, (s.geometry.piles.get i).isSome = true → (t.geometry.piles.get i).isSome = true)
    (ho : ∀ i, s.isEngaged i = true → t.hasOrder i = true → s.hasOrder i = true) : t.Engages := by
  obtain ⟨h1, h2, h3, h4⟩ := (State.engages_iff s).1 hs
  refine (State.engages_iff t).2 ⟨fun c i hc => ?_, fun c d i hc hd => ?_, fun i hi => ?_, fun i hi => ?_⟩
  · rw [hon] at hc
    rw [he]
    exact ⟨hp i (h1 c i hc).1, (h1 c i hc).2⟩
  · rw [hon] at hc hd
    exact h2 c d i hc hd
  · rw [he] at hi
    obtain ⟨c, hc⟩ := h3 i hi
    exact ⟨c, (hon c).trans hc⟩
  · rw [he] at hi
    have hn := h4 i hi
    by_contra hne
    rw [ho i hi (by simpa using hne)] at hn
    exact absurd hn (by simp)

/-! ## The operations of Pile Watch and the Order Queue -/

theorem State.mapLiving_isEngaged {f : Living → Living} (h : ∀ l, (f l).engaged = l.engaged) (j : Fin 48) :
    (s.mapLiving i f).isEngaged j = s.isEngaged j := by
  unfold State.isEngaged
  rw [State.mapLiving_watch_living, Table.get_modify]
  split
  · next hij => rw [h, hij]
  · rfl

/-- An operation gives no pile but `i` an order, and engages and frees none. -/
structure State.OrdersOnly (s : State) (i : Fin 48) (t : State) : Prop where
  engaged : ∀ j, t.isEngaged j = s.isEngaged j
  order : ∀ j, t.hasOrder j = true → s.hasOrder j = true ∨ j = i

theorem State.OrdersOnly.refl : s.OrdersOnly i s := ⟨fun _ => rfl, fun _ => .inl⟩

theorem State.OrdersOnly.trans {u : State} (h : s.OrdersOnly i t) (h' : t.OrdersOnly i u) : s.OrdersOnly i u :=
  ⟨fun j => (h'.engaged j).trans (h.engaged j), fun j hj => (h'.order j hj).elim (h.order j) .inr⟩

theorem State.OrdersOnly.askAllIf (h : s.OrdersOnly i t) (b : Bool) : s.OrdersOnly i (t.askAllIf b) := by
  cases b
  · exact h
  · exact ⟨h.engaged, h.order⟩

theorem State.dropOrder_ordersOnly (j : Fin 48) : s.OrdersOnly i (s.dropOrder j) := by
  refine ⟨fun k => (State.mapLiving_isEngaged ?_ k).trans rfl, fun k hk => .inl ?_⟩
  · exact fun _ => rfl
  obtain ⟨o, ho, rfl⟩ := State.hasOrder_iff.1 hk
  exact State.hasOrder_iff.2 ⟨o, List.mem_of_mem_filter ho, rfl⟩

theorem State.updateOrder_ordersOnly (o : Order) (f : Order → Order) : s.OrdersOnly i (s.updateOrder o f) := by
  unfold State.updateOrder
  apply State.OrdersOnly.askAllIf
  refine ⟨fun _ => rfl, fun j hj => .inl ?_⟩
  obtain ⟨y, hy, rfl⟩ := State.hasOrder_iff.1 hj
  obtain ⟨x, hx, rfl⟩ := List.mem_map.1 hy
  refine State.hasOrder_iff.2 ⟨x, hx, ?_⟩
  split <;> rfl

theorem State.appendOrder_ordersOnly (o : Order) : s.OrdersOnly o.pile (s.appendOrder o) := by
  refine ⟨fun k => (State.mapLiving_isEngaged (s := s.setQueue _) ?_ k).trans rfl, fun k hk => ?_⟩
  · exact fun _ => rfl
  obtain ⟨x, hx, rfl⟩ := State.hasOrder_iff.1 hk
  obtain hx | hx := List.mem_append.1 hx
  · exact .inl (State.hasOrder_iff.2 ⟨x, hx, rfl⟩)
  · exact .inr (by rw [List.mem_singleton.1 hx])

theorem State.mapLiving_ordersOnly (j : Fin 48) {f : Living → Living} (h : ∀ l, (f l).engaged = l.engaged) :
    s.OrdersOnly i (s.mapLiving j f) :=
  ⟨State.mapLiving_isEngaged h, fun _ => .inl⟩

theorem State.join_ordersOnly {o : Order} (h : s.join o = some t) : s.OrdersOnly o.pile t := by
  unfold State.join at h
  split at h
  · rw [← Option.some.inj h]
    exact State.appendOrder_ordersOnly o
  · split at h
    · next d _ =>
      rw [← Option.some.inj h]
      refine ((State.dropOrder_ordersOnly d.pile).trans (State.mapLiving_ordersOnly d.pile ?_)).trans
        (State.appendOrder_ordersOnly o)
      exact fun _ => rfl
    · exact absurd h (by simp)

theorem State.offer_ordersOnly (i : Fin 48) (u : Urgency) : s.OrdersOnly i (s.offer i u) := by
  unfold State.offer
  split
  · exact State.updateOrder_ordersOnly _ _
  · split
    · exact .refl
    · split
      · exact State.dropOrder_ordersOnly i
      · exact State.updateOrder_ordersOnly _ _
  · exact .refl
  · split
    · next h => exact State.join_ordersOnly h
    · exact State.mapLiving_ordersOnly i fun _ => rfl

/-- An offer is made for a pile that is not engaged alone (03 R57). -/
theorem State.offerRule_engages (hs : s.Engages) (i : Fin 48) : (s.offerRule i).Engages := by
  unfold State.offerRule
  split
  · exact hs
  · next he =>
    have key : (s.offer i (s.watch.living.get i).urgency).Engages := by
      have h := State.offer_ordersOnly (s := s) i (s.watch.living.get i).urgency
      have hc := (State.beyondWatch_fields (s.offer_beyondWatch i (s.watch.living.get i).urgency)).2.1
      have hg : (s.offer i (s.watch.living.get i).urgency).geometry = s.geometry :=
        congrArg Frame.geometry (s.offer_frame i _)
      refine hs.congr (fun c => by rw [State.passOn, hc]; rfl) h.engaged (fun j hj => by rwa [hg])
        fun j hj ho => (h.order j ho).resolve_right ?_
      rintro rfl
      exact he hj
    split
    · exact key
    · exact key
    · exact hs
    · exact hs

/-- What changes neither the passes nor the orders nor what is engaged keeps the law. -/
theorem State.Engages.of_same (hs : s.Engages) (hc : t.engine.contexts = s.engine.contexts)
    (he : ∀ i, t.isEngaged i = s.isEngaged i) (hg : t.geometry.piles = s.geometry.piles) (hq : t.queue = s.queue) :
    t.Engages :=
  hs.congr (fun c => by rw [State.passOn, hc]; rfl) he (fun i hi => by rwa [hg])
    fun i _ ho => by rwa [State.hasOrder, hq] at ho

theorem State.countMust_living (s : State) (i : Fin 48) (a b : Urgency) :
    (s.countMust i a b).watch.living = s.watch.living := by
  unfold State.countMust
  dsimp only
  repeat' split
  all_goals rfl

theorem State.evaluatedAt_isEngaged (s : State) (i : Fin 48) (x : Pile) (w : WindBasis) (counts : Bool)
    (j : Fin 48) : (s.evaluatedAt i x w counts).isEngaged j = s.isEngaged j := by
  unfold State.evaluatedAt State.isEngaged
  rw [State.countMust_living, State.reportGap_watch, State.mapLiving_watch_living, Table.get_modify]
  split
  · next h => rw [← h]; rfl
  · rfl

theorem State.evaluatedAt_beyondWatch (s : State) (i : Fin 48) (x : Pile) (w : WindBasis) (counts : Bool) :
    (s.evaluatedAt i x w counts).beyondWatch = s.beyondWatch := by
  unfold State.evaluatedAt State.reportGap
  rw [State.countMust_beyondWatch]
  split <;> rfl

theorem State.evaluatedAt_frame (s : State) (i : Fin 48) (x : Pile) (w : WindBasis) (counts : Bool) :
    (s.evaluatedAt i x w counts).frame = s.frame := by
  unfold State.evaluatedAt State.reportGap
  rw [State.countMust_frame]
  split <;> rfl

theorem State.Engages.evaluate (hs : s.Engages) (i : Fin 48) (w : WindBasis) (counts offers : Bool) :
    (s.evaluate i w counts offers).Engages := by
  cases hp : s.geometry.piles.get i with
  | none => rwa [State.evaluate_of_absent hp]
  | some x =>
    have he : (s.evaluatedAt i x w counts).Engages := hs.of_same
      (State.beyondWatch_fields (s.evaluatedAt_beyondWatch i x w counts)).2.1
      (s.evaluatedAt_isEngaged i x w counts) (congrArg (·.geometry.piles) (s.evaluatedAt_frame i x w counts))
      (s.evaluatedAt_queue i x w counts)
    rw [State.evaluate_of_present hp]
    cases offers
    · exact he
    · exact State.offerRule_engages he i

theorem State.Engages.mapLiving (hs : s.Engages) (i : Fin 48) {f : Living → Living}
    (h : ∀ l, (f l).engaged = l.engaged) : (s.mapLiving i f).Engages :=
  hs.of_same rfl (State.mapLiving_isEngaged h) rfl rfl

theorem State.Engages.creditPass (hs : s.Engages) (r : EndReport) (bed : Fin 8) : (s.creditPass r bed).Engages :=
  State.Engages.of_same (State.Engages.mapLiving (i := r.pile) (f := fun l =>
    { l with
      moisture := min 100 (l.moisture + s.gainOf r.cannon * r.baysDone / r.baysPlanned)
      deferral := 0, escalated := false, sweepDue := false
      bedMark := s.watch.passCount.get bed + 1 }) hs fun _ => rfl) rfl (fun _ => rfl) rfl rfl

theorem State.Engages.sweepTest (hs : s.Engages) (bed : Fin 8) (i : Fin 48) : (s.sweepTest bed i).Engages := by
  refine s.forEach_inv State.Engages _ _ (fun t j _ ht => ?_) hs
  split
  · split
    · refine State.offerRule_engages (ht.mapLiving j ?_) j
      exact fun _ => rfl
    · exact ht
  · exact ht

theorem State.Engages.assessPile (hs : s.Engages) (w : WindBasis) (rain : Bool) (i : Fin 48) :
    (s.assessPile w rain i).Engages := by
  unfold State.assessPile
  dsimp only
  split
  · exact hs
  · refine State.Engages.mapLiving (State.Engages.evaluate (hs.mapLiving i ?_) i w _ true) i ?_
    · exact fun _ => rfl
    · exact fun _ => rfl

theorem State.Engages.placeOrder (hs : s.Engages) (i : Fin 48) (r : Priority) (n : Option (Fin 24))
    (he : (s.watch.living.get i).engaged = false) : (s.placeOrder i r n).1.Engages := by
  have h : s.OrdersOnly i (s.placeOrder i r n).1 := by
    unfold State.placeOrder
    split
    · exact (State.updateOrder_ordersOnly _ _).askAllIf _
    · split
      · next h => exact State.join_ordersOnly h
      · exact .refl
  refine hs.congr (fun c => ?_) h.engaged (fun j hj => ?_) fun j hj ho => (h.order j ho).resolve_right ?_
  · rw [State.passOn, (State.beyondWatch_fields (s.placeOrder_beyondWatch i r n)).2.1]
    rfl
  · rwa [show (s.placeOrder i r n).1.geometry = s.geometry from
      congrArg Frame.geometry (s.placeOrder_frame i r n)]
  · rintro rfl
    exact absurd hj (by simp [State.isEngaged, he])

/-! ## Pass ends -/

/-- The pile of a pass that has left its context, disengaged, meets the law again (03 R44). -/
theorem State.Engages.freed {f : Living → Living} (hs : s.Engages) (h : s.engine.contexts.get c = some p)
    (hc : t.engine.contexts = s.engine.contexts.put c none) (hl : t.watch.living = s.watch.living)
    (hg : t.geometry.piles = s.geometry.piles) (hq : t.queue = s.queue) (hf : ∀ l, (f l).engaged = false) :
    (t.mapLiving p.pile f).Engages := by
  obtain ⟨h1, h2, h3, h4⟩ := (State.engages_iff s).1 hs
  have hpc : s.passOn c = some p.pile := State.passOn_eq_some.2 ⟨p, h, rfl⟩
  have hon : ∀ d, (t.mapLiving p.pile f).passOn d = if c = d then none else s.passOn d := by
    intro d
    unfold State.passOn
    rw [State.mapLiving_engine, hc, Table.get_put]
    split <;> rfl
  have he : ∀ j, (t.mapLiving p.pile f).isEngaged j = if p.pile = j then false else s.isEngaged j := by
    intro j
    unfold State.isEngaged
    rw [State.mapLiving_watch_living, Table.get_modify, hl]
    split
    · exact hf _
    · rfl
  refine (State.engages_iff _).2 ⟨fun d i hd => ?_, fun d e i hd he => ?_, fun i hi => ?_, fun i hi => ?_⟩
  · rw [hon] at hd
    split at hd
    · exact absurd hd (by simp)
    · next hcd =>
      have hne : p.pile ≠ i := by
        rintro rfl
        exact hcd (h2 c d p.pile hpc hd)
      rw [he, if_neg hne]
      refine ⟨?_, (h1 d i hd).2⟩
      rw [State.mapLiving_geometry, hg]
      exact (h1 d i hd).1
  · rw [hon] at hd he
    split at hd
    · exact absurd hd (by simp)
    · split at he
      · exact absurd he (by simp)
      · exact h2 d e i hd he
  · rw [he] at hi
    split at hi
    · exact absurd hi (by simp)
    · next hne =>
      obtain ⟨d, hd⟩ := h3 i hi
      have hcd : c ≠ d := by
        rintro rfl
        exact hne (Option.some.inj (hpc.symm.trans hd))
      exact ⟨d, by rw [hon, if_neg hcd, hd]⟩
  · rw [he] at hi
    split at hi
    · exact absurd hi (by simp)
    · have hho : (t.mapLiving p.pile f).hasOrder i = s.hasOrder i := by
        unfold State.hasOrder
        rw [State.mapLiving_queue, hq]
      rw [hho]
      exact h4 i hi

/-- A pass end frees its pile before anything is offered for it (03 R44, R61). -/
theorem State.Engages.endPass (hs : s.Engages) (x : Option (Fin 5)) (c : Fin 8) (e : PassEnd) (offers : Bool) :
    (s.endPass x c e offers).Engages := by
  cases h : s.engine.contexts.get c with
  | none => rwa [State.endPass_of_free h]
  | some p =>
    have hpres : (s.geometry.piles.get p.pile).isSome = true :=
      (((State.engages_iff s).1 hs).1 c p.pile (State.passOn_eq_some.2 ⟨p, h, rfl⟩)).1
    have hu : ∀ u : State, u = (((s.settle x p (p.finalDelivered e)).mainAfterEnd p e).setContext c none) →
        (u.takeEndReport (p.report e (p.finalDelivered e)) offers).Engages := by
      intro u hu
      have hyard : u.yard = s.yard := by rw [hu]; simp
      have hctx : u.engine.contexts = s.engine.contexts.put c none := by rw [hu]; simp
      have hpu : (u.geometry.piles.get p.pile).isSome = true := by
        rw [show u.geometry.piles = s.geometry.piles from congrArg Yard.piles hyard]
        exact hpres
      have hw : ∀ f : Living → Living, (∀ l, (f l).engaged = false) → (u.mapLiving p.pile f).Engages := fun f =>
        hs.freed h hctx (congrArg Yard.living hyard) (congrArg Yard.piles hyard) (congrArg Yard.queue hyard)
      obtain ⟨y, hy⟩ := Option.isSome_iff_exists.1 hpu
      unfold State.takeEndReport
      have hy' : u.geometry.piles.get (p.report e (p.finalDelivered e)).pile = some y := hy
      simp only [hy']
      refine State.Engages.evaluate ?_ _ _ _ _
      split
      · exact State.Engages.sweepTest (State.Engages.creditPass (hw _ fun _ => rfl) _ _) _ _
      · exact hw _ fun _ => rfl
    rw [State.endPass_of_live h]
    refine State.Engages.of_same (hu _ rfl) ?_ (fun _ => ?_) ?_ ?_
    · simp
    · simp [State.isEngaged]
      rfl
    · simp
      rfl
    · simp
      rfl

/-! ## Requests (05 R101, R102) -/

theorem selectCandidate_mem {cs : List Candidate} {o : Option (Fin 6)} {k : Candidate}
    (h : selectCandidate cs o = some k) : k ∈ cs := by
  unfold selectCandidate at h
  dsimp only at h
  split at h
  · next c hc =>
    rw [← Option.some.inj h]
    exact List.mem_of_mem_filter (List.mem_of_find?_eq_some hc)
  · exact List.mem_of_mem_filter (List.mem_of_head? h)

theorem State.mem_candidates {m : Fin 4} {k : Candidate} (h : k ∈ s.candidates m) :
    k.order ∈ s.queue ∧ s.judge m k.order = .candidate k.cannon k.source := by
  obtain ⟨o, ho, hk⟩ := List.mem_filterMap.1 h
  split at hk
  · next a b hj =>
    rw [← Option.some.inj hk]
    exact ⟨ho, hj⟩
  · exact absurd hk (by simp)

/-- The cannon taken is one of the eligible ones, as it stands (06 R112). -/
theorem State.bestCannon_spec {x : Pile} {l : List (Fin 24)} {k : Fin 24} {g : Cannon}
    (h : s.bestCannon x l = some (k, g)) : k ∈ l ∧ s.geometry.cannons.get k = some g := by
  have key : ∀ y, s.bestCannon x l = some y → y.1 ∈ l ∧ s.geometry.cannons.get y.1 = some y.2 := by
    unfold State.bestCannon
    refine List.foldlRecOn (motive := fun best : Option (Fin 24 × Cannon) =>
      ∀ y, best = some y → y.1 ∈ l ∧ s.geometry.cannons.get y.1 = some y.2) _ _ (by simp) ?_
    intro best hb j hj y hy
    split at hy
    · exact hb y hy
    · next a ha =>
      split at hy
      · split at hy
        · rw [← Option.some.inj hy]
          exact ⟨hj, ha⟩
        · exact hb y hy
      · rw [← Option.some.inj hy]
        exact ⟨hj, ha⟩
  exact key (k, g) h

/-- What a judgement as a candidate has found (05 R101). -/
theorem State.judge_candidate {m : Fin 4} {o : Order} {k : Fin 24} {y : Fin 6}
    (h : s.judge m o = .candidate k y) :
    ∃ x g, s.geometry.piles.get o.pile = some x ∧ s.geometry.cannons.get k = some g
      ∧ s.usable o x k = true
      ∧ s.chooseSource m (s.watch.grades.get x.grade).clarityLimit o.rank (g.plannedVolume s.geometry x)
          = some y := by
  unfold State.judge at h
  split at h
  · exact absurd h (by simp)
  · next x hx =>
    dsimp only at h
    split at h
    · exact absurd h (by simp)
    · split at h
      · exact absurd h (by simp)
      · split at h
        · exact absurd h (by simp)
        · split at h
          · exact absurd h (by simp)
          · next a g hb =>
            split at h
            · exact absurd h (by simp)
            · next z hz =>
              obtain ⟨rfl, rfl⟩ := Judgement.candidate.inj h
              obtain ⟨hmem, hg⟩ := State.bestCannon_spec hb
              simp only [List.mem_filter] at hmem
              exact ⟨x, g, hx, hg, hmem.1.1.2, hz⟩

/-- What a request comes to: reasons recorded, and the prime of a new pass where an order was selected (05 R101,
06 R111, R115). -/
theorem State.requestAndStart_spec (s : State) (x : Option (Fin 5)) (m : Fin 4) (c : Fin 8) :
    s.requestAndStart x m c = s.recordReasons m
    ∨ ∃ (k : Candidate) (y : Pile) (g : Cannon), k.order ∈ s.queue ∧ s.judge m k.order = .candidate k.cannon k.source
        ∧ s.geometry.piles.get k.order.pile = some y ∧ s.geometry.cannons.get k.cannon = some g
        ∧ s.requestAndStart x m c
          = (((s.recordReasons m).takeOrder k.order.pile).reserve k.source (g.plannedVolume s.geometry y)).prime x c
              (newPass s.geometry k.order.pile y k.cannon g m k.source (s.water.clarity k.source)) := by
  obtain h | ⟨k, hk, h⟩ := s.requestAndStart_cases x m c
  · exact .inl h
  · obtain ⟨hmem, hj⟩ := State.mem_candidates (selectCandidate_mem hk)
    obtain ⟨y, g, hy, hg, -, -⟩ := State.judge_candidate hj
    have hgeo : ((s.recordReasons m).takeOrder k.order.pile).geometry = s.geometry :=
      congrArg Frame.geometry (((s.recordReasons m).takeOrder_frame k.order.pile).trans (s.recordReasons_frame m))
    have hwat : ((s.recordReasons m).takeOrder k.order.pile).water = s.water :=
      (State.beyondWatch_fields
        (((s.recordReasons m).takeOrder_beyondWatch k.order.pile).trans (s.recordReasons_beyondWatch m))).2.2.1
    refine .inr ⟨k, y, g, hmem, hj, hy, hg, ?_⟩
    rw [h]
    unfold State.startPass
    simp only [hgeo, hwat, hy, hg]
    rfl

/-! ## Primes -/

theorem State.passOn_setContext (s : State) (c : Fin 8) (o : Option Pass) (d : Fin 8) :
    (s.setContext c o).passOn d = if c = d then o.map (·.pile) else s.passOn d := by
  unfold State.passOn
  rw [State.setContext_engine_contexts, Table.get_put]
  split <;> rfl

/-- A live pass stays on its pile. -/
theorem State.Engages.setContext (hs : s.Engages) (h : s.engine.contexts.get c = some p) (hq : q.pile = p.pile) :
    (s.setContext c (some q)).Engages := by
  refine hs.congr (fun d => ?_) (fun _ => rfl) (fun _ => id) fun _ _ => id
  rw [State.passOn_setContext]
  split
  · next hd =>
    subst hd
    exact (State.passOn_eq_some.2 ⟨p, h, hq.symm⟩).symm
  · rfl

theorem State.Engages.mapMain (hs : s.Engages) (m : Fin 4) (f : Main → Main) : (s.mapMain m f).Engages :=
  hs.of_same rfl (fun _ => rfl) rfl rfl

theorem State.Engages.follow (hs : s.Engages) : s.follow.Engages := by
  refine hs.of_same (by simp) (fun j => ?_) (by simp) (by simp)
  rw [State.isEngaged, State.follow_watch]
  rfl

theorem State.Engages.of_beyondWater (hs : s.Engages) (h : t.beyondWater = s.beyondWater) : t.Engages := by
  obtain ⟨-, hc, hw, hq, -⟩ := State.beyondWater_fields h
  have hg : t.geometry = s.geometry := congrArg (·.geometry) h
  exact hs.of_same hc (fun j => by rw [State.isEngaged, hw]; rfl) (by rw [hg]) hq

/-- A prime that finds its context filled and its pile engaged keeps the law. -/
theorem State.Engages.prime (hs : (s.selected c p).Engages) (x : Option (Fin 5)) : (s.prime x c p).Engages := by
  cases h : s.flowActive p.main with
  | true =>
    rw [State.prime_of_flow h]
    exact hs.follow.endPass x c _ true
  | false =>
    rw [State.prime_of_quiet h]
    refine State.Engages.follow ((hs.mapMain _ _).setContext (p := { p with prime := s.primeKind p.main p.source })
      ?_ ?_)
    · simp [State.selected]
    · rfl

/-- An order taken for a pass in a FREE context: its pile is engaged, and it alone (03 R44, 05 R102). -/
theorem State.Engages.taken (hs : s.Engages) (hc : s.engine.contexts.get c = none)
    (ho : s.hasOrder q.pile = true) (hp : (s.geometry.piles.get q.pile).isSome = true)
    (hctx : t.engine.contexts = s.engine.contexts.put c (some q))
    (he : ∀ j, t.isEngaged j = if q.pile = j then true else s.isEngaged j)
    (hg : t.geometry.piles = s.geometry.piles)
    (hq : ∀ j, t.hasOrder j = true → s.hasOrder j = true ∧ j ≠ q.pile) : t.Engages := by
  obtain ⟨h1, h2, h3, h4⟩ := (State.engages_iff s).1 hs
  have hfree : ∀ d, s.passOn d ≠ some q.pile := by
    intro d hd
    have hn := h4 _ (h1 d _ hd).2
    rw [ho] at hn
    exact absurd hn (by simp)
  have hcn : s.passOn c = none := by simp [State.passOn, hc]
  have hon : ∀ d, t.passOn d = if c = d then some q.pile else s.passOn d := by
    intro d
    unfold State.passOn
    rw [hctx, Table.get_put]
    split <;> rfl
  refine (State.engages_iff _).2 ⟨fun d i hd => ?_, fun d e i hd he => ?_, fun i hi => ?_, fun i hi => ?_⟩
  · rw [hon] at hd
    rw [hg, he]
    split at hd
    · obtain rfl := Option.some.inj hd
      exact ⟨hp, if_pos rfl⟩
    · have hne : q.pile ≠ i := fun h => hfree d (h ▸ hd)
      rw [if_neg hne]
      exact h1 d i hd
  · rw [hon] at hd he
    split at hd
    · next hcd =>
      split at he
      · next hce => exact hcd.symm.trans hce
      · exact absurd (he.trans hd.symm) (hfree e)
    · split at he
      · exact absurd (hd.trans he.symm) (hfree d)
      · exact h2 d e i hd he
  · rw [he] at hi
    split at hi
    · next h => exact ⟨c, by rw [hon, if_pos rfl, h]⟩
    · obtain ⟨d, hd⟩ := h3 i hi
      have hcd : c ≠ d := by
        rintro rfl
        rw [hcn] at hd
        exact absurd hd (by simp)
      exact ⟨d, by rw [hon, if_neg hcd, hd]⟩
  · rw [he] at hi
    by_contra hne
    obtain ⟨hso, hnq⟩ := hq i (by simpa using hne)
    rw [if_neg hnq.symm] at hi
    rw [h4 i hi] at hso
    exact absurd hso (by simp)

theorem State.recordReasons_hasOrder (s : State) (m : Fin 4) (j : Fin 48) :
    (s.recordReasons m).hasOrder j = s.hasOrder j := by
  unfold State.recordReasons State.hasOrder
  rw [State.forEach_keeps _ (·.queue) _ _ fun t o => t.raise_queue _ _]
  simp [List.any_map]
  rfl

theorem State.recordReasons_living (s : State) (m : Fin 4) :
    (s.recordReasons m).watch.living = s.watch.living := by
  unfold State.recordReasons
  rw [State.forEach_keeps _ (·.watch.living) _ _ fun t o => by rw [State.raise_watch]]
  rfl

theorem State.takeOrder_hasOrder (s : State) (i j : Fin 48) (h : (s.takeOrder i).hasOrder j = true) :
    s.hasOrder j = true ∧ j ≠ i := by
  obtain ⟨o, ho, rfl⟩ := State.hasOrder_iff.1 h
  have hf : o ∈ s.queue.filter fun o => o.pile != i := ho
  obtain ⟨hq, hne⟩ := List.mem_filter.1 hf
  exact ⟨State.hasOrder_iff.2 ⟨o, hq, rfl⟩, by simpa using hne⟩

theorem State.takeOrder_isEngaged (s : State) (i j : Fin 48) :
    (s.takeOrder i).isEngaged j = if i = j then true else s.isEngaged j := by
  unfold State.takeOrder State.dropOrder State.isEngaged
  by_cases h : i = j
  · subst h
    simp
  · simp [h]

/-- The state in which a request finds the flow confirm line, its pass in its context (06 R115). -/
theorem State.Engages.selected (hs : s.Engages) (hc : s.engine.contexts.get c = none)
    (ho : s.hasOrder q.pile = true) (hp : (s.geometry.piles.get q.pile).isSome = true) (m : Fin 4) (y : Fin 6)
    (v : Nat) : ((((s.recordReasons m).takeOrder q.pile).reserve y v).selected c q).Engages := by
  have hyard : ((((s.recordReasons m).takeOrder q.pile).reserve y v).selected c q).yard
      = ((s.recordReasons m).takeOrder q.pile).yard :=
    (State.selected_yard _ c q).trans (State.reserve_yard _ y v)
  have hctx : ((((s.recordReasons m).takeOrder q.pile).reserve y v).selected c q).engine.contexts
      = s.engine.contexts.put c (some { q with
          prime := (((s.recordReasons m).takeOrder q.pile).reserve y v).primeKind q.main q.source }) := by
    simp [State.selected]
  refine State.Engages.taken hs hc (q := { q with
    prime := (((s.recordReasons m).takeOrder q.pile).reserve y v).primeKind q.main q.source })
    ho hp hctx (fun j => ?_) ?_ fun j hj => ?_
  · have hl := congrArg Yard.living hyard
    have he := State.takeOrder_isEngaged (s.recordReasons m) q.pile j
    rw [State.isEngaged, show (State.watch _).living = _ from hl]
    refine he.trans ?_
    rw [State.isEngaged, State.isEngaged, State.recordReasons_living]
  · refine (congrArg Yard.piles hyard).trans ?_
    exact congrArg (·.geometry.piles)
      (((s.recordReasons m).takeOrder_frame q.pile).trans (s.recordReasons_frame m))
  · have hq := congrArg Yard.queue hyard
    rw [State.hasOrder, show State.queue _ = _ from hq] at hj
    obtain ⟨h1, h2⟩ := State.takeOrder_hasOrder (s.recordReasons m) q.pile j hj
    exact ⟨(State.recordReasons_hasOrder s m j).symm.trans h1, h2⟩

/-- A request engages the pile whose order it takes, for the pass that it starts. -/
theorem State.Engages.requestAndStart (hs : s.Engages) {m : Fin 4} (hc : s.freeContext = some c)
    (x : Option (Fin 5)) : (s.requestAndStart x m c).Engages := by
  have hr : (s.recordReasons m).Engages := by
    refine hs.congr (fun d => ?_) (fun j => ?_) (fun j hj => ?_) fun j _ ho => ?_
    · rw [State.passOn, State.recordReasons_engine]
      rfl
    · rw [State.isEngaged, State.recordReasons_living]
      rfl
    · rwa [show (s.recordReasons m).geometry = s.geometry from congrArg Frame.geometry (s.recordReasons_frame m)]
    · rwa [State.recordReasons_hasOrder] at ho
  obtain h | ⟨k, y, g, hmem, hj, hy, hg, h⟩ := s.requestAndStart_spec x m c
  · rw [h]
    exact hr
  · have hord : s.hasOrder k.order.pile = true := State.hasOrder_iff.2 ⟨_, hmem, rfl⟩
    rw [h]
    generalize hq : newPass s.geometry k.order.pile y k.cannon g m k.source (s.water.clarity k.source) = q
    have hqp : q.pile = k.order.pile := by rw [← hq]; rfl
    rw [← hqp] at hy hord ⊢
    exact State.Engages.prime (hs.selected (State.freeContext_spec hc) hord (by rw [hy]; rfl) m _ _) x

theorem State.engages_attempts (x : Option (Fin 5)) : KeptByAttempts x State.Engages where
  core s := by
    rw [State.engages_iff_engagedLaw, State.engages_iff_engagedLaw]
    exact Iff.rfl
  endPass _ c e _ hs := hs.endPass x c e true
  resume _ c p hp _ _ hs := by
    refine State.Engages.prime (p := { p with limitTimer := none, since := none }) ?_ x
    exact State.Engages.setContext (hs.mapMain _ _) hp rfl
  request _ _ _ _ hc hs := hs.requestAndStart hc x

/-! ## The effects -/

theorem Pass.moveCursor_pile (p : Pass) (rest : List Nat) : (p.moveCursor rest).pile = p.pile := by
  unfold Pass.moveCursor
  split <;> rfl

theorem Pass.trimmed_pile (p : Pass) (start length : Nat) : (p.trimmed start length).pile = p.pile := by
  unfold Pass.trimmed Pass.moveCursor
  dsimp only
  repeat' split
  all_goals rfl

theorem State.Engages.finishBay (hs : s.Engages) (h : s.engine.contexts.get c = some p) :
    (s.finishBay none c p).Engages := by
  have hl : (({ p with baysDone := p.baysDone + 1 } : Pass).moveCursor p.rest.tail).pile = p.pile :=
    Pass.moveCursor_pile _ _
  unfold State.finishBay
  dsimp only
  split
  · exact (hs.setContext h hl).endPass _ _ _ _
  · refine hs.setContext h ?_
    exact hl

theorem State.Engages.confirmFlow (hs : s.Engages) (m : Fin 4) : (s.confirmFlow m).Engages := by
  unfold State.confirmFlow
  dsimp only
  split
  · split
    · exact hs
    · split
      · exact hs
      · next p hp =>
        split
        · refine State.Engages.finishBay (State.Engages.follow (State.Engages.setContext (hs.mapMain m _) hp ?_)) ?_
          · rfl
          · simp
        · refine State.Engages.follow (State.Engages.setContext (hs.mapMain m _) hp ?_)
          rfl
  · exact hs

theorem State.Engages.loseFlow (hs : s.Engages) (m : Fin 4) : (s.loseFlow m).Engages := by
  unfold State.loseFlow
  dsimp only
  split
  · split
    · exact hs
    · exact hs.endPass _ _ _ _
  · exact hs

theorem State.Engages.ask (hs : s.Engages) (m : Fin 4) : (s.ask m).Engages := hs.of_same rfl (fun _ => rfl) rfl rfl

theorem State.Engages.countSuspension (hs : s.Engages) : s.countSuspension.Engages :=
  hs.of_same rfl (fun _ => rfl) rfl rfl

theorem State.Engages.suspendPass (hs : s.Engages) (h : s.engine.contexts.get c = some p) :
    (s.suspendPass c p).Engages := by
  unfold State.suspendPass
  dsimp only
  refine State.Engages.follow (State.Engages.ask ?_ _)
  have hd : (((s.mapMain p.main fun x => { x with state := .opened, openSource := some p.source, context := none
      }).setContext c (some (State.suspended (s.mapMain p.main fun x =>
        { x with state := .opened, openSource := some p.source, context := none }) p))).countSuspension.deduct
          p.source (p.delivered - p.deducted)).Engages := by
    refine State.Engages.of_beyondWater (State.Engages.countSuspension ?_) (State.deduct_beyondWater _ _ _)
    refine State.Engages.setContext (hs.mapMain _ _) h ?_
    rfl
  split
  · exact hd.of_beyondWater (State.lowTestUnless_beyondWater _ _ _)
  · exact hd

theorem State.Engages.setExclusion (hs : s.Engages) (i : Fin 16) (e : Option Exclusion) :
    (s.setExclusion i e).Engages :=
  hs.of_same rfl (fun _ => rfl) rfl rfl

theorem State.Engages.trimPasses (hs : s.Engages) (bed : Fin 8) (start length : Nat) :
    (s.trimPasses bed start length).Engages := by
  refine s.forEach_inv State.Engages _ _ (fun t c _ ht => ?_) hs
  split
  · next p hp =>
    split
    · have hr : ((t.setContext c (some (p.trimmed start length))).release p.source
          (p.planned - (p.trimmed start length).planned)).Engages :=
        (ht.setContext hp (p.trimmed_pile start length)).of_beyondWater (State.release_beyondWater _ _ _)
      unfold State.trimPass
      dsimp only
      split
      · exact (State.engages_attempts none).runAttempts (hr.endPass _ _ _ _)
      · exact hr
    · exact ht
  · exact ht

theorem State.Engages.mapBasin (hs : s.Engages) (b : Fin 5) (f : Basin → Basin) : (s.mapBasin b f).Engages :=
  hs.of_beyondWater rfl

theorem State.Engages.moveBaselines (hs : s.Engages) (b : Fin 5) : (s.moveBaselines b).Engages := by
  refine s.forEach_inv State.Engages _ _ (fun t c _ ht => ?_) hs
  split
  · next p hp =>
    split
    · refine State.Engages.setContext (ht.mapBasin b _) hp ?_
      rfl
    · exact ht
  · exact ht

theorem State.Engages.takeGauge (hs : s.Engages) (b : Fin 5) (level clarity : Nat) :
    (s.takeGauge b level clarity).Engages := by
  have hl : ((((s.moveBaselines b).mapBasin b fun y => { y with level, baseClarity := clarity, clarity })).lowTest
      b).Engages :=
    ((hs.moveBaselines b).mapBasin b _).of_beyondWater (State.lowTest_beyondWater _ _)
  unfold State.takeGauge
  dsimp only
  refine State.Engages.of_beyondWater ?_ (State.reportRise_beyondWater _ _ _)
  split
  · unfold State.cutLow
    exact (((State.engages_attempts (some b)).endWhere (by simp) _ hl).of_beyondWater
      (State.lowTest_beyondWater _ _)).of_beyondWater (State.reportReady_beyondWater _ _ _)
  · exact hl

theorem State.Engages.closeSource (hs : s.Engages) (x : Fin 6) : (s.closeSource x).Engages := by
  refine s.forEach_inv State.Engages _ _ (fun t m _ ht => ?_) hs
  split
  · exact (ht.mapMain m _).follow
  · exact ht

theorem State.Engages.isolateSource (hs : s.Engages) (x : Fin 6) : (s.isolateSource x).Engages := by
  unfold State.isolateSource
  exact ((State.engages_attempts none).endWhere (by simp) _
    (hs.of_beyondWater (s.setIsolated_beyondWater x true))).closeSource x

theorem State.Engages.setMode (hs : s.Engages) (m : YardMode) : (s.setMode m).Engages :=
  hs.of_same rfl (fun _ => rfl) rfl rfl

theorem State.Engages.holdYard (hs : s.Engages) : s.holdYard.Engages := by
  unfold State.holdYard State.holdPasses
  refine State.forEach_inv _ State.Engages _ _ (fun t m _ ht => ?_)
    ((State.engages_attempts none).endWhere (by simp) _ (hs.setMode _))
  split
  · exact ht
  · exact ht.mapMain m _

theorem State.Engages.dropOrder (hs : s.Engages) (i : Fin 48) : (s.dropOrder i).Engages := by
  have h : s.OrdersOnly i (s.dropOrder i) := State.dropOrder_ordersOnly i
  refine hs.congr (fun _ => rfl) h.engaged (fun _ => id) fun j _ hj => ?_
  obtain ⟨o, ho, rfl⟩ := State.hasOrder_iff.1 hj
  exact State.hasOrder_iff.2 ⟨o, List.mem_of_mem_filter ho, rfl⟩

theorem State.Engages.startDrainTimers (hs : s.Engages) : s.startDrainTimers.Engages :=
  hs.of_same rfl (fun _ => rfl) rfl rfl

theorem State.Engages.drainYard (hs : s.Engages) : s.drainYard.Engages := by
  unfold State.drainYard State.drainPasses
  refine State.forEach_inv _ State.Engages _ _ (fun t i _ ht => ht.dropOrder i) (State.Engages.startDrainTimers ?_)
  exact State.forEach_inv _ State.Engages _ _ (fun t m _ ht => ht.mapMain m _)
    ((State.engages_attempts none).endWhere (by simp) _ (hs.setMode _))

theorem State.Engages.closeMains (hs : s.Engages) : s.closeMains.Engages :=
  State.forEach_inv _ State.Engages _ _ (fun _ m _ ht => ht.mapMain m _) hs

theorem State.Engages.drained (hs : s.Engages) (m : Fin 4) : (s.drained m).Engages := by
  unfold State.drained
  dsimp only
  split <;> exact hs.of_same rfl (fun _ => rfl) rfl rfl

theorem State.Engages.second (hs : s.Engages) : s.second.Engages := by
  refine hs.congr (fun c => ?_) (fun _ => rfl) (fun _ => id) fun _ _ => id
  unfold State.passOn State.second
  rw [Table.get_tab, Option.map_map]
  congr 1
  funext p
  unfold Pass.second
  dsimp only [Function.comp]
  split <;> rfl

/-- An absent pile is not engaged. -/
theorem State.Engages.not_engaged_of_absent (hs : s.Engages) (h : s.geometry.piles.get i = none) :
    (s.watch.living.get i).engaged = false := by
  obtain ⟨h1, -, h3, -⟩ := (State.engages_iff s).1 hs
  by_contra hne
  obtain ⟨c, hc⟩ := h3 i (by simpa [State.isEngaged] using hne)
  have hp := (h1 c i hc).1
  rw [h] at hp
  exact absurd hp (by simp)

theorem State.Engages.place (hs : s.Engages) (i : Fin 48) (x : Pile) (n : Nat) (count : Word16) :
    (({ s with geometry := s.geometry.placePile i x } : State).mapLiving i fun l =>
      l.atCommit (s.geometry.piles.get i) x n count).Engages := by
  refine hs.congr (fun _ => rfl) (fun j => ?_) (fun j hj => ?_) fun _ _ => id
  · unfold State.isEngaged
    rw [State.mapLiving_watch_living, Table.get_modify]
    split
    · next hij =>
      subst hij
      unfold Living.atCommit
      split
      · next h => exact (hs.not_engaged_of_absent h).symm
      · split <;> rfl
    · rfl
  · show ((s.geometry.piles.put i (some x)).get j).isSome = true
    rw [Table.get_put]
    split
    · rfl
    · exact hj

theorem State.Engages.requeue (hs : s.Engages) (f : Order → Order) (hf : ∀ o, (f o).pile = o.pile) :
    (s.setQueue (s.queue.map f)).Engages := by
  refine hs.congr (fun _ => rfl) (fun _ => rfl) (fun _ => id) fun j _ hj => ?_
  obtain ⟨o, ho, rfl⟩ := State.hasOrder_iff.1 hj
  obtain ⟨x, hx, rfl⟩ := List.mem_map.1 ho
  exact State.hasOrder_iff.2 ⟨x, hx, (hf x).symm⟩

theorem State.Engages.askAll (hs : s.Engages) : s.askAll.Engages := hs.of_same rfl (fun _ => rfl) rfl rfl

theorem State.Engages.installPile (hs : s.Engages) (i : Fin 48) (x : Pile) (n : Nat) :
    (s.installPile i x n).Engages := by
  unfold State.installPile State.reevaluate
  exact State.Engages.askAll (State.Engages.requeue (State.Engages.evaluate (hs.place i x n _) i _ false true) _
    fun o => by split <;> rfl)

theorem State.Engages.withdrawOrder (hs : s.Engages) (o : Order) : (s.withdrawOrder o).Engages := by
  unfold State.withdrawOrder
  split
  · exact hs.dropOrder _
  · have h : s.OrdersOnly o.pile (s.updateOrder o fun x => { x with operator := none, named := none }) :=
      State.updateOrder_ordersOnly _ _
    refine hs.congr (fun d => ?_) h.engaged (fun j hj => ?_) fun j _ hj => ?_
    · rw [State.passOn, (State.beyondWatch_fields (s.updateOrder_beyondWatch o _)).2.1]
      rfl
    · rwa [show (s.updateOrder o _).geometry = s.geometry from congrArg Frame.geometry (s.updateOrder_frame o _)]
    · obtain ⟨y, hy, rfl⟩ := State.hasOrder_iff.1 hj
      rw [State.updateOrder_queue] at hy
      obtain ⟨x, hx, rfl⟩ := List.mem_map.1 hy
      refine State.hasOrder_iff.2 ⟨x, hx, ?_⟩
      split <;> rfl

/-! ## RETIRE of a pile (01 R9) -/

theorem State.contextOf_spec (h : s.contextOf i = some c) : s.passOn c = some i := by
  have hc := List.find?_some h
  unfold State.passOn
  cases hp : s.engine.contexts.get c with
  | none => simp [hp] at hc
  | some p => simpa [hp] using hc

theorem State.contextOf_eq_none (h : s.contextOf i = none) (c : Fin 8) : s.passOn c ≠ some i := by
  have hc := List.find?_eq_none.1 h c (List.mem_finRange c)
  unfold State.passOn
  cases hp : s.engine.contexts.get c with
  | none => simp
  | some p => simpa [hp] using hc

/-- No live pass is left on a pile that is retired. -/
theorem State.Engages.endPile (hs : s.Engages) (i : Fin 48) :
    (s.endPile i).Engages ∧ ∀ c, (s.endPile i).passOn c ≠ some i := by
  unfold State.endPile
  split
  · next d hd =>
    refine ⟨hs.endPass _ _ _ _, fun c hc => ?_⟩
    rw [State.passOn, State.endPass_contexts, Table.get_put] at hc
    split at hc
    · exact absurd hc (by simp)
    · next hcd => exact hcd (((State.engages_iff s).1 hs).2.1 d c i (State.contextOf_spec hd) hc)
  · next hn => exact ⟨hs, State.contextOf_eq_none hn⟩

/-- A pile without a pass is removed (01 R9). -/
theorem State.Engages.remove (hs : s.Engages) (h : ∀ c, s.passOn c ≠ some i) :
    ((s.removePile i).mapLiving i fun _ => Living.blank).Engages := by
  obtain ⟨h1, h2, h3, h4⟩ := (State.engages_iff s).1 hs
  have he : ∀ j, ((s.removePile i).mapLiving i fun _ => Living.blank).isEngaged j
      = if i = j then false else s.isEngaged j := by
    intro j
    unfold State.isEngaged
    rw [State.mapLiving_watch_living, Table.get_modify]
    split <;> rfl
  have hn : ∀ j, ((s.removePile i).mapLiving i fun _ => Living.blank).isEngaged j = true → s.isEngaged j = true := by
    intro j hj
    rw [he] at hj
    split at hj
    · exact absurd hj (by simp)
    · exact hj
  refine (State.engages_iff _).2 ⟨fun c j hc => ?_, h2, fun j hj => h3 j (hn j hj), fun j hj => h4 j (hn j hj)⟩
  have hc' : s.passOn c = some j := hc
  have hne : i ≠ j := by
    rintro rfl
    exact h c hc'
  refine ⟨?_, by rw [he, if_neg hne]; exact (h1 c j hc').2⟩
  show ((s.geometry.piles.put i none).get j).isSome = true
  rw [Table.get_put, if_neg hne]
  exact (h1 c j hc').1

theorem State.removeOrder_passOn (s : State) (i : Fin 48) (c : Fin 8) : (s.removeOrder i).passOn c = s.passOn c := by
  unfold State.removeOrder
  split <;> rfl

theorem State.Engages.removeOrder (hs : s.Engages) (i : Fin 48) : (s.removeOrder i).Engages := by
  unfold State.removeOrder
  split
  · exact hs.dropOrder i
  · exact hs

theorem State.discardMust_passOn (s : State) (i : Fin 48) (c : Fin 8) : (s.discardMust i).passOn c = s.passOn c := by
  rw [State.passOn, (State.beyondWatch_fields (s.discardMust_beyondWatch i)).2.1]
  rfl

theorem State.Engages.discardMust (hs : s.Engages) (i : Fin 48) : (s.discardMust i).Engages := by
  refine hs.of_same (State.beyondWatch_fields (s.discardMust_beyondWatch i)).2.1 (fun j => ?_)
    (congrArg (·.geometry.piles) (s.countMust_frame i _ _)) (s.countMust_queue i _ _)
  rw [State.isEngaged, State.discardMust, State.countMust_living]
  rfl

theorem State.Engages.loseBases (hs : s.Engages) (cls : RecordClass) (i : Nat) : (s.loseBases cls i).Engages :=
  hs.of_same rfl (fun _ => rfl) rfl rfl

theorem State.Engages.retirePile (hs : s.Engages) (i : Fin 48) : (s.retirePile i).Engages := by
  obtain ⟨he, hn⟩ := hs.endPile i
  rw [State.retirePile_eq, State.clearPile_eq]
  refine State.Engages.loseBases (State.Engages.remove ((he.removeOrder i).discardMust i) fun c => ?_) _ _
  rw [State.discardMust_passOn, State.removeOrder_passOn]
  exact hn c

theorem State.engages_of_reset (hc : t.engine.contexts = Table.fill 8 none)
    (hl : t.watch.living = Table.fill 48 Living.blank) : t.Engages := by
  have hon : ∀ c, t.passOn c = none := fun c => by simp [State.passOn, hc]
  have he : ∀ i, t.isEngaged i = false := fun i => by simp [State.isEngaged, hl, Living.blank]
  exact (State.engages_iff t).2 ⟨fun c i h => by simp [hon] at h, fun c d i h => by simp [hon] at h,
    fun i h => by simp [he] at h, fun i h => by simp [he] at h⟩

/-- The law is kept by every effect (03 R44, 05 R90). -/
theorem State.engages_kept : Kept State.Engages where
  toKeptByAttempts := State.engages_attempts none
  time s t h hs := by
    rw [h.eq]
    exact hs.of_same rfl (fun _ => rfl) rfl rfl
  stored s t h hs := by
    rw [h.eq]
    exact hs.of_same rfl (fun _ => rfl) rfl rfl
  buffer s t h hs := by
    rw [h.eq]
    exact hs.of_same rfl (fun _ => rfl) rfl rfl
  place s t h hs := by
    rw [h.eq]
    exact hs.of_same rfl (fun _ => rfl) rfl rfl
  installPile _ i x n _ hs := hs.installPile i x n
  exclude _ i e _ _ hs := (hs.setExclusion i (some e)).trimPasses _ _ _
  commitMain _ m v _ hs := hs.mapMain m _
  commitSource _ _ _ _ h hs := hs.of_beyondWater (State.commitSource_beyondWater h)
  retirePile _ i _ hs := hs.retirePile i
  requeue _ f h hs := hs.requeue f fun o => (h o).1
  evaluate _ i w n hs := hs.evaluate i w n true
  assessPile _ w r i hs := hs.assessPile w r i
  placeOrder _ i r n _ he hs := hs.placeOrder i r n he
  withdrawOrder _ _ o _ _ hs := hs.withdrawOrder o
  suspendPass _ _ _ h _ hs := hs.suspendPass h
  holdPass _ _ _ _ _ h _ hs := hs.setContext h rfl
  finishBay _ _ _ h _ hs := hs.finishBay h
  confirmFlow _ m hs := hs.confirmFlow m
  loseFlow _ m hs := hs.loseFlow m
  primeOut _ c _ _ _ hs := hs.endPass none c _ true
  clearFault _ m _ hs := hs.mapMain m _
  inflow s b v n hs := hs.of_beyondWater (s.takeInflow_beyondWater b v n)
  gauge _ b l n _ hs := hs.takeGauge b l n
  isolate _ y hs := hs.isolateSource y
  restore s y hs := hs.of_beyondWater (s.restoreSource_beyondWater y)
  settled s b hs := hs.of_beyondWater (s.settled_beyondWater b)
  clearSpilled _ hs := hs.of_same rfl (fun _ => rfl) rfl rfl
  rolloverDay s hs := hs.of_beyondWater s.rolloverDay_beyondWater
  holdYard _ _ hs := hs.holdYard
  drainYard _ _ hs := hs.drainYard
  resumeHeld _ _ hs := hs.setMode _
  resumeDrained _ _ hs := (hs.setMode _).closeMains
  drained _ m _ hs := hs.drained m
  second _ hs := hs.second
  resetWhole _ _ _ _ := State.engages_of_reset rfl rfl
  resetCommand _ _ := State.engages_of_reset rfl rfl

end

end Sys2Proof.Machine

/-! PROOFS. No bay that a live pass has still to wet lies inside a present exclusion (06 R130). -/

namespace Sys2Proof.Machine

/-! ## The plan of a pass -/

/-- A pass with its State, its reasons and its timers blank: its plan, its place in it and its accounts. -/
def Pass.plan (p : Pass) : Pass :=
  { p with
    state := .priming, wind := false, machine := false, since := none, suspension := 0, prime := .cold
    primeTimer := none, dwellTimer := none, limitTimer := none }

section

variable {s t : State} {c : Fin 8} {p q : Pass}

/-- What a law of plans sees of a pass. -/
theorem Pass.plan_fields (h : q.plan = p.plan) : q.pile = p.pile ∧ q.source = p.source ∧ q.bays = p.bays
    ∧ q.repeats = p.repeats ∧ q.cursorRepeat = p.cursorRepeat ∧ q.rest = p.rest :=
  have hf : ∀ {β : Type} (f : Pass → β), f q.plan = f p.plan := fun f => congrArg f h
  ⟨hf Pass.pile, hf Pass.source, hf Pass.bays, hf Pass.repeats, hf Pass.cursorRepeat, hf Pass.rest⟩

/-- A prime leaves its context FREE, or with the pass that primes on the same plan. -/
theorem State.prime_contexts (s : State) (x : Option (Fin 5)) (c : Fin 8) (p : Pass) :
    (s.prime x c p).engine.contexts = s.engine.contexts.put c none
    ∨ ∃ q : Pass, q.plan = p.plan ∧ (s.prime x c p).engine.contexts = s.engine.contexts.put c (some q) := by
  cases h : s.flowActive p.main with
  | false =>
    refine .inr ⟨{ p with
      prime := s.primeKind p.main p.source, state := .priming
      primeTimer := some ((s.engine.mains.get p.main).primeTime (s.primeKind p.main p.source)) }, rfl, ?_⟩
    rw [State.prime_of_quiet h]
    simp [State.selected]
  | true =>
    refine .inl ?_
    rw [State.prime_of_flow h, State.endPass_contexts]
    simp [State.selected]

/-- A predicate of every live pass. -/
def State.EachPass (s : State) (R : Fin 8 → Pass → Prop) : Prop := ∀ c p, s.engine.contexts.get c = some p → R c p

theorem State.EachPass.put {R : Fin 8 → Pass → Prop} (hs : s.EachPass R) {o : Option Pass}
    (hc : t.engine.contexts = s.engine.contexts.put c o) (ho : ∀ q, o = some q → R c q) : t.EachPass R := by
  intro d r hr
  rw [hc, Table.get_put] at hr
  split at hr
  · next hd => exact hd ▸ ho r hr
  · exact hs d r hr

theorem State.EachPass.of_contexts {R : Fin 8 → Pass → Prop} (hs : s.EachPass R)
    (hc : t.engine.contexts = s.engine.contexts) : t.EachPass R := by
  intro d r hr
  exact hs d r (hc ▸ hr)

/-- A prime on a plan that meets a predicate. -/
theorem State.EachPass.prime {R : Fin 8 → Pass → Prop} (hs : s.EachPass R) (x : Option (Fin 5))
    (hp : ∀ q : Pass, q.plan = p.plan → R c q) : (s.prime x c p).EachPass R := by
  obtain h | ⟨q, hq, h⟩ := s.prime_contexts x c p
  · exact hs.put h (by simp)
  · refine hs.put h ?_
    rintro _ ⟨⟩
    exact hp q hq

/-- The cannon of a candidate has a bay to wet on its pile (05 R101). -/
theorem State.bays_of_judge {m : Fin 4} {o : Order} {k : Fin 24} {z : Fin 6} {y : Pile} {a : Cannon}
    (hj : s.judge m o = .candidate k z) (hy : s.geometry.piles.get o.pile = some y)
    (ha : s.geometry.cannons.get k = some a) : 0 < (a.bays s.geometry y).length := by
  obtain ⟨y', a', hy', ha', hu, -⟩ := State.judge_candidate hj
  obtain rfl : y = y' := Option.some.inj (hy.symm.trans hy')
  unfold State.usable at hu
  rw [ha] at hu
  simp only [Bool.and_eq_true, decide_eq_true_eq] at hu
  exact hu.2

/-- What every plan and every new pass meets is kept by pass ends and attempts. -/
theorem State.eachPass_attempts (x : Option (Fin 5)) (g : Geometry) (R : Fin 8 → Pass → Prop)
    (hplan : ∀ c p q, q.plan = p.plan → R c p → R c q)
    (hnew : ∀ c i y kn k m src cl, g.piles.get i = some y → g.cannons.get kn = some k →
      0 < (k.bays g y).length → R c (newPass g i y kn k m src cl)) :
    KeptByAttempts x fun s => s.geometry = g ∧ s.EachPass R where
  core _ := Iff.rfl
  endPass s c e _ hs := ⟨(congrArg Frame.geometry (s.endPass_frame x c e true)).trans hs.1,
    hs.2.put (s.endPass_contexts x c e true) (by simp)⟩
  resume s c p hp _ _ hs := by
    refine ⟨(congrArg Frame.geometry (s.resumePass_frame x c p)).trans hs.1, ?_⟩
    exact hs.2.prime x fun q hq => hplan c p q hq (hs.2 c p hp)
  request s m c _ _ hs := by
    obtain ⟨rfl, hs⟩ := hs
    refine ⟨congrArg Frame.geometry (s.requestAndStart_frame x m c), ?_⟩
    obtain h | ⟨k, y, a, -, hj, hy, ha, h⟩ := s.requestAndStart_spec x m c
    · exact hs.of_contexts (by rw [h, State.recordReasons_engine])
    · have hn := hnew c k.order.pile y k.cannon a m k.source (s.water.clarity k.source) hy ha
        (State.bays_of_judge hj hy ha)
      rw [h]
      exact State.EachPass.prime (hs.of_contexts (by simp)) x (fun q hq => hplan c _ q hq hn)

/-! ## The bays that a pass has still to wet -/

/-- No bay that a pass has still to wet is one that `bad` finds, on its pile's bed. -/
def Pass.Avoids (bedOf : Fin 48 → Option (Fin 8)) (bad : Fin 8 → Nat → Prop) (p : Pass) : Prop :=
  ∀ bed, bedOf p.pile = some bed → (∀ b ∈ p.rest, ¬ bad bed b)
    ∧ (p.cursorRepeat + 1 < p.repeats → ∀ b ∈ p.bays, ¬ bad bed b)

/-- A bay is inside a present exclusion (01 R14). -/
def Geometry.Bad (g : Geometry) (bed : Fin 8) (b : Nat) : Prop := g.excluded bed b = true

theorem State.exclusionLaw_iff (s : State) :
    s.ExclusionLaw ↔ s.EachPass fun _ p => p.Avoids s.bedOf s.geometry.Bad := by
  unfold State.ExclusionLaw State.EachPass Pass.Avoids Geometry.Bad State.bedOf
  refine forall_congr' fun c => forall_congr' fun p => ⟨fun h hp bed hb => ?_, fun h x hp hx => ?_⟩
  · obtain ⟨x, hx, rfl⟩ := Option.map_eq_some_iff.1 hb
    simpa using h x hp hx
  · simpa using h hp x.bed (by rw [hx]; rfl)

/-- The law of the exclusions, kept folded while it is carried through the steps. -/
@[irreducible] def State.Excludes (s : State) : Prop := s.EachPass fun _ p => p.Avoids s.bedOf s.geometry.Bad

theorem State.excludes_iff (s : State) :
    s.Excludes ↔ s.EachPass fun _ p => p.Avoids s.bedOf s.geometry.Bad := by
  unfold State.Excludes
  exact Iff.rfl

theorem Pass.Avoids.of_plan {bedOf : Fin 48 → Option (Fin 8)} {bad : Fin 8 → Nat → Prop} (hp : p.Avoids bedOf bad)
    (h : q.plan = p.plan) : q.Avoids bedOf bad := by
  obtain ⟨h1, -, h3, h4, h5, h6⟩ := Pass.plan_fields h
  unfold Pass.Avoids
  rw [h1, h3, h4, h5, h6]
  exact hp

theorem Pass.Avoids.mono {bedOf bedOf' : Fin 48 → Option (Fin 8)} {bad bad' : Fin 8 → Nat → Prop}
    (hp : p.Avoids bedOf bad) (hb : ∀ bed, bedOf' p.pile = some bed → bedOf p.pile = some bed)
    (hbad : ∀ bed b, bad' bed b → bad bed b) : p.Avoids bedOf' bad' := by
  intro bed hbed
  obtain ⟨h1, h2⟩ := hp bed (hb bed hbed)
  exact ⟨fun b hr h => h1 b hr (hbad bed b h), fun hc b hr h => h2 hc b hr (hbad bed b h)⟩

/-- A new pass is planned around the exclusions (06 R113 step 2). -/
theorem newPass_avoids (s : State) {i : Fin 48} {y : Pile} (hy : s.geometry.piles.get i = some y) (kn : Fin 24)
    (k : Cannon) (m : Fin 4) (src : Fin 6) (cl : Nat) :
    (newPass s.geometry i y kn k m src cl).Avoids s.bedOf s.geometry.Bad := by
  intro bed hbed
  have hb : y.bed = bed := by
    unfold State.bedOf at hbed
    rw [show (newPass s.geometry i y kn k m src cl).pile = i from rfl, hy] at hbed
    exact Option.some.inj hbed
  have hkey : ∀ b ∈ k.bays s.geometry y, ¬ s.geometry.Bad bed b := by
    intro b hmem hbad
    have hf := (List.mem_filter.1 hmem).2
    rw [hb] at hf
    rw [Geometry.Bad] at hbad
    simp [hbad] at hf
  exact ⟨hkey, fun _ => hkey⟩

/-- The bays of a repeat's walk are the plan's (06 R113 step 3). -/
theorem Pass.mem_walk {b n : Nat} : b ∈ p.walk n ↔ b ∈ p.bays := by
  unfold Pass.walk
  split
  · exact List.mem_reverse
  · exact Iff.rfl

/-- The cursor moves to bays that the pass had still to wet (06 R114). -/
theorem Pass.Avoids.moveCursor {bedOf : Fin 48 → Option (Fin 8)} {bad : Fin 8 → Nat → Prop} {rest : List Nat}
    (hp : p.Avoids bedOf bad) (hr : ∀ b ∈ rest, b ∈ p.rest) : (p.moveCursor rest).Avoids bedOf bad := by
  unfold Pass.moveCursor
  split
  · next h =>
    obtain ⟨-, hc⟩ : rest = [] ∧ p.cursorRepeat + 1 < p.repeats := by simpa using h
    intro bed hb
    obtain ⟨-, h2⟩ := hp bed hb
    exact ⟨fun b hb' => h2 hc b (Pass.mem_walk.1 hb'), fun _ => h2 hc⟩
  · intro bed hb
    obtain ⟨h1, h2⟩ := hp bed hb
    exact ⟨fun b hb' => h1 b (hr b hb'), h2⟩

/-! ## Pass ends and attempts -/

/-- The bed of a pile, by the geometry. -/
def Geometry.bedOf (g : Geometry) (i : Fin 48) : Option (Fin 8) := (g.piles.get i).map (·.bed)

theorem State.bedOf_eq (s : State) : s.bedOf = s.geometry.bedOf := rfl

/-- The passes avoid the exclusions through pass ends and attempts, and so do any that are allowed more. -/
theorem State.avoids_attempts (x : Option (Fin 5)) (g : Geometry) (V : Fin 8 → Prop)
    (bad : Fin 8 → Nat → Prop) (hbad : ∀ bed b, bad bed b → g.Bad bed b) :
    KeptByAttempts x fun s => s.geometry = g ∧ s.EachPass fun c p =>
      p.Avoids g.bedOf bad ∧ (V c → p.Avoids g.bedOf g.Bad) := by
  refine State.eachPass_attempts x g _ (fun c p q h hp => ⟨hp.1.of_plan h, fun hc => (hp.2 hc).of_plan h⟩) ?_
  intro c i y kn k m src cl hy _ _
  have hn : (newPass g i y kn k m src cl).Avoids g.bedOf g.Bad :=
    newPass_avoids { State.reset with geometry := g } hy kn k m src cl
  exact ⟨hn.mono (fun _ => id) hbad, fun _ => hn⟩

theorem State.excludes_attempts (x : Option (Fin 5)) : KeptByAttempts x State.Excludes := by
  have K : ∀ g : Geometry, KeptByAttempts x fun s => s.geometry = g ∧ s.EachPass fun _ p => p.Avoids g.bedOf g.Bad :=
    fun g => State.eachPass_attempts x g _ (fun _ p q h hp => hp.of_plan h) fun c i y kn k m src cl hy _ _ =>
      newPass_avoids { State.reset with geometry := g } hy kn k m src cl
  have key : ∀ s t : State, t.geometry = s.geometry →
      (s.geometry = s.geometry ∧ s.EachPass (fun _ p => p.Avoids s.geometry.bedOf s.geometry.Bad) →
        t.geometry = s.geometry ∧ t.EachPass fun _ p => p.Avoids s.geometry.bedOf s.geometry.Bad) →
      s.Excludes → t.Excludes := by
    intro s t hg h hs
    obtain ⟨-, ht⟩ := h ⟨rfl, (State.excludes_iff s).1 hs⟩
    rw [State.excludes_iff, State.bedOf_eq, hg]
    exact ht
  refine { core := fun s => ?_, endPass := fun s c e he hs => ?_, resume := fun s c p hp hr ha hs => ?_,
           request := fun s m c ha hc hs => ?_ }
  · rw [State.excludes_iff, State.excludes_iff]
    exact Iff.rfl
  · exact key s _ (congrArg Frame.geometry (s.endPass_frame x c e true)) ((K s.geometry).endPass s c e he) hs
  · exact key s _ (congrArg Frame.geometry (s.resumePass_frame x c p)) ((K s.geometry).resume s c p hp hr ha) hs
  · exact key s _ (congrArg Frame.geometry (s.requestAndStart_frame x m c)) ((K s.geometry).request s m c ha hc) hs

/-! ## The effects -/

theorem State.Excludes.of_same (hs : s.Excludes) (hc : t.engine.contexts = s.engine.contexts)
    (hg : t.geometry = s.geometry) : t.Excludes := by
  rw [State.excludes_iff, State.bedOf_eq, hg]
  exact ((State.excludes_iff s).1 hs).of_contexts hc

theorem State.Excludes.of_beyondWatch (hs : s.Excludes) (h : t.beyondWatch = s.beyondWatch) : t.Excludes :=
  hs.of_same (State.beyondWatch_fields h).2.1 (congrArg (·.geometry) h)

theorem State.Excludes.of_beyondWater (hs : s.Excludes) (h : t.beyondWater = s.beyondWater) : t.Excludes :=
  hs.of_same (State.beyondWater_fields h).2.1 (congrArg (·.geometry) h)

theorem State.Excludes.put (hs : s.Excludes) {o : Option Pass}
    (hc : t.engine.contexts = s.engine.contexts.put c o) (hg : t.geometry = s.geometry)
    (ho : ∀ q, o = some q → q.Avoids s.bedOf s.geometry.Bad) : t.Excludes := by
  rw [State.excludes_iff, State.bedOf_eq, hg]
  exact ((State.excludes_iff s).1 hs).put hc ho

theorem State.Excludes.avoids (hs : s.Excludes) (h : s.engine.contexts.get c = some p) :
    p.Avoids s.bedOf s.geometry.Bad :=
  (State.excludes_iff s).1 hs c p h

theorem State.Excludes.putContext (hs : s.Excludes) (c : Fin 8) (hq : q.Avoids s.bedOf s.geometry.Bad) :
    (s.setContext c (some q)).Excludes :=
  hs.put rfl rfl (by rintro _ ⟨⟩; exact hq)

/-- A live pass on the same plan. -/
theorem State.Excludes.setContext (hs : s.Excludes) (h : s.engine.contexts.get c = some p) (hq : q.plan = p.plan) :
    (s.setContext c (some q)).Excludes :=
  hs.put rfl rfl (by rintro _ ⟨⟩; exact (hs.avoids h).of_plan hq)

theorem State.Excludes.mapMain (hs : s.Excludes) (m : Fin 4) (f : Main → Main) : (s.mapMain m f).Excludes :=
  hs.of_same rfl rfl

theorem State.Excludes.follow (hs : s.Excludes) : s.follow.Excludes := hs.of_same (by simp) (by simp)

theorem State.Excludes.endPass (hs : s.Excludes) (x : Option (Fin 5)) (c : Fin 8) (e : PassEnd) (offers : Bool) :
    (s.endPass x c e offers).Excludes :=
  hs.put (s.endPass_contexts x c e offers) (congrArg Frame.geometry (s.endPass_frame x c e offers)) (by simp)

theorem State.Excludes.finishBay (hs : s.Excludes) (hp : p.Avoids s.bedOf s.geometry.Bad) (c : Fin 8) :
    (s.finishBay none c p).Excludes := by
  have hq : (({ p with baysDone := p.baysDone + 1 } : Pass).moveCursor p.rest.tail).Avoids s.bedOf s.geometry.Bad :=
    Pass.Avoids.moveCursor (p := { p with baysDone := p.baysDone + 1 }) hp fun b hb => List.mem_of_mem_tail hb
  unfold State.finishBay
  dsimp only
  split
  · exact (hs.putContext c hq).endPass _ _ _ _
  · refine hs.putContext c ?_
    exact hq

theorem State.Excludes.confirmFlow (hs : s.Excludes) (m : Fin 4) : (s.confirmFlow m).Excludes := by
  unfold State.confirmFlow
  dsimp only
  split
  · split
    · exact hs
    · split
      · exact hs
      · next p hp =>
        split
        · refine State.Excludes.finishBay (State.Excludes.follow
            (State.Excludes.setContext (hs.mapMain m _) hp ?_)) ?_ _
          · rfl
          · simp only [State.bedOf_eq, State.follow_geometry]
            exact (hs.avoids hp).of_plan rfl
        · refine State.Excludes.follow (State.Excludes.setContext (hs.mapMain m _) hp ?_)
          rfl
  · exact hs

theorem State.Excludes.loseFlow (hs : s.Excludes) (m : Fin 4) : (s.loseFlow m).Excludes := by
  unfold State.loseFlow
  dsimp only
  split
  · split
    · exact hs
    · exact hs.endPass _ _ _ _
  · exact hs

/-- What a suspension makes of the contexts (06 R121). -/
theorem State.suspendPass_contexts (s : State) (c : Fin 8) (p : Pass) :
    (s.suspendPass c p).engine.contexts = s.engine.contexts.put c (some (s.suspended p)) := by
  have hl : ∀ (t : State) (d : Nat), (if 0 < d then t.lowTestUnless none p.source else t).engine.contexts
      = t.engine.contexts := by
    intro t d
    split
    · exact (State.beyondWater_fields (t.lowTestUnless_beyondWater none p.source)).2.1
    · rfl
  unfold State.suspendPass
  dsimp only
  rw [State.follow_engine, State.ask_engine_contexts, hl,
    (State.beyondWater_fields (State.deduct_beyondWater _ p.source _)).2.1]
  rfl

theorem State.Excludes.suspendPass (hs : s.Excludes) (h : s.engine.contexts.get c = some p) :
    (s.suspendPass c p).Excludes := by
  have hp := hs.avoids h
  refine hs.put (s.suspendPass_contexts c p) (congrArg Frame.geometry (s.suspendPass_frame c p)) ?_
  rintro _ ⟨⟩
  exact hp

theorem State.Excludes.mapBasin (hs : s.Excludes) (b : Fin 5) (f : Basin → Basin) : (s.mapBasin b f).Excludes :=
  hs.of_same rfl rfl

theorem State.Excludes.moveBaselines (hs : s.Excludes) (b : Fin 5) : (s.moveBaselines b).Excludes := by
  refine s.forEach_inv State.Excludes _ _ (fun t c _ ht => ?_) hs
  split
  · next p hp =>
    split
    · have ha := ht.avoids hp
      exact (ht.mapBasin b _).putContext c ha
    · exact ht
  · exact ht

theorem State.Excludes.takeGauge (hs : s.Excludes) (b : Fin 5) (level clarity : Nat) :
    (s.takeGauge b level clarity).Excludes := by
  have hl : ((((s.moveBaselines b).mapBasin b fun y => { y with level, baseClarity := clarity, clarity })).lowTest
      b).Excludes :=
    ((hs.moveBaselines b).mapBasin b _).of_beyondWater (State.lowTest_beyondWater _ _)
  unfold State.takeGauge
  dsimp only
  refine State.Excludes.of_beyondWater ?_ (State.reportRise_beyondWater _ _ _)
  split
  · unfold State.cutLow
    exact (((State.excludes_attempts (some b)).endWhere (by simp) _ hl).of_beyondWater
      (State.lowTest_beyondWater _ _)).of_beyondWater (State.reportReady_beyondWater _ _ _)
  · exact hl

theorem State.Excludes.closeSource (hs : s.Excludes) (x : Fin 6) : (s.closeSource x).Excludes := by
  refine s.forEach_inv State.Excludes _ _ (fun t m _ ht => ?_) hs
  split
  · exact (ht.mapMain m _).follow
  · exact ht

theorem State.Excludes.isolateSource (hs : s.Excludes) (x : Fin 6) : (s.isolateSource x).Excludes := by
  unfold State.isolateSource
  exact ((State.excludes_attempts none).endWhere (by simp) _
    (hs.of_beyondWater (s.setIsolated_beyondWater x true))).closeSource x

theorem State.Excludes.setMode (hs : s.Excludes) (m : YardMode) : (s.setMode m).Excludes := hs.of_same rfl rfl

theorem State.Excludes.holdYard (hs : s.Excludes) : s.holdYard.Excludes := by
  unfold State.holdYard State.holdPasses
  refine State.forEach_inv _ State.Excludes _ _ (fun t m _ ht => ?_)
    ((State.excludes_attempts none).endWhere (by simp) _ (hs.setMode _))
  split
  · exact ht
  · exact ht.mapMain m _

theorem State.Excludes.startDrainTimers (hs : s.Excludes) : s.startDrainTimers.Excludes := hs.of_same rfl rfl

theorem State.Excludes.drainYard (hs : s.Excludes) : s.drainYard.Excludes := by
  unfold State.drainYard State.drainPasses
  refine State.Excludes.of_beyondWatch (State.Excludes.startDrainTimers ?_) (State.emptyQueue_beyondWatch _)
  exact State.forEach_inv _ State.Excludes _ _ (fun _ m _ ht => ht.mapMain m _)
    ((State.excludes_attempts none).endWhere (by simp) _ (hs.setMode _))

theorem State.Excludes.closeMains (hs : s.Excludes) : s.closeMains.Excludes :=
  State.forEach_inv _ State.Excludes _ _ (fun _ m _ ht => ht.mapMain m _) hs

theorem State.Excludes.drained (hs : s.Excludes) (m : Fin 4) : (s.drained m).Excludes := by
  unfold State.drained
  dsimp only
  split <;> exact hs.of_same rfl rfl

theorem Pass.second_plan (p : Pass) : ∃ r c, p.second.plan = { p.plan with runningSeconds := r, cursorSeconds := c } := by
  unfold Pass.second
  dsimp only
  split
  · exact ⟨_, _, rfl⟩
  · exact ⟨_, _, rfl⟩

theorem Pass.Avoids.second {bedOf : Fin 48 → Option (Fin 8)} {bad : Fin 8 → Nat → Prop}
    (hp : p.Avoids bedOf bad) : p.second.Avoids bedOf bad := by
  unfold Pass.second
  dsimp only
  split <;> exact hp

theorem State.Excludes.second (hs : s.Excludes) : s.second.Excludes := by
  refine (State.excludes_iff _).2 fun c q hq => ?_
  have hq' : (s.engine.contexts.get c).map Pass.second = some q := by
    have : s.second.engine.contexts.get c = (s.engine.contexts.get c).map Pass.second := by simp [State.second]
    rw [← this]
    exact hq
  obtain ⟨p, hp, rfl⟩ := Option.map_eq_some_iff.1 hq'
  exact (hs.avoids hp).second

/-- Geometry that leaves the beds of the engaged piles, and makes no bay excluded. -/
theorem State.Excludes.geometry (hs : s.Excludes) (hc : t.engine.contexts = s.engine.contexts)
    (hb : ∀ c p bed, s.engine.contexts.get c = some p → t.bedOf p.pile = some bed → s.bedOf p.pile = some bed)
    (hg : ∀ bed b, t.geometry.Bad bed b → s.geometry.Bad bed b) : t.Excludes := by
  refine (State.excludes_iff _).2 fun c p hp => ?_
  rw [hc] at hp
  exact (hs.avoids hp).mono (fun bed => hb c p bed hp) hg

theorem Geometry.bad_iff (g : Geometry) (bed : Fin 8) (b : Nat) : g.Bad bed b ↔
    ∃ i e, g.exclusions.get i = some e ∧ e.bed = bed ∧ inWindow e.start e.length b = true := by
  unfold Geometry.Bad Geometry.excluded Table.any
  rw [List.any_eq_true]
  constructor
  · rintro ⟨i, -, h⟩
    cases he : g.exclusions.get i with
    | none => simp [he] at h
    | some e =>
      simp only [he, Bool.and_eq_true, decide_eq_true_eq] at h
      exact ⟨i, e, he, h.1, h.2⟩
  · rintro ⟨i, e, he, h1, h2⟩
    exact ⟨i, List.mem_finRange i, by simp [he, h1, h2]⟩

/-- An exclusion changed keeps the bays that the others exclude. -/
theorem Geometry.bad_of_put {g h : Geometry} {i : Fin 16} {o : Option Exclusion} {bed : Fin 8} {b : Nat}
    (hg : h.exclusions = g.exclusions.put i o) (hb : h.Bad bed b) :
    g.Bad bed b ∨ ∃ e, o = some e ∧ e.bed = bed ∧ inWindow e.start e.length b = true := by
  obtain ⟨j, e, he, h1, h2⟩ := (Geometry.bad_iff _ _ _).1 hb
  rw [hg, Table.get_put] at he
  split at he
  · exact .inr ⟨e, he, h1, h2⟩
  · exact .inl ((Geometry.bad_iff _ _ _).2 ⟨j, e, he, h1, h2⟩)

theorem State.Excludes.stored (hs : s.Excludes) (h : s.StoreStep t) : t.Excludes := by
  cases h with
  | endFix i =>
    unfold State.endFix
    split
    · exact hs.of_same rfl rfl
    · next e he =>
      refine hs.geometry rfl (fun _ _ _ _ => id) fun bed b hb => ?_
      obtain h | ⟨e', he', h1, h2⟩ := Geometry.bad_of_put (g := s.geometry) rfl hb
      · exact h
      · obtain rfl := Option.some.inj he'
        exact (Geometry.bad_iff _ _ _).2 ⟨i, e, he, h1, h2⟩
  | _ => exact hs.of_same rfl rfl

theorem State.Excludes.placeStep (hs : s.Excludes) (h : s.PlaceStep t) : t.Excludes := by
  cases h with
  | retireExclusion i =>
    refine hs.geometry rfl (fun _ _ _ _ => id) fun bed b hb => ?_
    obtain h | ⟨e', he', -⟩ := Geometry.bad_of_put (g := s.geometry) rfl hb
    · exact h
    · exact absurd he' (by simp)
  | _ => exact hs.geometry rfl (fun _ _ _ _ => id) fun _ _ => id

/-- A PILE COMMIT leaves the window of an engaged pile (01 R7). -/
theorem State.Excludes.installPile (hs : s.Excludes) (he : s.Engages) {i : Fin 48} {x : Pile}
    (h : s.pileTest i x = none) (n : Nat) : (s.installPile i x n).Excludes := by
  have hp : ({ s with geometry := s.geometry.placePile i x } : State).Excludes := by
    refine hs.geometry rfl (fun c p bed hp hb => ?_) fun _ _ => id
    have hb' : ((s.geometry.piles.put i (some x)).get p.pile).map (·.bed) = some bed := hb
    rw [Table.get_put] at hb'
    split at hb'
    · next hi =>
      obtain ⟨h1, -⟩ := (State.engages_iff s).1 he
      obtain ⟨hpres, heng⟩ := h1 c p.pile (State.passOn_eq_some.2 ⟨p, hp, rfl⟩)
      obtain ⟨y, hy⟩ := Option.isSome_iff_exists.1 hpres
      have hw := (State.pileTest_spec h).2.2.2 (by rw [hi]; exact heng) y (by rw [hi]; exact hy)
      have hbed : y.bed = x.bed := by
        unfold Pile.sameWindow at hw
        simp only [Bool.and_eq_true, decide_eq_true_eq] at hw
        exact hw.1.1
      unfold State.bedOf
      rw [hy, ← hb']
      exact congrArg some hbed
    · exact hb'
  unfold State.installPile
  refine hp.of_beyondWatch ?_
  simp

theorem State.Excludes.endPile (hs : s.Excludes) (i : Fin 48) : (s.endPile i).Excludes := by
  unfold State.endPile
  split
  · exact hs.endPass _ _ _ _
  · exact hs

theorem State.Excludes.removeOrder (hs : s.Excludes) (i : Fin 48) : (s.removeOrder i).Excludes := by
  unfold State.removeOrder
  split
  · exact hs.of_beyondWatch (s.dropOrder_beyondWatch i)
  · exact hs

theorem State.Excludes.removePile (hs : s.Excludes) (i : Fin 48) : (s.removePile i).Excludes := by
  refine hs.geometry rfl (fun c p bed _ hb => ?_) fun _ _ => id
  have hb' : ((s.geometry.piles.put i none).get p.pile).map (·.bed) = some bed := hb
  rw [Table.get_put] at hb'
  split at hb'
  · exact absurd hb' (by simp)
  · exact hb'

theorem State.Excludes.loseBases (hs : s.Excludes) (cls : RecordClass) (i : Nat) : (s.loseBases cls i).Excludes :=
  hs.of_same rfl rfl

theorem State.Excludes.retirePile (hs : s.Excludes) (i : Fin 48) : (s.retirePile i).Excludes := by
  rw [State.retirePile_eq, State.clearPile_eq]
  have hd := (((hs.endPile i).removeOrder i).of_beyondWatch (State.discardMust_beyondWatch _ i)).removePile i
  exact (hd.of_beyondWatch (State.mapLiving_beyondWatch _ i _)).loseBases _ _

/-! ## Trims (06 R130) -/

/-- The bays that a trim leaves are bays of the plan outside the window; those in progress, bays that the pass had
still to wet. -/
theorem Pass.trimmed_spec (p : Pass) (start length : Nat) :
    (p.trimmed start length).pile = p.pile
    ∧ (∀ b ∈ (p.trimmed start length).bays, b ∈ p.bays ∧ inWindow start length b = false)
    ∧ (∀ b ∈ (p.trimmed start length).rest, inWindow start length b = false
        ∧ (b ∈ p.rest ∨ (p.cursorRepeat + 1 < p.repeats ∧ b ∈ p.bays)))
    ∧ ((p.trimmed start length).cursorRepeat + 1 < (p.trimmed start length).repeats →
        p.cursorRepeat + 1 < p.repeats) := by
  have hkeep : ∀ l : List Nat, ∀ b ∈ l.filter fun b => !inWindow start length b,
      b ∈ l ∧ inWindow start length b = false := by
    intro l b hb
    simpa using hb
  refine ⟨p.trimmed_pile start length, ?_⟩
  unfold Pass.trimmed
  dsimp only
  split
  · split
    · exact ⟨hkeep p.bays, fun b hb => absurd hb (by simp), id⟩
    · unfold Pass.moveCursor
      split
      · next hc =>
        have hc' : p.cursorRepeat + 1 < p.repeats := by simpa using hc
        refine ⟨hkeep p.bays, fun b hb => ?_, fun _ => hc'⟩
        obtain ⟨h1, h2⟩ := hkeep p.bays b (Pass.mem_walk.1 hb)
        exact ⟨h2, .inr ⟨hc', h1⟩⟩
      · exact ⟨hkeep p.bays, fun b hb => absurd hb (by simp), id⟩
  · refine ⟨hkeep p.bays, fun b hb => ?_, id⟩
    obtain ⟨h1, h2⟩ := hkeep p.rest b hb
    exact ⟨h2, .inl h1⟩

/-- The bays that are excluded beside a window. -/
def Geometry.BadBeside (g : Geometry) (at' : Fin 8) (start length : Nat) (bed : Fin 8) (b : Nat) : Prop :=
  g.Bad bed b ∧ ¬ (bed = at' ∧ inWindow start length b = true)

theorem Pass.Avoids.trimmed {bedOf : Fin 48 → Option (Fin 8)} {g : Geometry} {bed : Fin 8} {start length : Nat}
    (hp : p.Avoids bedOf (g.BadBeside bed start length)) : (p.trimmed start length).Avoids bedOf g.Bad := by
  obtain ⟨h1, h2, h3, h4⟩ := p.trimmed_spec start length
  intro bed' hb
  rw [h1] at hb
  obtain ⟨ha, hc⟩ := hp bed' hb
  have hout : ∀ b, inWindow start length b = false → g.Bad bed' b → g.BadBeside bed start length bed' b :=
    fun b hw hbad => ⟨hbad, fun h => by simp [hw] at h⟩
  refine ⟨fun b hmem hbad => ?_, fun hr b hmem hbad => ?_⟩
  · obtain ⟨hw, h | ⟨hr, h⟩⟩ := h3 b hmem
    · exact ha b h (hout b hw hbad)
    · exact hc hr b h (hout b hw hbad)
  · obtain ⟨h, hw⟩ := h2 b hmem
    exact hc (h4 hr) b h (hout b hw hbad)

/-- A pass that is on another bed, or has no bay of the window left, needs no trim. -/
theorem Pass.Avoids.untrimmed {bedOf : Fin 48 → Option (Fin 8)} {g : Geometry} {bed : Fin 8} {start length : Nat}
    (hp : p.Avoids bedOf (g.BadBeside bed start length))
    (h : ¬ (bedOf p.pile = some bed ∧ p.meetsWindow start length = true)) : p.Avoids bedOf g.Bad := by
  intro bed' hb
  obtain ⟨ha, hc⟩ := hp bed' hb
  have hout : ∀ b, g.Bad bed' b → (bed' = bed → inWindow start length b = false) →
      g.BadBeside bed start length bed' b :=
    fun b hbad hw => ⟨hbad, fun ⟨h1, h2⟩ => by simp [hw h1] at h2⟩
  have hm : bed' = bed → p.meetsWindow start length = false := by
    rintro rfl
    simpa using fun hw => h ⟨hb, hw⟩
  unfold Pass.meetsWindow at hm
  refine ⟨fun b hmem hbad => ha b hmem (hout b hbad fun heq => ?_), fun hr b hmem hbad =>
    hc hr b hmem (hout b hbad fun heq => ?_)⟩
  · have hf := hm heq
    simp only [Bool.or_eq_false_iff, List.any_eq_false, Bool.not_eq_true] at hf
    exact hf.1 b hmem
  · have hf := hm heq
    simp only [Bool.or_eq_false_iff, hr, decide_true, Bool.true_and, List.any_eq_false, Bool.not_eq_true] at hf
    exact hf.2 b hmem

/-- The passes in contexts that a walk of trims has visited avoid every exclusion; the others, every one but the new
window. -/
def State.Trimming (g : Geometry) (bed : Fin 8) (start length : Nat) (V : Fin 8 → Prop) (s : State) : Prop :=
  s.geometry = g ∧ s.EachPass fun c p =>
    p.Avoids g.bedOf (g.BadBeside bed start length) ∧ (V c → p.Avoids g.bedOf g.Bad)

theorem State.trimming_attempts (g : Geometry) (bed : Fin 8) (start length : Nat) (V : Fin 8 → Prop) :
    KeptByAttempts none (State.Trimming g bed start length V) :=
  State.avoids_attempts none g V _ fun _ _ h => h.1

/-- What a walk of trims does at one context. -/
def State.trimStep (bed : Fin 8) (start length : Nat) (t : State) (c : Fin 8) : State :=
  match t.engine.contexts.get c with
  | some p =>
    if t.bedOf p.pile = some bed ∧ p.meetsWindow start length = true then t.trimPass c p start length
    else t
  | none => t

theorem State.Trimming.release {g : Geometry} {bed : Fin 8} {start length : Nat} {V : Fin 8 → Prop}
    (hs : s.Trimming g bed start length V) (x : Fin 6) (v : Nat) :
    (s.release x v).Trimming g bed start length V :=
  ⟨(congrArg (·.geometry) (s.release_beyondWater x v)).trans hs.1,
    hs.2.of_contexts (State.beyondWater_fields (s.release_beyondWater x v)).2.1⟩

theorem State.Trimming.step {g : Geometry} {bed : Fin 8} {start length : Nat} {V : Fin 8 → Prop}
    (hs : State.Trimming g bed start length V s) (c : Fin 8) :
    State.Trimming g bed start length (fun d => V d ∨ d = c) (State.trimStep bed start length s c) := by
  have hwiden : (∀ p, s.engine.contexts.get c = some p → p.Avoids g.bedOf g.Bad) →
      State.Trimming g bed start length (fun d => V d ∨ d = c) s := by
    intro h
    refine ⟨hs.1, fun d p hp => ⟨(hs.2 d p hp).1, ?_⟩⟩
    rintro (hd | rfl)
    · exact (hs.2 d p hp).2 hd
    · exact h p hp
  unfold State.trimStep
  split
  · next p hp =>
    obtain ⟨hw, -⟩ := hs.2 c p hp
    split
    · have hq : (p.trimmed start length).Avoids g.bedOf g.Bad := hw.trimmed
      have hset : State.Trimming g bed start length (fun d => V d ∨ d = c)
          (s.setContext c (some (p.trimmed start length))) := by
        refine ⟨hs.1, fun d r hr => ?_⟩
        rw [State.setContext_engine_contexts, Table.get_put] at hr
        split at hr
        · obtain rfl := Option.some.inj hr
          exact ⟨hq.mono (fun _ => id) fun _ _ h => h.1, fun _ => hq⟩
        · next hd => exact ⟨(hs.2 d r hr).1, fun h => (hs.2 d r hr).2 (h.resolve_right (Ne.symm hd))⟩
      unfold State.trimPass
      dsimp only
      split
      · exact (State.trimming_attempts g bed start length _).runAttempts
          ((State.trimming_attempts g bed start length _).endPass _ _ _ (by simp) (hset.release _ _))
      · exact hset.release _ _
    · next hn =>
      refine hwiden fun r hr => ?_
      obtain rfl : p = r := Option.some.inj (hp.symm.trans hr)
      rw [State.bedOf_eq, hs.1] at hn
      exact hw.untrimmed hn
  · next hn => exact hwiden fun p hp => by simp [hn] at hp

theorem State.Trimming.forEach {g : Geometry} {bed : Fin 8} {start length : Nat} (l : List (Fin 8))
    {V : Fin 8 → Prop} (hs : State.Trimming g bed start length V s) :
    State.Trimming g bed start length (fun d => V d ∨ d ∈ l) (s.forEach l (State.trimStep bed start length)) := by
  unfold State.forEach
  induction l generalizing s V with
  | nil => exact ⟨hs.1, fun d p hp => ⟨(hs.2 d p hp).1, fun h => (hs.2 d p hp).2 (by simpa using h)⟩⟩
  | cons c l ih =>
    rw [List.foldl_cons]
    obtain ⟨hg, hp⟩ := ih (hs.step c)
    refine ⟨hg, fun d p hd => ⟨(hp d p hd).1, fun h => (hp d p hd).2 ?_⟩⟩
    simpa [or_assoc] using h

theorem State.trimPasses_eq_forEach (s : State) (bed : Fin 8) (start length : Nat) :
    s.trimPasses bed start length = s.forEach allContexts (State.trimStep bed start length) := rfl

/-- Where every context has been visited, the walk is at its end. -/
theorem State.Trimming.excludes {g : Geometry} {bed : Fin 8} {start length : Nat} {V : Fin 8 → Prop}
    (hs : State.Trimming g bed start length V s) (hV : ∀ c, V c) : s.Excludes := by
  obtain ⟨rfl, hp⟩ := hs
  exact (State.excludes_iff s).2 fun c p hc => (hp c p hc).2 (hV c)

/-- A new exclusion trims every pass that it meets (06 R130). -/
theorem State.Excludes.exclude (hs : s.Excludes) (i : Fin 16) (e : Exclusion) :
    ((s.setExclusion i (some e)).trimPasses e.bed e.start e.length).Excludes := by
  have h0 : State.Trimming (s.setExclusion i (some e)).geometry e.bed e.start e.length (fun _ => False)
      (s.setExclusion i (some e)) := by
    refine ⟨rfl, fun c p hp => ⟨?_, False.elim⟩⟩
    refine (hs.avoids hp).mono (fun _ => id) fun bed b ⟨hb, hn⟩ => ?_
    obtain h | ⟨e', he', h1, h2⟩ := Geometry.bad_of_put (g := s.geometry) rfl hb
    · exact h
    · obtain rfl := Option.some.inj he'
      exact absurd ⟨h1.symm, h2⟩ hn
  rw [State.trimPasses_eq_forEach]
  exact (h0.forEach allContexts).excludes fun c => .inr (List.mem_finRange c)

/-- The passes and piles, and the exclusions, kept together. -/
def State.Sound (s : State) : Prop := s.Engages ∧ s.Excludes

theorem State.excludes_of_reset (hc : t.engine.contexts = Table.fill 8 none) : t.Excludes :=
  (State.excludes_iff t).2 fun c p hp => by simp [hc] at hp

/-- The law of the exclusions is kept by every effect, where that of the engaged piles is (06 R130). -/
theorem State.sound_kept : Kept State.Sound where
  core s := and_congr (State.engages_kept.core s) ((State.excludes_attempts none).core s)
  endPass _ c e _ hs := ⟨hs.1.endPass none c e true, hs.2.endPass none c e true⟩
  resume s c p hp hr ha hs := ⟨State.engages_kept.resume s c p hp hr ha hs.1,
    (State.excludes_attempts none).resume s c p hp hr ha hs.2⟩
  request s m c ha hc hs := ⟨State.engages_kept.request s m c ha hc hs.1,
    (State.excludes_attempts none).request s m c ha hc hs.2⟩
  time s t h hs := ⟨State.engages_kept.time s t h hs.1, by rw [h.eq]; exact hs.2.of_same rfl rfl⟩
  stored s t h hs := ⟨State.engages_kept.stored s t h hs.1, hs.2.stored h⟩
  buffer s t h hs := ⟨State.engages_kept.buffer s t h hs.1, by rw [h.eq]; exact hs.2.of_same rfl rfl⟩
  place s t h hs := ⟨State.engages_kept.place s t h hs.1, hs.2.placeStep h⟩
  installPile s i x n h hs := ⟨hs.1.installPile i x n, hs.2.installPile hs.1 h n⟩
  exclude s i e he h hs := ⟨State.engages_kept.exclude s i e he h hs.1, hs.2.exclude i e⟩
  commitMain _ m v _ hs := ⟨hs.1.mapMain m _, hs.2.mapMain m _⟩
  commitSource _ _ _ _ h hs := ⟨hs.1.of_beyondWater (State.commitSource_beyondWater h),
    hs.2.of_beyondWater (State.commitSource_beyondWater h)⟩
  retirePile _ i _ hs := ⟨hs.1.retirePile i, hs.2.retirePile i⟩
  requeue _ f h hs := ⟨hs.1.requeue f fun o => (h o).1, hs.2.of_same rfl rfl⟩
  evaluate s i w n hs := ⟨hs.1.evaluate i w n true, hs.2.of_beyondWatch (s.evaluate_beyondWatch i w n true)⟩
  assessPile s w r i hs := ⟨hs.1.assessPile w r i, hs.2.of_beyondWatch (s.assessPile_beyondWatch w r i)⟩
  placeOrder s i r n _ he hs := ⟨hs.1.placeOrder i r n he, hs.2.of_beyondWatch (s.placeOrder_beyondWatch i r n)⟩
  withdrawOrder s _ o _ _ hs := ⟨hs.1.withdrawOrder o, hs.2.of_beyondWatch (s.withdrawOrder_beyondWatch o)⟩
  suspendPass _ _ _ h _ hs := ⟨hs.1.suspendPass h, hs.2.suspendPass h⟩
  holdPass _ _ _ _ _ h _ hs := ⟨hs.1.setContext h rfl, hs.2.setContext h rfl⟩
  finishBay _ c _ h _ hs := ⟨hs.1.finishBay h, hs.2.finishBay (hs.2.avoids h) c⟩
  confirmFlow _ m hs := ⟨hs.1.confirmFlow m, hs.2.confirmFlow m⟩
  loseFlow _ m hs := ⟨hs.1.loseFlow m, hs.2.loseFlow m⟩
  primeOut _ c _ _ _ hs := ⟨hs.1.endPass none c _ true, hs.2.endPass none c _ true⟩
  clearFault _ m _ hs := ⟨hs.1.mapMain m _, hs.2.mapMain m _⟩
  inflow s b v n hs := ⟨hs.1.of_beyondWater (s.takeInflow_beyondWater b v n),
    hs.2.of_beyondWater (s.takeInflow_beyondWater b v n)⟩
  gauge _ b l n _ hs := ⟨hs.1.takeGauge b l n, hs.2.takeGauge b l n⟩
  isolate _ y hs := ⟨hs.1.isolateSource y, hs.2.isolateSource y⟩
  restore s y hs := ⟨hs.1.of_beyondWater (s.restoreSource_beyondWater y),
    hs.2.of_beyondWater (s.restoreSource_beyondWater y)⟩
  settled s b hs := ⟨hs.1.of_beyondWater (s.settled_beyondWater b), hs.2.of_beyondWater (s.settled_beyondWater b)⟩
  clearSpilled s hs := ⟨State.engages_kept.clearSpilled s hs.1, hs.2.of_same rfl rfl⟩
  rolloverDay s hs := ⟨hs.1.of_beyondWater s.rolloverDay_beyondWater, hs.2.of_beyondWater s.rolloverDay_beyondWater⟩
  holdYard _ _ hs := ⟨hs.1.holdYard, hs.2.holdYard⟩
  drainYard _ _ hs := ⟨hs.1.drainYard, hs.2.drainYard⟩
  resumeHeld _ _ hs := ⟨hs.1.setMode _, hs.2.setMode _⟩
  resumeDrained _ _ hs := ⟨(hs.1.setMode _).closeMains, (hs.2.setMode _).closeMains⟩
  drained _ m _ hs := ⟨hs.1.drained m, hs.2.drained m⟩
  second _ hs := ⟨hs.1.second, hs.2.second⟩
  resetWhole _ _ _ _ := ⟨State.engages_of_reset rfl rfl, State.excludes_of_reset rfl⟩
  resetCommand _ _ := ⟨State.engages_of_reset rfl rfl, State.excludes_of_reset rfl⟩

theorem State.excludes_iff_exclusionLaw (s : State) : s.Excludes ↔ s.ExclusionLaw :=
  (State.excludes_iff s).trans (State.exclusionLaw_iff s).symm

/-- Settles O59: each law is kept by every effect that a command or an event can have, the mains' together with the
modes' and the exclusions' together with the engaged piles'. -/
theorem stepKeepsThePassLaws : Obligations.StepKeepsThePassLaws := by
  intro s t h
  refine ⟨State.queueLaw_keptByYard.kept.step h, fun hs => ?_, fun h1 h2 => ?_, fun hs => ?_, fun h1 h2 => ?_⟩
  · exact (State.modes_iff t).1 (State.modes_kept.step h ((State.modes_iff s).2 hs))
  · exact (State.mainsAgree_iff t).1
      (State.bench_kept.step h ⟨(State.modes_iff s).2 h1, (State.mainsAgree_iff s).2 h2⟩).2
  · exact (State.engages_iff_engagedLaw t).1 (State.engages_kept.step h ((State.engages_iff_engagedLaw s).2 hs))
  · exact (State.excludes_iff_exclusionLaw t).1 (State.sound_kept.step h
      ⟨(State.engages_iff_engagedLaw s).2 h1, (State.excludes_iff_exclusionLaw s).2 h2⟩).2

end

end Sys2Proof.Machine

/-! PROOFS. A step on an empty queue (O2): the events that are due, a unit of 50 ms, and a second (logs 2 to 5). -/

namespace Sys2Proof.Machine

/-! ## The event that is due (log 5) -/

/-- The condition of an event's own under which it is raised (logs 3, 4 and 24). -/
def State.Raises (s : State) (c : Instr) : Prop :=
  match c with
  | .yardClockAdvance => s.clock.advanceDue = true
  | .hourRollover => s.clock.hourRaised = true
  | .assessment => s.clock.assessmentRaised.isSome = true
  | .dayRollover => s.clock.dayRaised = true
  | .observationLifeExpiry => s.horizon.life = some 0
  | .settleTimerExpiry b => (s.water.basins.get b).settle = some 0
  | .primeTimerExpiry k => ∃ p, s.engine.contexts.get k = some p ∧ p.primeTimer = some 0
  | .bayDwellExpiry k => ∃ p, s.engine.contexts.get k = some p ∧ p.dwellTimer = some 0
  | .suspensionLimitExpiry k => ∃ p, s.engine.contexts.get k = some p ∧ p.limitTimer = some 0
  | .drainTimerExpiry m => s.control.drainTimers.get m = some 0
  | .qualifyingTimerExpiry i => (s.field.lines.get i).qualify = some 0
  | .reTakeTimerExpiry i => (s.field.lines.get i).retake = some 0
  | .fixWriteEnd => ∃ i, s.store.write = some (.fix i)
  | .closeWriteEnd => s.store.write = some .close
  | .tagWriteEnd => ∃ bytes, s.store.write = some (.tag bytes)
  | .initialisationEnd => s.startup.initialising = some 0
  | .transactionTimeout _ => s.port.selectLeft = 0
      ∧ s.port.transaction ≠ .idle ∧ s.port.transaction ≠ .abandoned
  | _ => False

/-- The events due of the part itself, without the timeout of a read. -/
def State.ownEvents (s : State) : List (Option Instr) := s.dueEvents.dropLast

/-- The timeout of a read, where its count is out. -/
def State.timeoutEvent (s : State) : Option Instr := s.port.timedOut.map fun code => .transactionTimeout [code]

section

variable {s : State} {c : Instr}

theorem State.dueEvents_eq (s : State) : s.dueEvents = s.ownEvents ++ [s.timeoutEvent] := rfl

/-- The timeout of a read comes after every other event (log 5). -/
theorem State.due_eq (s : State) : s.due = (s.ownEvents.findSome? id).or s.timeoutEvent := by
  cases ht : s.timeoutEvent <;> simp [State.due, State.dueEvents_eq, List.findSome?_append, ht]

theorem State.timeoutEvent_of_readCode_none (h : s.port.readCode = none) : s.timeoutEvent = none := by
  simp [State.timeoutEvent, Port.timedOut_of_closed h]

theorem State.timeoutEvent_of_left (h : s.port.selectLeft ≠ 0) : s.timeoutEvent = none := by
  simp [State.timeoutEvent, Port.timedOut_of_left h]

/-- A read whose count is out has its timeout due (08 R149). -/
theorem State.timeoutEvent_of_readCode {code : Byte} (hc : s.port.readCode = some code)
    (h : s.port.selectLeft = 0) : s.timeoutEvent = some (.transactionTimeout [code]) := by
  simp [State.timeoutEvent, Port.timedOut, hc, h]

/-- A timeout that is due is that of a read that goes on. -/
theorem Port.of_timedOut {p : Port} {code : Byte} (h : p.timedOut = some code) :
    p.selectLeft = 0 ∧ p.transaction ≠ .idle ∧ p.transaction ≠ .abandoned := by
  have hn : ¬ (p.selectLeft = 0 → p.transaction = .idle ∨ p.transaction = .abandoned) := by
    rw [← p.timedOut_eq_none, h]
    exact Option.some_ne_none code
  tauto

/-- A raising under a condition has its condition. -/
theorem State.raises_of_ite {p : Prop} [Decidable p] {a : Instr} (h : p → s.Raises a) :
    ∀ c, (if p then some a else none) = some c → s.Raises c := by
  intro c hc
  split at hc
  · next hp => exact Option.some.inj hc ▸ h hp
  · cases hc

/-- What a search raises has the condition that was searched for. -/
theorem State.raises_of_firstThat {α : Type} {items : List α} {isDue : α → Bool} {f : α → Instr}
    (h : ∀ a, isDue a = true → s.Raises (f a)) : ∀ c, firstThat items isDue f = some c → s.Raises c := by
  intro c hc
  obtain ⟨a, ha, rfl⟩ := due_of_firstThat hc
  exact h a ha

/-- The end of a write is raised where that write is in progress (log 24). -/
theorem State.raises_writeEnd {w : StoreWrite} (h : s.store.write = some w) : s.Raises (writeEnd w) := by
  cases w with
  | fix i => exact ⟨i, h⟩
  | close => exact h
  | tag bytes => exact ⟨bytes, h⟩

/-- Every event in the list of those due has its own condition. -/
theorem State.raises_of_mem_dueEvents : ∀ e ∈ s.dueEvents, ∀ c, e = some c → s.Raises c := by
  simp only [State.dueEvents, List.forall_mem_cons]
  refine ⟨State.raises_of_ite id, State.raises_of_ite id, State.raises_of_ite id, State.raises_of_ite id,
    State.raises_of_ite id, State.raises_of_firstThat fun b hb => ?_, State.raises_of_firstThat fun k hk => ?_,
    State.raises_of_firstThat fun k hk => ?_, State.raises_of_firstThat fun k hk => ?_,
    State.raises_of_firstThat fun m hm => ?_, State.raises_of_firstThat fun i hi => ?_,
    State.raises_of_firstThat fun i hi => ?_, fun c hc => ?_, State.raises_of_ite id, fun c hc => ?_,
    fun _ h => absurd h List.not_mem_nil⟩
  · simpa [State.Raises] using hb
  · exact s.passDue_eq_true.1 hk
  · exact s.passDue_eq_true.1 hk
  · exact s.passDue_eq_true.1 hk
  · simpa [State.Raises] using hm
  · simpa [State.Raises] using hi
  · simpa [State.Raises] using hi
  · obtain ⟨w, hw, rfl⟩ := Option.map_eq_some_iff.1 hc
    exact State.raises_writeEnd hw
  · obtain ⟨code, hw, rfl⟩ := Option.map_eq_some_iff.1 hc
    exact Port.of_timedOut hw

/-- The event that is raised is one whose own condition holds (logs 3 and 5). -/
theorem State.raises_of_due (h : s.due = some c) : s.Raises c := by
  obtain ⟨e, he, hc⟩ := List.exists_of_findSome?_eq_some h
  exact State.raises_of_mem_dueEvents e he c hc

/-- No event is due exactly where every count and mark is clear (logs 4, 5 and 24). -/
theorem State.due_eq_none_iff (s : State) : s.due = none ↔
    (s.clock.advanceDue = false ∧ s.clock.hourRaised = false ∧ s.clock.assessmentRaised = none
        ∧ s.clock.dayRaised = false ∧ s.horizon.life ≠ some 0)
      ∧ (∀ b, (s.water.basins.get b).settle ≠ some 0)
      ∧ (∀ c p, s.engine.contexts.get c = some p →
          p.primeTimer ≠ some 0 ∧ p.dwellTimer ≠ some 0 ∧ p.limitTimer ≠ some 0)
      ∧ (∀ m, s.control.drainTimers.get m ≠ some 0)
      ∧ (∀ i, (s.field.lines.get i).qualify ≠ some 0 ∧ (s.field.lines.get i).retake ≠ some 0)
      ∧ s.store.write = none ∧ s.startup.initialising ≠ some 0
      ∧ (s.port.selectLeft = 0 → s.port.transaction = .idle ∨ s.port.transaction = .abandoned) := by
  have hc : ∀ {timer : Pass → Option Nat} {f : Fin 8 → Instr},
      firstThat allContexts (s.passDue timer) f = none
        ↔ ∀ c p, s.engine.contexts.get c = some p → timer p ≠ some 0 := by
    intro timer f
    simp only [firstThat_eq_none List.mem_finRange, allContexts, State.passDue_eq_false]
  simp only [State.due, State.dueEvents, List.findSome?_eq_none_iff, List.forall_mem_cons, id, hc,
    firstThat_eq_none List.mem_finRange, firstThat_eq_none mem_allLines, decide_eq_false_iff_not,
    Option.map_eq_none_iff, Port.timedOut_eq_none, ite_eq_right_iff, reduceCtorEq, imp_false,
    Bool.not_eq_true, List.not_mem_nil, false_implies, implies_true, and_true, Option.isSome_eq_false_iff,
    Option.isNone_iff_eq_none]
  constructor
  · rintro ⟨h1, h2, h3, h4, h5, h6, h7, h8, h9, h10, h11, h12, h13, h14, h15⟩
    exact ⟨⟨h1, h2, h3, h4, h5⟩, h6, fun c p hp => ⟨h7 c p hp, h8 c p hp, h9 c p hp⟩, h10,
      fun i => ⟨h11 i, h12 i⟩, h13, h14, h15⟩
  · rintro ⟨⟨h1, h2, h3, h4, h5⟩, h6, h7, h10, h11, h13, h14, h15⟩
    exact ⟨h1, h2, h3, h4, h5, h6, fun c p hp => (h7 c p hp).1, fun c p hp => (h7 c p hp).2.1,
      fun c p hp => (h7 c p hp).2.2, h10, fun i => (h11 i).1, fun i => (h11 i).2, h13, h14, h15⟩

/-- What is due of a read that goes on: its timeout, once its count is out and nothing else is due (08 R149). -/
theorem State.due_of_readCode {u : State} {code : Byte} (hc : s.port.readCode = some code)
    (hu : u = { s with port := { s.port with transaction := .idle } }) :
    (s.port.selectLeft = 0 → u.due = none → s.due = some (.transactionTimeout [code]))
      ∧ (s.port.selectLeft = 0 → ∀ c, u.due = some c → s.due = some c)
      ∧ (s.port.selectLeft ≠ 0 → s.due = u.due) := by
  have ho : u.ownEvents = s.ownEvents := by rw [hu]; rfl
  have hd : u.due = s.ownEvents.findSome? id := by
    rw [u.due_eq, ho, State.timeoutEvent_of_readCode_none (by rw [hu]; rfl), Option.or_none]
  rw [hd, s.due_eq]
  refine ⟨fun h hn => ?_, fun h c hn => ?_, fun h => ?_⟩
  · rw [hn, State.timeoutEvent_of_readCode hc h, Option.none_or]
  · rw [hn, Option.some_or]
  · rw [State.timeoutEvent_of_left h, Option.or_none]

/-! ## A unit of 50 ms -/

theorem step_of_pending_nil (h : s.pending = []) : step s = .next s.idle := by
  simp [step, h]

theorem State.idle_of_dead (h : s.live = false) : s.idle = s.conclude := by
  simp [State.idle, h]

theorem State.idle_of_due (h : s.live = true) (hd : s.due = some c) : s.idle = { s with pending := [c] } := by
  simp [State.idle, h, hd]

/-- Where no event is due, a unit of 50 ms passes (log 2). -/
theorem State.idle_of_nothing_due (h : s.live = true) (hd : s.due = none) : s.idle = s.unit.conclude := by
  simp [State.idle, h, hd]

/-- The part of a unit that every unit has: the port, the clock, the lines and the start-up. -/
def State.tickUnit (s : State) : State :=
  { s with
    port := s.port.tick
    clock := s.clock.unit
    field := { s.field with lines := s.field.lines.tick }
    startup :=
      { s.startup with
        initialising := countDown s.startup.initialising
        phase := (s.startup.phase + 1) % 20 } }

/-- A unit that completes a second is followed by it. -/
theorem State.unit_of_second (h : s.startup.phase % 20 = 19) : s.unit = s.tickUnit.second :=
  if_pos (show (s.startup.phase + 1) % 20 = 0 by omega)

/-- A unit that completes no second is that unit alone. -/
theorem State.unit_of_no_second (h : s.startup.phase % 20 ≠ 19) : s.unit = s.tickUnit :=
  if_neg (show ¬ (s.startup.phase + 1) % 20 = 0 by omega)

/-- What a second leaves to the unit. -/
theorem State.unit_fields (s : State) :
    s.unit.port = s.port.tick ∧ s.unit.clock = s.clock.unit ∧ s.unit.field.lines = s.field.lines.tick
      ∧ s.unit.startup = s.tickUnit.startup ∧ s.unit.statusRecord = s.tickUnit.statusRecord := by
  by_cases h : s.startup.phase % 20 = 19
  · rw [State.unit_of_second h]
    exact ⟨rfl, rfl, rfl, rfl, rfl⟩
  · rw [State.unit_of_no_second h]
    exact ⟨rfl, rfl, rfl, rfl, rfl⟩

/-- No unit changes what a STATUS shows. -/
theorem State.tickUnit_statusRecord (s : State) : s.tickUnit.statusRecord = s.statusRecord := by
  have hb : s.tickUnit.busy = s.busy := by
    simp only [State.busy, State.tickUnit, countDown, Option.isSome_map]
  have hc : s.clock.unit.state = s.clock.state := by
    unfold Clock.unit
    split
    · split <;> rfl
    · rfl
    · rfl
  simp only [State.statusRecord, hb]
  simp only [State.tickUnit, hc, Port.tick]

/-- The port after a unit: a read that goes on streams, with one unit less of its 1.5 s (08 R149). -/
theorem State.unit_conclude_port (s : State) :
    s.unit.conclude.port = s.port.tick.streamed s.statusRecord := by
  obtain ⟨hp, -, -, -, hr⟩ := s.unit_fields
  rw [State.conclude_port, hp, hr, s.tickUnit_statusRecord]

theorem Lines.get_tick (l : Lines) (i : Line) : l.tick.get i = { l.get i with
    qualify := (l.get i).qualify.map (· - 1), retake := (l.get i).retake.map (· - 1) } := by
  cases i <;> simp [Lines.tick, Lines.get, InputLine.tick, countDown]

/-- A second moves the counts of seconds of a pass, and the seconds run of one that is RUNNING (06 R118, R119). -/
theorem Pass.second_eq (p : Pass) : p.second = { p with
      runningSeconds := p.second.runningSeconds, cursorSeconds := p.second.cursorSeconds,
      primeTimer := p.primeTimer.map (· - 1), dwellTimer := p.dwellTimer.map (· - 1),
      limitTimer := p.limitTimer.map (· - 1) }
    ∧ p.second.runningSeconds = p.runningSeconds + (if p.state = .running then 1 else 0)
    ∧ p.second.cursorSeconds = p.cursorSeconds + (if p.state = .running then 1 else 0) := by
  unfold Pass.second
  split
  · exact ⟨rfl, rfl, rfl⟩
  · exact ⟨rfl, rfl, rfl⟩

/-- A RUNNING clock counts twenty units, and then owes an advance (02 R23, R26). -/
theorem Clock.unit_of_running {c : Clock} (h : c.state = .running) :
    (c.fraction < 19 → c.unit = { c with fraction := c.fraction + 1 })
      ∧ (19 ≤ c.fraction → c.unit = { c with fraction := 0, advanceDue := true }) := by
  unfold Clock.unit
  rw [h]
  exact ⟨fun hf => if_pos (by omega), fun hf => if_neg (by omega)⟩

theorem Clock.unit_of_not_running {c : Clock} (h : c.state ≠ .running) : c.unit = c := by
  unfold Clock.unit
  split
  · next hr => exact absurd hr h
  · rfl
  · rfl

end

/-- Settles O2: an idle part raises the event that is due, lets a unit pass or waits; the events due are read off
the list of them. -/
theorem emptyQueueLetsTimePass : Obligations.EmptyQueueLetsTimePass := by
  refine ⟨fun s hp => ⟨fun h => ?_, fun c h hd => ?_, fun h hd => ?_⟩, fun s hp h hd hs => ?_, fun s hp h hd => ?_,
    fun p => rfl, fun s u code hr hu => ?_, fun s received ht hd => ?_, State.due_eq_none_iff,
    fun s c hc => ?_⟩
  · rw [step_of_pending_nil hp, State.idle_of_dead h]
  · rw [step_of_pending_nil hp, State.idle_of_due h hd]
  · rw [step_of_pending_nil hp, State.idle_of_nothing_due h hd]
  · -- a unit that completes a second
    have hport := s.unit_conclude_port
    refine ⟨s.unit.conclude, by rw [step_of_pending_nil hp, State.idle_of_nothing_due h hd], ?_⟩
    rw [State.unit_of_second hs] at hport ⊢
    refine ⟨fun c p hc => ⟨p.second, ?_, p.second_eq⟩, fun c hc => ?_, fun b => ?_, fun m => ?_, ?_⟩
    · simp [State.second, State.tickUnit, hc]
    · simp [State.second, State.tickUnit, hc]
    · simp [State.second, State.tickUnit, countDown]
    · simp [State.second, State.tickUnit, countDown]
    · simp only [State.conclude_horizon, State.conclude_watch, State.conclude_queue, State.conclude_notices,
        State.conclude_geometry, State.conclude_engine, State.conclude_staging, hport]
      exact ⟨rfl, rfl, rfl, rfl, rfl, rfl, trivial, rfl⟩
  · -- a unit of any kind
    obtain ⟨-, hclock, hlines, hstart, -⟩ := s.unit_fields
    refine ⟨s.unit.conclude, by rw [step_of_pending_nil hp, State.idle_of_nothing_due h hd], ?_⟩
    rw [State.conclude_clock, State.conclude_startup, State.conclude_field_lines, hclock, hlines, hstart]
    refine ⟨fun hr => (Clock.unit_of_running hr).1, fun hr => (Clock.unit_of_running hr).2,
      Clock.unit_of_not_running, s.unit_conclude_port, s.field.lines.get_tick, rfl, fun hs => ?_⟩
    rw [State.unit_of_no_second hs]
    rfl
  · -- a read that goes on
    refine State.due_of_readCode ?_ hu
    unfold Port.readCode
    rcases hr with ⟨answer, streams, later, hr⟩ | ⟨rfl, sample, later, hr⟩
    · rw [hr]
    · rw [hr]
  · -- no read goes on
    obtain ⟨-, hi, ha⟩ := State.raises_of_due hd
    exact ht.elim hi ha
  · exact State.raises_of_due hc

end Sys2Proof.Machine

/-! PROOFS. The record port (O4): what a read that has acted leaves, a BUSY port, and a part out of service. -/

namespace Sys2Proof.Machine

section

variable {s : State} {code i j : Byte} {r : Result} {clocked : Clocking} {form : State → Reading} {held n : Nat}

/-! ## The port at the end of a step -/

/-- A step's end sees of the port only what a read that goes on streams, and the other blocks. -/
theorem State.conclude_of_streamed {p q : Port}
    (h : p.streamed ({ s with port := p } : State).statusRecord = q) (hq : q.transaction = .idle) :
    ({ s with port := p } : State).conclude = ({ s with port := q } : State).conclude := by
  have hs : q.streamed ({ s with port := q } : State).statusRecord = q := Port.streamed_of_idle hq _
  have hp : ({ s with port := p } : State).pinsFollowed = ({ s with port := q } : State).pinsFollowed := rfl
  simp only [State.conclude, h, hs, hp]

theorem State.conclude_withPort_of_idle {q : Port} (hq : q.transaction = .idle) :
    ({ s with port := q } : State).conclude.port = q :=
  (State.conclude_port _).trans (Port.streamed_of_idle hq _)

theorem State.portStep_of_live (h : s.live = true) (act : State → State) : s.portStep act = (act s).conclude :=
  if_pos h

theorem State.portStep_of_dead (h : s.live = false) (act : State → State) : s.portStep act = s.conclude :=
  if_neg (by simp [h])

/-- The select of a read in time has not outlasted its 1.5 s (08 R149). -/
theorem State.outlasted_of_selectInTime (h : s.SelectInTime held) : s.port.deselected.outlasted held = false :=
  h.elim (Port.outlasted_of_held _) fun h => Port.outlasted_of_left h _

/-- The select of a read out of time has (08 R149). -/
theorem State.outlasted_of_not_selectInTime (h : ¬ s.SelectInTime held) :
    s.port.deselected.outlasted held = true := by
  simp only [State.SelectInTime, not_or, not_not, not_le] at h
  simp [Port.outlasted, selectUnits, h.1, h.2]

/-! ## Reads that have acted -/

/-- The port of a read that goes on, with no byte sent yet: what its deselect writes, and what it streams. -/
def Port.reads (p : Port) (code : Byte) (answer : Answer) (streams : Bool) (clocked : Clocking) : Port :=
  { p.deselected with
    dataOut := []
    transaction := .reading code answer streams clocked.counts
    selectLeft := max p.deselected.selectLeft (30 - clocked.held) }

/-- The port of a read that goes on after it was refused BUSY (08 R151). -/
def Port.readsBusy (p : Port) (code i : Byte) (clocked : Clocking) : Port :=
  { p with
    command := code, result := .busy, index := i, dataOut := []
    transaction := .reading code none false clocked.counts
    selectLeft := max p.deselected.selectLeft (30 - clocked.held) }

/-- A read that forms a reply is taken whole: it latches the reply and goes on (08 R153). -/
theorem State.read_of_reply (h : s.Accepts) (ht : s.SelectInTime clocked.held) {reply : List Byte}
    (hr : form s = { reply := some reply, result := r, index := j }) :
    s.portStep (fun t => t.openRead code i clocked form) =
      ({ s with port := { s.port.reads code (some (r, j)) true clocked with
          latch := reply } } : State).conclude := by
  rw [State.portStep_of_live h.1, State.openRead_of_reply code i clocked form
    (State.outlasted_of_selectInTime ht) h.2 (congrArg Reading.reply hr), hr]
  rfl

/-- A refused read goes on too, and leaves the latch (08 R153). -/
theorem State.read_of_refused (h : s.Accepts) (ht : s.SelectInTime clocked.held)
    (hr : form s = { reply := none, result := r, index := j }) :
    s.portStep (fun t => t.openRead code i clocked form) =
      ({ s with port := s.port.reads code (some (r, j)) false clocked }
        : State).conclude := by
  rw [State.portStep_of_live h.1, State.openRead_of_none code i clocked form
    (State.outlasted_of_selectInTime ht) h.2 (congrArg Reading.reply hr), hr]
  rfl

/-- A read at a BUSY port is refused at once, and goes on with nothing to write (08 R151). -/
theorem State.read_of_busy (hl : s.live = true) (hb : s.busy = true) (ht : s.SelectInTime clocked.held) :
    s.portStep (fun t => t.openRead code i clocked form) =
      ({ s with port := s.port.readsBusy code i clocked } : State).conclude := by
  have hp : ({ s.port.reads code none false clocked with command := code, result := .busy, index := i } : Port)
      = s.port.readsBusy code i clocked := by
    simp [Port.reads, Port.readsBusy]
  rw [State.portStep_of_live hl, State.openRead_of_busy code i clocked form
    (State.outlasted_of_selectInTime ht) hb, ← hp]
  rfl

/-- A read with all its bytes in one go ends with them: the triple is written and the latch streams. -/
theorem Port.streamed_reads_reply (p : Port) (r : Result) (reply record : List Byte) :
    ({ p.reads code (some (r, i)) true ⟨held, [n]⟩ with latch := reply } : Port).streamed record =
      { command := code, result := r, index := i, latch := reply, dataOut := stream reply n,
        transaction := .idle, selectLeft := 30 } := by
  rw [Port.streamed_of_last rfl, Port.deselected_of_answer rfl]
  simp [Port.readBytes, stream, Port.risen, Port.reads, selectUnits]

/-- A refused read with all its bytes in one go sends zero bytes. -/
theorem Port.streamed_reads_refused (p : Port) (r : Result) (record : List Byte) :
    (p.reads code (some (r, i)) false ⟨held, [n]⟩).streamed record =
      { p with
        command := code, result := r, index := i, dataOut := zeroBytes n, transaction := .idle
        selectLeft := 30 } := by
  rw [Port.streamed_of_last rfl, Port.deselected_of_answer rfl]
  simp [Port.readBytes, Port.risen, Port.reads, zeroBytes, selectUnits]

/-- So does one refused BUSY, which writes nothing at its deselect. -/
theorem Port.streamed_reads_busy (p : Port) (record : List Byte) :
    (p.readsBusy code i ⟨held, [n]⟩).streamed record =
      { p with
        command := code, result := .busy, index := i, dataOut := zeroBytes n, transaction := .idle
        selectLeft := 30 } := by
  rw [Port.streamed_of_last rfl, Port.deselected_of_no_answer rfl (fun _ _ _ _ h => by cases h)]
  simp [Port.readBytes, Port.risen, Port.readsBusy, zeroBytes, selectUnits]

/-- A read that forms a reply, clocked in one go. -/
theorem State.readOnce_of_reply (h : s.Accepts) (ht : s.SelectInTime held) {reply : List Byte}
    (hr : form s = { reply := some reply, result := r, index := j }) :
    s.portStep (fun t => t.openRead code i ⟨held, [n]⟩ form) =
      ({ s with port := {
          command := code, result := r, index := j, latch := reply
          dataOut := stream reply n, transaction := .idle, selectLeft := 30 } } : State).conclude :=
  (State.read_of_reply h ht hr).trans (State.conclude_of_streamed (Port.streamed_reads_reply _ _ _ _) rfl)

/-- A refused read, clocked in one go. -/
theorem State.readOnce_of_refused (h : s.Accepts) (ht : s.SelectInTime held)
    (hr : form s = { reply := none, result := r, index := j }) :
    s.portStep (fun t => t.openRead code i ⟨held, [n]⟩ form) =
      ({ s with port := { s.port with
          command := code, result := r, index := j
          dataOut := zeroBytes n, transaction := .idle, selectLeft := 30 } } : State).conclude :=
  (State.read_of_refused h ht hr).trans (State.conclude_of_streamed (Port.streamed_reads_refused _ _ _) rfl)

/-- A read refused BUSY, clocked in one go. -/
theorem State.readOnce_of_busy (hl : s.live = true) (hb : s.busy = true) (ht : s.SelectInTime held) :
    s.portStep (fun t => t.openRead code i ⟨held, [n]⟩ form) =
      ({ s with port := { s.port with
          command := code, result := .busy, index := i
          dataOut := zeroBytes n, transaction := .idle, selectLeft := 30 } } : State).conclude :=
  (State.read_of_busy hl hb ht).trans (State.conclude_of_streamed (Port.streamed_reads_busy _ _) rfl)

/-! ## A BUSY port, and a part out of service -/

/-- A host command refused BUSY writes its triple and answers nothing (08 R151). -/
theorem State.hostCommand_busy_eq (hl : s.live = true) (hb : s.busy = true) (code i : Byte)
    (act : State → State × Answer) :
    s.hostCommand code i act = ({ s with port := { s.port with
      command := code, result := .busy, index := i, dataOut := zeroBytes 0
      transaction := .idle, selectLeft := 30 } } : State).conclude :=
  State.hostCommand_of_busy hl hb code i act

theorem execReset_of_busy (hl : s.live = true) (hb : s.busy = true) :
    execReset s = .next (s.refuseBusy Code.reset 0) := by
  simp [execReset, hl, hb]

theorem execReset_of_dead (h : s.live = false) : execReset s = .next s.conclude := by
  simp [execReset, h]

/-- A part out of service takes nothing but the supply, RSTN and the levels at its pins (logs 11 and 12). -/
theorem exec_of_dead (c : Instr) (h : s.live = false) (hon : c ≠ .powerOn) (hloss : c ≠ .powerLoss)
    (hlow : c ≠ .resetLine) (hhigh : c ≠ .resetLineRelease) (hraw : ∀ i h, c ≠ .rawLineChange i h) :
    exec c s = .next s.conclude := by
  cases c with
  | powerOn => exact absurd rfl hon
  | powerLoss => exact absurd rfl hloss
  | resetLine => exact absurd rfl hlow
  | resetLineRelease => exact absurd rfl hhigh
  | rawLineChange i level => exact absurd rfl (hraw i level)
  | reset => exact execReset_of_dead h
  | status | look | locate | notices | ident | unknownCommand | shortParameterDeselect | transactionTimeout =>
    exact congrArg Host.Outcome.next (State.portStep_of_dead h _)
  | stage | fill | matchBuffer | commit | retire | clockHold | clockSet | clockRun | forecast | observe | order
  | withdraw | inflow | gauge | isolate | restore | clear | hold | drain | resume | acknowledge | fix | close
  | tag =>
    exact congrArg Host.Outcome.next (State.hostCommand_of_dead h _ _ _)
  | fixWriteEnd | closeWriteEnd | tagWriteEnd | initialisationEnd | yardClockAdvance | assessment | hourRollover
  | dayRollover | observationLifeExpiry | settleTimerExpiry | primeTimerExpiry | bayDwellExpiry
  | suspensionLimitExpiry | drainTimerExpiry | qualifyingTimerExpiry | reTakeTimerExpiry =>
    exact congrArg Host.Outcome.next (State.event_of_dead h _)

/-- A level at a pin moves also then, and nothing follows (logs 11 and 12). -/
theorem exec_rawLineChange_of_dead (line : Line) (high : Bool) (h : s.live = false) :
    exec (.rawLineChange line high) s = .next (s.mapLine line fun x => { x with raw := high }).conclude := by
  change execRawLineChange line high s = _
  simp [execRawLineChange, h]

end

/-- Settles O4: a BUSY port refuses each command through one of the three ways in, and a part out of service takes
none. -/
theorem busyOrDeadPart : Obligations.BusyOrDeadPart := by
  refine ⟨fun s a b c d u v w h data held n hl hb ht => ?_, fun s a b clocked hl hb ht => ?_,
    fun c s h h1 h2 h3 h4 h5 => exec_of_dead c h h1 h2 h3 h4 h5,
    fun s i high h => exec_rawLineChange_of_dead i high h⟩
  · have read := fun code i form => congrArg (Host.Outcome.next (φ := Fault) (ρ := Refusal))
      (State.readOnce_of_busy (code := code) (i := i) (form := form) (n := n) hl hb ht)
    have command := fun code i act => congrArg (Host.Outcome.next (φ := Fault) (ρ := Refusal))
      (State.hostCommand_busy_eq hl hb code i act)
    simp only [List.forall_mem_cons]
    exact ⟨read _ _ _, read _ _ _, read _ _ _, read _ _ _, command _ _ _, command _ _ _, command _ _ _,
      command _ _ _, command _ _ _, command _ _ _, command _ _ _, command _ _ _, command _ _ _, command _ _ _,
      command _ _ _, command _ _ _, command _ _ _, command _ _ _, command _ _ _, command _ _ _, command _ _ _,
      command _ _ _, command _ _ _, command _ _ _, command _ _ _, command _ _ _, command _ _ _, command _ _ _,
      command _ _ _, execReset_of_busy hl hb, fun _ h => absurd h List.not_mem_nil⟩
  · have read := fun code i form => congrArg (Host.Outcome.next (φ := Fault) (ρ := Refusal))
      (State.read_of_busy (code := code) (i := i) (form := form) hl hb ht)
    simp only [List.forall_mem_cons]
    exact ⟨read _ _ _, read _ _ _, read _ _ _, read _ _ _, fun _ h => absurd h List.not_mem_nil⟩

end Sys2Proof.Machine

/-! PROOFS. The replies of STATUS, NOTICES and IDENT (O5): quantities in bytes, sets of flags, and what a read that
goes on streams at the end of a step. -/

namespace Sys2Proof.Machine

section

/-! ## Quantities in bytes (10 R173) -/

theorem bytesOf_one (v : Nat) : bytesOf 1 v = [BitVec.ofNat 8 v] := by
  simp [bytesOf, List.range_succ]

theorem bytesOf_two (v : Nat) : bytesOf 2 v = [BitVec.ofNat 8 (v / 256), BitVec.ofNat 8 v] := by
  simp [bytesOf, List.range_succ]

theorem bytesOf_three (v : Nat) :
    bytesOf 3 v = [BitVec.ofNat 8 (v / 65536), BitVec.ofNat 8 (v / 256), BitVec.ofNat 8 v] := by
  simp [bytesOf, List.range_succ]

theorem bytesOf_four (v : Nat) : bytesOf 4 v =
    [BitVec.ofNat 8 (v / 16777216), BitVec.ofNat 8 (v / 65536), BitVec.ofNat 8 (v / 256), BitVec.ofNat 8 v] := by
  simp [bytesOf, List.range_succ]

/-- The two bytes of a quantity side by side are the quantity. -/
theorem append_bytes_of_lt {v : Nat} (h : v < 65536) :
    BitVec.ofNat 8 (v / 256) ++ BitVec.ofNat 8 v = BitVec.ofNat 16 v := by
  apply BitVec.eq_of_toNat_eq
  have hl : v % 256 < 2 ^ 8 := Nat.mod_lt _ (by decide)
  rw [BitVec.toNat_append, BitVec.toNat_ofNat, BitVec.toNat_ofNat, BitVec.toNat_ofNat,
    ← Nat.shiftLeft_add_eq_or_of_lt hl, Nat.shiftLeft_eq]
  omega

theorem flatMap_bytesOf_one {α : Type} (l : List α) (f : α → Nat) :
    l.flatMap (fun x => bytesOf 1 (f x)) = l.map fun x => BitVec.ofNat 8 (f x) := by
  simp only [bytesOf_one, List.map_eq_flatMap]

/-! ## Sets of flags -/

/-- The first `n` members of a set of flags as a number. -/
theorem testBit_foldl_flags (f : Nat → Bool) (n : Nat) :
    let v := (List.range n).foldl (fun a k => if f k then a + 2 ^ k else a) 0
    v < 2 ^ n ∧ ∀ k, k < n → v.testBit k = f k := by
  induction n with
  | zero => simp
  | succ n ih =>
    obtain ⟨hlt, hbit⟩ := ih
    simp only [List.range_succ, List.foldl_append, List.foldl_cons, List.foldl_nil]
    generalize (List.range n).foldl (fun a k => if f k then a + 2 ^ k else a) 0 = v at hlt hbit ⊢
    split
    · next hf =>
      refine ⟨by omega, fun k hk => ?_⟩
      rw [Nat.add_comm]
      rcases Nat.lt_succ_iff_lt_or_eq.1 hk with h | rfl
      · rw [Nat.testBit_two_pow_add_gt h, hbit k h]
      · rw [Nat.testBit_two_pow_add_eq, Nat.testBit_lt_two_pow hlt, hf]
        rfl
    · next hf =>
      refine ⟨by omega, fun k hk => ?_⟩
      rcases Nat.lt_succ_iff_lt_or_eq.1 hk with h | rfl
      · exact hbit k h
      · rw [Nat.testBit_lt_two_pow hlt, Bool.eq_false_iff.2 hf]

/-- A set of flags fits in a bit for each member, bit k for member k (10 R173). -/
theorem setCode_spec {n : Nat} (t : Table n Bool) :
    setCode t < 2 ^ n ∧ ∀ k : Fin n, (setCode t).testBit k.val = t.get k := by
  have hf : ∀ k : Fin n, (if h : k.val < n then t.get ⟨k.val, h⟩ else false) = t.get k := fun k => by simp
  have he : setCode t = (List.range n).foldl
      (fun a k => if (if h : k < n then t.get ⟨k, h⟩ else false) then a + 2 ^ k else a) 0 := by
    rw [setCode, ← List.map_coe_finRange_eq_range, List.foldl_map]
    simp only [hf]
  obtain ⟨hlt, hbit⟩ := testBit_foldl_flags (fun k => if h : k < n then t.get ⟨k, h⟩ else false) n
  rw [← he] at hlt hbit
  exact ⟨hlt, fun k => (hbit k.val k.isLt).trans (hf k)⟩

/-- The two bytes of a set of nine flags. -/
theorem setCode_bytes (t : Table 9 Bool) :
    (∀ k : Fin 9, (BitVec.ofNat 8 (setCode t / 256) ++ BitVec.ofNat 8 (setCode t)).getLsbD k.val = t.get k)
      ∧ (BitVec.ofNat 8 (setCode t / 256) ++ BitVec.ofNat 8 (setCode t)).toNat < 512 := by
  obtain ⟨hlt, hbit⟩ := setCode_spec t
  rw [append_bytes_of_lt (by omega)]
  refine ⟨fun k => ?_, ?_⟩
  · rw [BitVec.getLsbD_ofNat, hbit k]
    simp; omega
  · rw [BitVec.toNat_ofNat]
    omega

end

section

variable {s : State} {held n : Nat} {later : List Nat} {sample record : List Byte} {code : Byte} {answer : Answer}
  {streams : Bool}

/-! ## STATUS (08 R152) -/

theorem Notices.attention_iff (n : Notices) :
    n.attention = true ↔ ∃ k, n.pending.get k = true ∧ n.enables.get k = true := by
  simp [Notices.attention]

theorem YardMode.code_le (m : YardMode) : m.code ≤ 3 := by cases m <;> decide

theorem ClockState.code_le (c : ClockState) : c.code ≤ 2 := by cases c <;> decide

/-- The status byte of a state: BUSY, the yard mode, the clock state and ATTN (10, section 10.4). -/
theorem State.statusByte_toNat (s : State) :
    (BitVec.ofNat 8 (128 * flagCode s.busy + 32 * s.control.mode.code + 8 * s.clock.state.code
      + 4 * flagCode s.notices.attention)).toNat
    = (if s.busy then 128 else 0) + 32 * s.control.mode.code + 8 * s.clock.state.code
      + (if ∃ k, s.notices.pending.get k = true ∧ s.notices.enables.get k = true then 4 else 0) := by
  have hm := s.control.mode.code_le
  have hc := s.clock.state.code_le
  have ha : 4 * flagCode s.notices.attention
      = if ∃ k, s.notices.pending.get k = true ∧ s.notices.enables.get k = true then 4 else 0 := by
    simp only [flagCode, ← Notices.attention_iff, mul_ite, mul_one, mul_zero]
  have hb : 128 * flagCode s.busy = if s.busy then 128 else 0 := by
    simp only [flagCode, mul_ite, mul_one, mul_zero]
  rw [ha, hb, BitVec.toNat_ofNat]
  split <;> split <;> omega

/-- The port of a STATUS begun, with no byte sent yet. -/
def Port.samples (p : Port) (clocked : Clocking) : Port :=
  { p.deselected with
    dataOut := []
    transaction := .streaming [] clocked.counts
    selectLeft := max p.deselected.selectLeft (30 - clocked.held) }

/-- A STATUS in time begins, also while BUSY (08 R152). -/
theorem exec_status_of_live (h : s.live = true) {clocked : Clocking} (ht : s.SelectInTime clocked.held) :
    exec (.status clocked) s = .next ({ s with port := s.port.samples clocked } : State).conclude := by
  change Host.Outcome.next (s.portStep fun t => t.beginStatus clocked) = _
  rw [State.portStep_of_live h, State.beginStatus, State.readSelect_of_inTime _ (State.outlasted_of_selectInTime ht)]
  rfl

/-- What a STATUS shows of a port does not depend on what the port has sent. -/
theorem State.statusRecord_samples (s : State) (clocked : Clocking) :
    ({ s with port := s.port.samples clocked } : State).statusRecord
      = ({ s with port := s.port.deselected } : State).statusRecord := rfl

theorem State.statusRecord_length (s : State) : s.statusRecord.length = 4 := rfl

/-- The first bytes of a STATUS all show the record of the moment. -/
theorem statusBytes_nil (hr : record.length = 4) (n : Nat) :
    statusBytes [] record n
      = ((List.range n).map fun k => record.getD (k % 4) 0, record.drop (if n % 4 = 0 then 4 else n % 4)) := by
  have hd : record.drop 4 = [] := List.drop_eq_nil_of_le hr.le
  simp only [statusBytes, List.length_nil, Nat.sub_zero, List.take_nil, List.nil_append, stream, hr,
    Nat.le_zero, List.drop_nil]
  congr 1
  by_cases h0 : n = 0
  · simp [h0, hd]
  · rw [if_neg h0]
    by_cases h4 : n % 4 = 0
    · simp [h4, hd]
    · simp [h4]

/-- A STATUS with more bytes to come after the next event. -/
theorem Port.streamed_of_streaming_more {p : Port} (h : p.transaction = .streaming sample (n :: later))
    (hl : later ≠ []) : p.streamed record =
      { p with
        dataOut := p.dataOut ++ (statusBytes sample record n).1
        transaction := .streaming (statusBytes sample record n).2 later } := by
  simp [Port.streamed, h, hl]

/-- A STATUS with its last bytes ends with them. -/
theorem Port.streamed_of_streaming_last {p : Port} (h : p.transaction = .streaming sample [n]) :
    p.streamed record =
      { p with
        dataOut := p.dataOut ++ (statusBytes sample record n).1, transaction := .idle, selectLeft := 30 } := by
  simp only [Port.streamed, h, if_true]
  rfl

/-- The bytes of a STATUS: the rest of the repeat in progress, then repeats of the record. -/
theorem statusBytes_spec (hr : record.length = 4) (sample : List Byte) (n : Nat) :
    (statusBytes sample record n).1.length = n
      ∧ (∀ k, k < n → k < sample.length → (statusBytes sample record n).1[k]? = sample[k]?)
      ∧ (∀ k, k < n → sample.length ≤ k →
          (statusBytes sample record n).1[k]? = record[(k - sample.length) % 4]?)
      ∧ (n ≤ sample.length → (statusBytes sample record n).2 = sample.drop n)
      ∧ (sample.length < n → ∀ k, (n - sample.length) % 4 = k →
          (k = 0 → (statusBytes sample record n).2 = [])
            ∧ (k ≠ 0 → (statusBytes sample record n).2 = record.drop k)) := by
  have hlen : (stream record (n - sample.length)).length = n - sample.length := by simp [stream]
  simp only [statusBytes]
  refine ⟨?_, fun k hk hs => ?_, fun k hk hs => ?_, fun h => if_pos h, fun h k hk => ?_⟩
  · rw [List.length_append, List.length_take, hlen]
    omega
  · rw [List.getElem?_append_left (by rw [List.length_take]; omega), List.getElem?_take_of_lt hk]
  · have hlt : (k - sample.length) % 4 < record.length := by omega
    rw [List.take_of_length_le (by omega), List.getElem?_append_right hs, stream, List.getElem?_map,
      List.getElem?_range (by omega), hr, Option.map_some, List.getElem?_eq_getElem hlt,
      List.getD_eq_getElem _ _ hlt]
  · rw [if_neg (by omega), hk]
    exact ⟨fun h0 => if_pos h0, fun h0 => if_neg h0⟩

/-! ## The deselect, and a read that goes on -/

/-- The deselect of each kind of transaction (08 R150). -/
theorem Port.deselected_spec (p : Port) :
    (∀ code result index streams later,
        p.transaction = .reading code (some (result, index)) streams later →
        p.deselected =
          { p with command := code, result, index, transaction := .idle, selectLeft := 30 })
      ∧ (((∃ code streams later, p.transaction = .reading code none streams later)
          ∨ ∃ sample later, p.transaction = .streaming sample later) →
        p.deselected = { p with transaction := .idle, selectLeft := 30 })
      ∧ (p.transaction = .idle ∨ p.transaction = .abandoned →
        p.deselected = { p with transaction := .idle }) := by
  refine ⟨fun _ _ _ _ _ h => Port.deselected_of_answer h, ?_, ?_⟩
  · rintro (⟨_, _, _, h⟩ | ⟨_, _, h⟩) <;> simp only [Port.deselected, h] <;> rfl
  · rintro (h | h)
    · have hp : p.deselected = p := by simp only [Port.deselected, h]
      rw [hp]
      cases p
      simp_all
    · simp only [Port.deselected, h]

/-- A read that goes on sends its bytes; with the last of them it is deselected (08 R153; log 16). -/
theorem Port.streamed_of_reading {p q : Port} (h : p.transaction = .reading code answer streams (n :: later))
    (hq : q = { p with
      dataOut := p.dataOut ++ (List.range n).map fun k =>
        if streams then p.latch.getD ((p.dataOut.length + k) % p.latch.length) 0 else 0
      transaction := .reading code answer streams later }) :
    (later ≠ [] → p.streamed record = q) ∧ (later = [] → p.streamed record = q.deselected) := by
  have hb : p.readBytes streams n = (List.range n).map fun k =>
      if streams then p.latch.getD ((p.dataOut.length + k) % p.latch.length) 0 else 0 := by
    cases streams <;> simp [Port.readBytes]
  rw [← hb] at hq
  subst hq
  simp only [Port.streamed, h]
  exact ⟨fun hl => if_neg hl, fun hl => if_pos hl⟩

/-- A read with no bytes left is deselected. -/
theorem Port.streamed_of_no_bytes {p : Port}
    (h : p.transaction = .reading code answer streams [] ∨ p.transaction = .streaming sample []) :
    p.streamed record = p.deselected := by
  rcases h with h | h <;> simp only [Port.streamed, h]

/-! ## NOTICES and IDENT (09 R167, R169) -/

theorem ofNat_flagCode (b : Bool) : BitVec.ofNat 8 (flagCode b) = if b then 1 else 0 := by
  cases b <;> rfl

theorem State.noticesReply_eq (s : State) :
    s.noticesReply = BitVec.ofNat 8 (setCode s.notices.pending / 256) :: BitVec.ofNat 8 (setCode s.notices.pending)
      :: (if s.notices.allFaulted then 1 else 0)
      :: ((List.finRange 9).map fun k => BitVec.ofNat 8 (s.notices.subjects.get k))
      ++ [BitVec.ofNat 8 s.watch.mustCount] := by
  have hs : (Table.list s.notices.subjects).flatMap (bytesOf 1)
      = (List.finRange 9).map fun k => BitVec.ofNat 8 (s.notices.subjects.get k) := by
    rw [Table.list, List.flatMap_map, flatMap_bytesOf_one]
  simp only [State.noticesReply, bytesOf_one, bytesOf_two, hs, ofNat_flagCode]
  rfl

theorem Geometry.fixedCount_eq (g : Geometry) : g.fixedCount = ((List.finRange 16).filter g.isFixed).length := rfl

theorem State.identReply_eq (s : State) :
    s.identReply = 0x59 :: 0x18 :: BitVec.ofNat 8 (65 + Config.revisionLetter.val)
        :: bytesOf 8 s.store.unitNumber.toNat
      ++ [if s.store.closed then 1 else 0,
          BitVec.ofNat 8 ((List.finRange 16).filter s.geometry.isFixed).length,
          if s.store.tag.isSome then 1 else 0]
      ++ s.store.tag.getD (List.replicate 16 0) := by
  simp only [State.identReply, bytesOf_one, bytesOf_two, ofNat_flagCode, Geometry.fixedCount_eq, blankTag]
  simp

end

/-- Settles O5: each read is begun, streams and is deselected as the rules of the port say. -/
theorem repliesOfTheReadCommands : Obligations.RepliesOfTheReadCommands := by
  refine ⟨fun s u held n h ht hu => ?_, fun s u held n later h ht hu hl => ?_, fun s sample n later h => ?_,
    fun s code answer streams n later q h hq => ?_, fun s code answer streams sample h => ?_, Port.deselected_spec,
    fun s held n clocked h ht htc => ⟨?_, ?_⟩⟩
  · -- STATUS in one go
    subst hu
    refine ⟨_, s.statusByte_toNat, rfl, ?_⟩
    rw [exec_status_of_live h (clocked := ⟨held, [n]⟩) ht]
    refine congrArg Host.Outcome.next (State.conclude_of_streamed ?_ rfl)
    rw [Port.streamed_of_streaming_last rfl, statusBytes_nil (State.statusRecord_length _)]
    rfl
  · -- STATUS that goes on
    subst hu
    refine ⟨_, exec_status_of_live h (clocked := ⟨held, n :: later⟩) ht, ?_, ?_⟩
    · rw [State.conclude_frame, State.conclude_port, State.conclude_field_log]
      rfl
    · simp only [State.conclude_watch, State.conclude_queue, State.conclude_engine, State.conclude_water,
        State.conclude_notices, State.conclude_port, true_and]
      rw [Port.streamed_of_streaming_more rfl hl, statusBytes_nil (State.statusRecord_length _)]
      rfl
  · -- a STATUS that has been going on
    refine ⟨_, _, ?_, statusBytes_spec s.statusRecord_length sample n⟩
    rw [State.conclude_port]
    by_cases hl : later = []
    · rw [hl] at h ⊢
      exact Port.streamed_of_streaming_last h
    · rw [Port.streamed_of_streaming_more h hl]
      simp [hl]
  · rw [State.conclude_port]
    exact Port.streamed_of_reading h hq
  · rw [State.conclude_port]
    exact Port.streamed_of_no_bytes h
  · -- NOTICES
    refine ⟨_, _, fun reply hr => ⟨(setCode_bytes s.notices.pending).1, (setCode_bytes s.notices.pending).2, ?_⟩⟩
    obtain rfl : reply = s.noticesReply := hr.trans s.noticesReply_eq.symm
    exact ⟨congrArg Host.Outcome.next (State.readOnce_of_reply h ht rfl),
      congrArg Host.Outcome.next (State.read_of_reply h htc rfl)⟩
  · -- IDENT
    refine ⟨_, rfl, fun reply hr => ?_⟩
    obtain rfl : reply = s.identReply := hr.trans s.identReply_eq.symm
    exact ⟨congrArg Host.Outcome.next (State.readOnce_of_reply h ht rfl),
      congrArg Host.Outcome.next (State.read_of_reply h htc rfl)⟩

end Sys2Proof.Machine

/-! PROOFS. LOCATE (O8), and LOOK of an order (O7). -/

namespace Sys2Proof.Machine

section

variable {s : State} {g : Geometry} {bed : Fin 8} {bay : Nat} {b y : Byte}

/-! ## What stands at a bay (01 R21) -/

theorem inWindow_iff {start length bay : Nat} :
    inWindow start length bay = true ↔ start ≤ bay ∧ bay < start + length := by
  simp [inWindow]

/-- Two windows that hold one bay meet. -/
theorem windowsMeet_of_bay {s₁ n₁ s₂ n₂ : Nat} (h₁ : s₁ ≤ bay) (h₁' : bay < s₁ + n₁) (h₂ : s₂ ≤ bay)
    (h₂' : bay < s₂ + n₂) : windowsMeet s₁ n₁ s₂ n₂ = true := by
  simp only [windowsMeet, Bool.and_eq_true, decide_eq_true_eq]
  omega

/-- The pile that LOCATE finds is on the bed and holds the bay. -/
theorem Geometry.of_pileAt {i : Fin 48} (h : g.pileAt bed bay = some i) :
    ∃ p, g.piles.get i = some p ∧ p.bed = bed ∧ p.start ≤ bay ∧ bay < p.start + p.length := by
  have hi := List.find?_some h
  cases hp : g.piles.get i with
  | none => simp [hp] at hi
  | some p =>
    simp only [hp, Bool.and_eq_true, decide_eq_true_eq, inWindow_iff] at hi
    exact ⟨p, rfl, hi.1, hi.2⟩

/-- With the placement laws LOCATE finds the one pile whose window holds the bay. -/
theorem Geometry.pileAt_of_pile (hd : g.Disjoint) (hx : g.Indexed) {i : Fin 48} {p : Pile}
    (hp : g.piles.get i = some p) (hb : p.bed = bed) (h₁ : p.start ≤ bay) (h₂ : bay < p.start + p.length) :
    g.pileAt bed bay = some i := by
  cases hj : g.pileAt bed bay with
  | none =>
    have hi := List.find?_eq_none.1 hj i ((hx.1 bed i).2 ⟨p, hp, hb⟩)
    simp [hp, hb, inWindow_iff.2 ⟨h₁, h₂⟩] at hi
  | some j =>
    obtain ⟨q, hq, hqb, hq₁, hq₂⟩ := Geometry.of_pileAt hj
    by_contra hne
    have hm := hd i j p q (fun h => hne (h ▸ rfl)) hp hq (hb.trans hqb.symm)
    rw [windowsMeet_of_bay h₁ h₂ hq₁ hq₂] at hm
    cases hm

/-- LOCATE finds none where no window holds the bay. -/
theorem Geometry.pileAt_eq_none (h : ∀ i p, g.piles.get i = some p → p.bed = bed → p.start ≤ bay →
    p.start + p.length ≤ bay) : g.pileAt bed bay = none := by
  cases hj : g.pileAt bed bay with
  | none => rfl
  | some j =>
    obtain ⟨q, hq, hqb, hq₁, hq₂⟩ := Geometry.of_pileAt hj
    exact absurd (h j q hq hqb hq₁) (Nat.not_le.2 hq₂)

/-- The bay lies inside an exclusion where a present exclusion on the bed holds it (01 R14). -/
theorem Geometry.excluded_iff : g.excluded bed bay = true ↔
    ∃ i e, g.exclusions.get i = some e ∧ e.bed = bed ∧ e.start ≤ bay ∧ bay < e.start + e.length := by
  rw [Geometry.excluded, Table.any_eq_true]
  refine exists_congr fun i => ?_
  cases he : g.exclusions.get i <;> simp [inWindow_iff]

theorem Geometry.fixedAt_iff : g.fixedAt bed bay = true ↔ ∃ i e, g.exclusions.get i = some e ∧ e.bed = bed
    ∧ e.fixed = true ∧ e.start ≤ bay ∧ bay < e.start + e.length := by
  rw [Geometry.fixedAt, Table.any_eq_true]
  refine exists_congr fun i => ?_
  cases he : g.exclusions.get i with
  | none => simp
  | some e =>
    simp only [Bool.and_eq_true, decide_eq_true_eq, inWindow_iff, Option.some.injEq, exists_eq_left']
    tauto

theorem Geometry.mem_cannonsAt {k : Fin 24} : k ∈ g.cannonsAt bed bay ↔ ∃ c, g.cannons.get k = some c
    ∧ c.bed = bed ∧ c.reachStart ≤ bay ∧ bay < c.reachStart + c.reachLength := by
  rw [Geometry.cannonsAt, List.mem_filter]
  cases hk : g.cannons.get k <;> simp [inWindow_iff]

theorem Geometry.cannonsAt_pairwise : (g.cannonsAt bed bay).Pairwise (· < ·) :=
  (List.pairwise_lt_finRange 24).filter _

/-! ## The reply to LOCATE -/

/-- The byte of the pile found, 0xFF for none. -/
def pileByte (i : Option (Fin 48)) : Byte := BitVec.ofNat 8 (orAbsent 1 (i.map (·.val)))

theorem pileByte_some (i : Fin 48) : (pileByte (some i)).toNat = i.val :=
  Nat.mod_eq_of_lt (Nat.lt_trans i.isLt (by decide))

theorem pileByte_none : pileByte none = 0xFF := rfl

/-- Two flags in one byte. -/
theorem flagPair_spec (a c : Bool) :
    (BitVec.ofNat 8 (flagCode a + 2 * flagCode c)).getLsbD 0 = a
      ∧ (BitVec.ofNat 8 (flagCode a + 2 * flagCode c)).getLsbD 1 = c
      ∧ (BitVec.ofNat 8 (flagCode a + 2 * flagCode c)).toNat < 4 := by
  cases a <;> cases c <;> decide

theorem State.locate_of_lt (s : State) (hb : b.toNat = bed.val) (hy : y.toNat < 160) :
    s.locate b y = { reply := some (s.geometry.locateReply bed y.toNat), result := .done, index := b } := by
  simp only [State.locate, index?_of_toNat_eq hb, if_pos hy]

/-- A bed or a bay out of range is refused with the bed as index (01 R21; log 13). -/
theorem State.locate_of_le (s : State) (h : 7 < b.toNat ∨ 159 < y.toNat) :
    s.locate b y = { reply := none, result := .range, index := b } := by
  unfold State.locate
  split
  · next i hi =>
    have hy : ¬ y.toNat < 160 := by
      rcases h with h | h
      · rw [index?_of_le (by omega)] at hi
        cases hi
      · omega
    rw [if_neg hy]
  · rfl

end

/-- Settles O8: the reply is read off the window index, the exclusions and the cannons of the bed. -/
theorem locateReports : Obligations.LocateReports := by
  refine ⟨fun s bed b y held n clocked h ht htc hd hx hb hy => ?_, fun s b y held n clocked h ht htc hr => ?_⟩
  · have hl := s.locate_of_lt hb hy
    obtain ⟨hf₀, hf₁, hf⟩ := flagPair_spec (s.geometry.excluded bed y.toNat) (s.geometry.fixedAt bed y.toNat)
    refine ⟨pileByte (s.geometry.pileAt bed y.toNat), _, s.geometry.cannonsAt bed y.toNat,
      s.geometry.locateReply bed y.toNat, rfl, ?_, ?_, fun i p hp hpb h₁ h₂ => ?_, fun hn => ?_,
      by rw [hf₀]; exact Geometry.excluded_iff, by rw [hf₁]; exact Geometry.fixedAt_iff, hf,
      Geometry.cannonsAt_pairwise, fun k => Geometry.mem_cannonsAt⟩
    · exact congrArg Host.Outcome.next (State.readOnce_of_reply (form := fun t => t.locate b y) h ht hl)
    · exact congrArg Host.Outcome.next (State.read_of_reply (form := fun t => t.locate b y) h htc hl)
    · rw [Geometry.pileAt_of_pile hd hx hp hpb h₁ h₂, pileByte_some]
    · rw [Geometry.pileAt_eq_none hn, pileByte_none]
  · have hl := s.locate_of_le hr
    exact ⟨congrArg Host.Outcome.next (State.readOnce_of_refused (form := fun t => t.locate b y) h ht hl),
      congrArg Host.Outcome.next (State.read_of_refused (form := fun t => t.locate b y) h htc hl)⟩

end Sys2Proof.Machine

/-! PROOFS. LOOK: what it copies (O6), and the queue (O7). -/

namespace Sys2Proof.Machine

section

variable {s : State} {cls index : Byte} {k : RecordClass} {code : Byte} {r : Result} {i : Byte} {streams : Bool}
  {later : List Nat} {p : Port}

/-! ## The tests of LOOK and its reply (08 R153, R154) -/

theorem State.look_of_some {bytes : List Byte} (hk : classOf cls = some k) (hi : index.toNat < k.size)
    (hc : s.copy k index.toNat = some bytes) :
    s.look cls index = { reply := some bytes, result := .done, index } := by
  simp only [State.look, hk, if_pos hi, State.lookAt, hc]

theorem State.look_of_none (hk : classOf cls = some k) (hi : index.toNat < k.size)
    (hc : s.copy k index.toNat = none) :
    s.look cls index = { reply := some [0xEE], result := .absent, index } := by
  simp only [State.look, hk, if_pos hi, State.lookAt, hc, absentMarker]

/-- LOOK of a class and an index in range replies with the copy or the absent marker. -/
theorem State.look_of_lt (hk : classOf cls = some k) (hi : index.toNat < k.size) :
    s.look cls index = { reply := some ((s.copy k index.toNat).getD [0xEE])
                         result := if (s.copy k index.toNat).isSome then .done else .absent, index } := by
  cases hc : s.copy k index.toNat with
  | none => exact State.look_of_none hk hi hc
  | some bytes => exact State.look_of_some hk hi hc

/-- LOOK of an unknown class or an index out of range is refused. -/
theorem State.look_of_refused (h : classOf cls = none ∨ ∃ k, classOf cls = some k ∧ k.size ≤ index.toNat) :
    s.look cls index
      = { reply := none, result := .range, index := if classOf cls = none then 0 else index } := by
  rcases h with hk | ⟨k, hk, hi⟩
  · simp only [State.look, hk, if_true]
  · simp only [State.look, hk, if_neg (Nat.not_lt.2 hi), reduceCtorEq, if_false]

/-! ## A read at its last bytes -/

theorem Port.streamed_latch (p : Port) (record : List Byte) : (p.streamed record).latch = p.latch := by
  unfold Port.streamed
  split
  · split
    · exact Port.deselected_latch _
    · rfl
  · split
    · exact Port.deselected_latch _
    · rfl
  · exact Port.deselected_latch _
  · exact Port.deselected_latch _
  · rfl
  · rfl

/-- A read with no more than one count of bytes to come writes its triple at the end of the step. -/
theorem Port.streamed_result (h : p.transaction = .reading code (some (r, i)) streams later)
    (hl : later.length ≤ 1) (record : List Byte) : (p.streamed record).result = r := by
  match later, hl with
  | [], _ =>
    rw [Port.streamed_of_no_bytes (sample := []) (.inl h), Port.deselected_of_answer h]
  | [n], _ =>
    rw [Port.streamed_of_last h, Port.deselected_of_answer rfl]

/-- The triple that the end of a command writes. -/
theorem State.commandEnd_result (s : State) (code : Byte) (r : Result) (i : Byte) :
    (s.commandEnd code (some (r, i))).port.result = r :=
  congrArg (fun f => f.port.result) (s.commandEnd_frame code (some (r, i)))

theorem State.commandEnd_staging (s : State) (code : Byte) (a : Answer) :
    (s.commandEnd code a).staging = s.staging :=
  congrArg Frame.staging (s.commandEnd_frame code a)

/-- Where no attempt is asked for, the end of a command leaves the queue alone. -/
theorem State.commandEnd_queue (h : s.NoneAsked) (code : Byte) (a : Answer) :
    (s.commandEnd code a).queue = s.queue := by
  rw [s.commandEnd_eq code a (State.runAttempts_of_noneAsked none h).symm]

theorem State.retire_of_not_retirable (s : State) (index : Byte) (hk : classOf cls = some k)
    (hr : k.retirable = false) : s.retire cls index = (s, some (.range, 0)) := by
  simp [State.retire, hk, hr]

/-! ## The bytes of an order (05 R105) -/

theorem classOf_order : classOf 11 = some .order := rfl

/-- The bytes of an order as LOOK shows it, absent parts and name as 0xFF. -/
def orderBytes (o : Order) : List Byte :=
  [BitVec.ofNat 8 o.pile.val,
   (match o.watch with | none => 0xFF | some .may => 1 | some .need => 2 | some .must => 3),
   (match o.operator with | none => 0xFF | some .normal => 0 | some .high => 1),
   (match o.named with | none => 0xFF | some k => BitVec.ofNat 8 k.val),
   BitVec.ofNat 8 (o.entered.day / 256), BitVec.ofNat 8 o.entered.day,
   BitVec.ofNat 8 (o.entered.second / 65536), BitVec.ofNat 8 (o.entered.second / 256),
   BitVec.ofNat 8 o.entered.second, BitVec.ofNat 8 o.rank, BitVec.ofNat 8 o.waiting.code]

theorem ofNat_orAbsent_watch (w : Option Want) : BitVec.ofNat 8 (orAbsent 1 (w.map Want.code)) =
    match w with | none => 0xFF | some .may => 1 | some .need => 2 | some .must => 3 := by
  rcases w with _ | _ | _ | _ <;> rfl

theorem ofNat_orAbsent_operator (o : Option Priority) : BitVec.ofNat 8 (orAbsent 1 (o.map Priority.code)) =
    match o with | none => 0xFF | some .normal => 0 | some .high => 1 := by
  rcases o with _ | _ | _ <;> rfl

theorem ofNat_orAbsent_named (k : Option (Fin 24)) : BitVec.ofNat 8 (orAbsent 1 (k.map (·.val))) =
    match k with | none => 0xFF | some k => BitVec.ofNat 8 k.val := by
  cases k <;> rfl

theorem layoutBytes_order (o : Order) (n : Nat) :
    layoutBytes (layout .order n) (orderValues o) = orderBytes o := by
  simp only [layoutBytes, layout, orderValues, List.zip_cons_cons, List.zip_nil_right, List.flatMap_cons,
    List.flatMap_nil, partField, bytesOf_one, bytesOf_two, bytesOf_three, ofNat_orAbsent_watch,
    ofNat_orAbsent_operator, ofNat_orAbsent_named]
  rfl

theorem State.copy_order_of_some {n : Nat} {o : Order} (h : s.queue[n]? = some o) :
    s.copy .order n = some (orderBytes o) := by
  simp only [State.copy, State.liveValues, h, Option.map_some, layoutBytes_order]

theorem State.copy_order_of_none {n : Nat} (h : s.queue.length ≤ n) : s.copy .order n = none := by
  simp only [State.copy, State.liveValues, List.getElem?_eq_none h, Option.map_none]

end

/-- A LOOK that forms its reply latches it, shows its result with its last bytes, and leaves the queue. -/
theorem exec_look_spec {s : State} {cls index : Byte} {clocked : Clocking} {reply : List Byte} {r : Result}
    {j : Byte} (h : s.Accepts) (ht : s.SelectInTime clocked.held)
    (hl : s.look cls index = { reply := some reply, result := r, index := j }) :
    ∃ t, exec (.look cls index clocked) s = .next t ∧ t.port.latch = reply
      ∧ (clocked.counts.length ≤ 1 → t.port.result = r) ∧ t.queue = s.queue := by
  refine ⟨_, congrArg Host.Outcome.next (State.read_of_reply (code := Code.look) (i := index)
    (form := fun t => t.look cls index) h ht hl), ?_, fun hc => ?_, ?_⟩
  · rw [State.conclude_port, Port.streamed_latch]
  · rw [State.conclude_port]
    exact Port.streamed_result rfl hc _
  · rw [State.conclude_queue]

/-- Settles O7: the copy of an order is its bytes field by field, and no order is staged or retired. -/
theorem lookReadsTheQueue : Obligations.LookReadsTheQueue := by
  intro s position buffer clocked h hn ht hp
  refine ⟨fun o ho => ?_, fun hle => ?_, ?_, ?_⟩
  · exact exec_look_spec h ht (State.look_of_some classOf_order hp (State.copy_order_of_some ho))
  · exact exec_look_spec h ht (State.look_of_none classOf_order hp (State.copy_order_of_none hle))
  · refine ⟨_, exec_stage_of_accepts h buffer 11 position, ?_, ?_⟩
    · rw [State.stage_of_not_stagedClass s buffer position classOf_order rfl]
      exact s.commandEnd_result _ _ _
    · rw [State.stage_of_not_stagedClass s buffer position classOf_order rfl]
      exact s.commandEnd_staging _ _
  · refine ⟨_, exec_retire_eq h (s.retire_of_not_retirable position classOf_order rfl), ?_, ?_⟩
    · exact s.commandEnd_result _ _ _
    · exact State.commandEnd_queue hn _ _

/-! ## The bytes of a record (10, section 10.5) -/

section

variable {fs gs : List FieldSpec} {vs ws : List Nat} {s : State}

theorem layoutBytes_nil : layoutBytes [] [] = [] := rfl

theorem layoutBytes_cons (f : FieldSpec) (v : Nat) :
    layoutBytes (f :: fs) (v :: vs) = bytesOf f.width v ++ layoutBytes fs vs := rfl

theorem layoutBytes_append (h : fs.length = vs.length) :
    layoutBytes (fs ++ gs) (vs ++ ws) = layoutBytes fs vs ++ layoutBytes gs ws := by
  simp only [layoutBytes, List.zip_append h, List.flatMap_append]

/-- The bytes of fields that all have one width. -/
theorem layoutBytes_of_width {w : Nat} (h : fs.length = vs.length) (hw : ∀ f ∈ fs, f.width = w) :
    layoutBytes fs vs = vs.flatMap (bytesOf w) := by
  induction fs generalizing vs with
  | nil =>
    obtain rfl : vs = [] := List.eq_nil_of_length_eq_zero h.symm
    rfl
  | cons f fs ih =>
    obtain ⟨v, vs, rfl⟩ := List.exists_cons_of_length_eq_add_one h.symm
    rw [layoutBytes_cons, hw f List.mem_cons_self, ih (Nat.succ.inj h) fun g hg => hw g (List.mem_cons_of_mem f hg),
      List.flatMap_cons]

theorem layoutBytes_hostFields {first count w lo hi : Nat} (h : vs.length = count) :
    layoutBytes (hostFields first count w lo hi) vs = vs.flatMap (bytesOf w) :=
  layoutBytes_of_width (by simp [hostFields, h]) (by simp [hostFields, hostField])

theorem layoutBytes_partFields {first count w : Nat} (h : vs.length = count) :
    layoutBytes (partFields first count w) vs = vs.flatMap (bytesOf w) :=
  layoutBytes_of_width (by simp [partFields, h]) (by simp [partFields, partField])

theorem Table.length_list {n : Nat} {α : Type} (t : Table n α) : (Table.list t).length = n := by
  simp [Table.list]

theorem Table.flatMap_list {n : Nat} {α β : Type} (t : Table n α) (f : α → List β) :
    (Table.list t).flatMap f = (List.finRange n).flatMap fun k => f (t.get k) := by
  rw [Table.list, List.flatMap_map]

theorem State.copy_bed (s : State) (i : Fin 8) {x : Bed} (hx : x = s.geometry.beds.get i) :
    s.copy .bed i.val = some (bytesOf 1 x.length
      ++ (List.finRange 16).flatMap (fun k => bytesOf 1 (x.exposure.get k).val)
      ++ bytesOf 1 (orAbsent 1 (x.collection.map (·.val))) ++ bytesOf 1 x.returnPercent
      ++ bytesOf 1 x.sweepLimit ++ bytesOf 2 (s.watch.passCount.get i).toNat
      ++ bytesOf 1 (flagCode (s.field.lines.machine.get i).filtered) ++ bytesOf 2 x.revision.toNat) := by
  simp only [State.copy, State.liveValues, Fin.ofNat_val_eq_self, Option.map_some, bedValues, layout, ← hx]
  rw [layoutBytes_append (by simp [hostFields, Table.list]), layoutBytes_append rfl,
    layoutBytes_hostFields (by simp [Table.list]), List.flatMap_map, Table.flatMap_list]
  simp only [layoutBytes_cons, layoutBytes_nil, hostField, partField, List.append_nil, List.append_assoc,
    State.machinePresent]

/-- The fields of the Last wetting stamp. -/
def wettingFields : List FieldSpec :=
  [partField 17 2, partField 18 3, partField 19 1, partField 20 1, partField 21 1, partField 22 1,
    partField 23 2, partField 24 2, partField 25 3, partField 26 1, partField 27 1, partField 28 2,
    partField 29 1]

/-- An absent Last wetting stamp is 0xFF in every byte (03 R61). -/
theorem layoutBytes_wetting_none :
    bytesOf 1 (flagCode (none : Option Wetting).isSome) ++ layoutBytes wettingFields (wettingValues none)
      = (0 : Byte) :: List.replicate 21 0xFF := by
  decide

theorem layoutBytes_wetting_some (w : Wetting) :
    bytesOf 1 (flagCode (some w).isSome) ++ layoutBytes wettingFields (wettingValues (some w))
      = (1 : Byte) :: bytesOf 2 w.time.day ++ bytesOf 3 w.time.second ++ bytesOf 1 w.ending.outcomeCode
          ++ bytesOf 1 w.ending.reasonCode ++ bytesOf 1 w.cannon.val ++ bytesOf 1 w.source.val
          ++ bytesOf 2 w.baysDone ++ bytesOf 2 w.baysPlanned ++ bytesOf 3 w.delivered
          ++ bytesOf 1 w.basis.code ++ bytesOf 1 (orAbsent 1 (w.sector.map (·.val)))
          ++ bytesOf 2 (orAbsent 2 w.gust) ++ bytesOf 1 w.clarity := by
  simp only [wettingFields, wettingValues, layoutBytes_cons, layoutBytes_nil, partField, List.append_nil,
    List.append_assoc, List.cons_append, Option.isSome_some, flagCode, if_true, bytesOf_one 1, List.nil_append]
  rfl

theorem length_wettingValues (w : Option Wetting) : (wettingValues w).length = 13 := by
  cases w <;> rfl

theorem State.copy_pile {s : State} {i : Fin 48} {p : Pile} (hp : s.geometry.piles.get i = some p) {l : Living}
    (hl : l = s.watch.living.get i) :
    s.copy .pile i.val = some (bytesOf 1 p.bed.val ++ bytesOf 1 p.start ++ bytesOf 1 p.length
      ++ bytesOf 1 p.grade.val ++ bytesOf 1 l.moisture ++ bytesOf 1 l.urgency.code ++ bytesOf 1 l.dryness
      ++ bytesOf 1 l.basis.code ++ bytesOf 1 l.deferral ++ bytesOf 1 (flagCode l.escalated)
      ++ bytesOf 1 (flagCode l.sweepDue) ++ bytesOf 2 l.bedMark.toNat ++ bytesOf 1 (flagCode l.engaged)
      ++ bytesOf 1 (flagCode l.carried) ++ bytesOf 1 (flagCode l.unqueued)
      ++ (bytesOf 1 (flagCode l.wetting.isSome) ++ layoutBytes wettingFields (wettingValues l.wetting))
      ++ bytesOf 2 p.revision.toNat) := by
  have hf : ∀ n, layout .pile n = [hostField 1 1 0 7, hostField 2 1 0 159, hostField 3 1 1 160,
      hostField 4 1 0 7, ⟨5, 1, .creation, .between 0 100⟩, partField 6 1, partField 7 1, partField 8 1,
      partField 9 1, partField 10 1, partField 11 1, partField 12 2, partField 13 1, partField 14 1,
      partField 15 1, partField 16 1] ++ wettingFields ++ [partField 30 2] := fun _ => rfl
  simp only [State.copy, State.liveValues, Fin.ofNat_val_eq_self, hp, Option.map_some, pileValues, hf, ← hl]
  rw [layoutBytes_append (by simp [length_wettingValues, wettingFields]), layoutBytes_append rfl]
  simp only [layoutBytes_cons, layoutBytes_nil, hostField, partField, List.append_nil, List.append_assoc]

theorem State.copy_grade (s : State) (i : Fin 8) {g : Grade} (hg : g = s.watch.grades.get i) :
    s.copy .grade i.val = some (bytesOf 1 g.may ++ bytesOf 1 g.need ++ bytesOf 1 g.must
      ++ bytesOf 1 g.clarityLimit ++ bytesOf 1 g.deferralLimit ++ bytesOf 2 g.revision.toNat) := by
  simp only [State.copy, State.liveValues, Fin.ofNat_val_eq_self, Option.map_some, gradeValues, ← hg]
  rfl

theorem State.copy_model (s : State) {m : Model} (hm : m = s.watch.model) :
    s.copy .model 0 = some ((List.finRange 3).flatMap (fun k => bytesOf 2 (m.speed.get k))
      ++ (List.finRange 3).flatMap (fun k => bytesOf 1 (m.humidity.get k))
      ++ (List.finRange 4).flatMap (fun b => (List.finRange 4).flatMap fun k => bytesOf 1 ((m.lift.get b).get k))
      ++ (List.finRange 4).flatMap (fun b => (List.finRange 4).flatMap fun k => bytesOf 1 ((m.dry.get b).get k))
      ++ bytesOf 1 m.rainGain ++ bytesOf 1 m.suspensionLimit ++ bytesOf 1 m.observationLife
      ++ bytesOf 2 m.revision.toNat) := by
  have h16 : ∀ t : Table 4 (Table 4 Nat), ((Table.list t).flatMap Table.list).length = 16 := fun t => by
    simp [Table.list, List.length_flatMap, Function.comp_def, List.map_const']
  simp only [State.copy, State.liveValues, Option.map_some, modelValues, layout, ← hm]
  rw [layoutBytes_append (by simp [hostFields, h16, Table.length_list]),
    layoutBytes_append (by simp [hostFields, h16, Table.length_list]),
    layoutBytes_append (by simp [hostFields, Table.length_list]),
    layoutBytes_append (by simp [hostFields, Table.length_list]),
    layoutBytes_hostFields (h16 _), layoutBytes_hostFields (h16 _),
    layoutBytes_hostFields (Table.length_list _), layoutBytes_hostFields (Table.length_list _)]
  simp only [List.flatMap_assoc, Table.flatMap_list, layoutBytes_cons, layoutBytes_nil, hostField, partField,
    List.append_nil, List.append_assoc]

theorem State.copy_cannon {s : State} {i : Fin 24} {c : Cannon} (hc : s.geometry.cannons.get i = some c) :
    s.copy .cannon i.val = some (bytesOf 1 c.main.val ++ bytesOf 1 c.bed.val ++ bytesOf 1 c.reachStart
      ++ bytesOf 1 c.reachLength ++ bytesOf 1 c.flow ++ bytesOf 2 c.dwell ++ bytesOf 1 c.skip
      ++ bytesOf 1 c.repeats ++ bytesOf 1 (flagCode c.reverse) ++ bytesOf 1 (flagCode c.alternate)
      ++ bytesOf 2 c.driftLimit ++ bytesOf 1 c.gain ++ bytesOf 1 (flagCode c.enabled)
      ++ bytesOf 2 c.revision.toNat) := by
  simp only [State.copy, State.liveValues, Fin.ofNat_val_eq_self, hc, Option.map_some, cannonValues, layout,
    layoutBytes_cons, layoutBytes_nil, hostField, partField, List.append_nil, List.append_assoc]

theorem State.copy_exclusion {s : State} {i : Fin 16} {e : Exclusion}
    (he : s.geometry.exclusions.get i = some e) :
    s.copy .exclusion i.val = some (bytesOf 1 e.bed.val ++ bytesOf 1 e.start ++ bytesOf 1 e.length
      ++ bytesOf 1 (flagCode e.fixed) ++ bytesOf 2 e.revision.toNat) := by
  simp only [State.copy, State.liveValues, Fin.ofNat_val_eq_self, he, Option.map_some, exclusionValues, layout,
    layoutBytes_cons, layoutBytes_nil, hostField, partField, List.append_nil, List.append_assoc]

theorem State.copy_main (s : State) (i : Fin 4) {m : Main} (hm : m = s.engine.mains.get i) :
    s.copy .main i.val = some (bytesOf 1 (setCode m.sourceMask) ++ bytesOf 1 m.warmPrime
      ++ bytesOf 2 m.coldPrime ++ bytesOf 1 m.drainTime ++ bytesOf 1 m.state.code
      ++ bytesOf 1 (orAbsent 1 (m.openSource.map (·.val))) ++ bytesOf 1 (orAbsent 1 (m.context.map (·.val)))
      ++ bytesOf 1 (orAbsent 1 (m.fault.map (·.code))) ++ bytesOf 2 m.revision.toNat) := by
  simp only [State.copy, State.liveValues, Fin.ofNat_val_eq_self, Option.map_some, mainValues, ← hm]
  rfl

theorem asBasin_ofNat (i : Fin 5) : asBasin (Fin.ofNat 6 i.val) = some i := by
  revert i
  decide

/-- The basins have one layout; SOURCE 5, the fresh supply, has another. -/
theorem layout_basin (i : Fin 5) : layout .source i.val = layout .source 0 := by
  revert i
  decide

theorem State.copy_basin (s : State) (i : Fin 5) {b : Basin} (hb : b = s.water.basins.get i) :
    s.copy .source i.val = some (bytesOf 2 b.capacity ++ bytesOf 2 b.floor ++ bytesOf 2 b.restoreMargin
      ++ bytesOf 2 b.settleTime ++ bytesOf 1 b.baseClarity ++ bytesOf 2 b.level ++ bytesOf 2 b.reserved
      ++ bytesOf 1 b.clarity ++ bytesOf 1 b.state.code ++ bytesOf 2 (b.settle.getD 0) ++ bytesOf 2 b.spilled
      ++ bytesOf 1 (flagCode b.isolated) ++ bytesOf 2 b.revision.toNat) := by
  simp only [State.copy, State.liveValues, asBasin_ofNat, Option.map_some, basinValues, layout_basin, ← hb]
  rfl

theorem State.copy_fresh (s : State) {f : Fresh} (hf : f = s.water.fresh) :
    s.copy .source 5 = some (bytesOf 2 f.allowance ++ bytesOf 2 f.today ++ bytesOf 2 f.used
      ++ bytesOf 2 f.reserved ++ [0] ++ bytesOf 1 f.state.code ++ bytesOf 1 (flagCode f.isolated)
      ++ bytesOf 2 f.revision.toNat) := by
  subst hf
  rfl

theorem State.copy_slot {s : State} {i : Fin 36} {x : Slot} (hx : s.horizon.slots.get i = some x) :
    s.copy .slot i.val = some (bytesOf 3 x.hour ++ bytesOf 2 x.issue ++ bytesOf 1 x.sector.val
      ++ bytesOf 2 x.meanSpeed ++ bytesOf 2 x.gust ++ bytesOf 1 x.humidity ++ [BitVec.ofInt 8 x.temperature]
      ++ bytesOf 1 x.rainClass) := by
  simp only [State.copy, State.liveValues, Fin.ofNat_val_eq_self, hx, Option.map_some, slotValues, layout,
    layoutBytes_cons, layoutBytes_nil, partField, List.append_nil, List.append_assoc, temperatureCode,
    bytesOf_one (BitVec.toNat _), BitVec.ofNat_toNat, BitVec.setWidth_eq]

theorem State.copy_observation {s : State} {o : Observation} (ho : s.horizon.observation = some o) :
    s.copy .observation 0 = some (bytesOf 2 o.speed ++ bytesOf 2 o.gust ++ bytesOf 1 o.sector.val
      ++ bytesOf 1 o.humidity ++ bytesOf 2 o.stamp.day ++ bytesOf 3 o.stamp.second
      ++ bytesOf 1 (flagCode o.fresh)) := by
  simp only [State.copy, State.liveValues, ho, Option.map_some, observationValues, layout,
    layoutBytes_cons, layoutBytes_nil, partField, List.append_nil, List.append_assoc]

theorem State.copy_pass {s : State} {i : Fin 8} {p : Pass} (hp : s.engine.contexts.get i = some p) :
    s.copy .pass i.val = some (passBytes p) := by
  simp only [State.copy, Fin.ofNat_val_eq_self, hp]

/-- The bytes of a live pass, with what its present bay, its suspension and its reasons show. -/
theorem passBytes_of_fields {p : Pass} {bay day second reasons : Nat} (hb : orAbsent 1 p.rest.head? = bay)
    (hd : orAbsent 2 (p.since.map (·.day)) = day) (hs : orAbsent 3 (p.since.map (·.second)) = second)
    (hr : flagCode p.wind + 2 * flagCode p.machine = reasons) :
    passBytes p = bytesOf 1 p.state.code ++ bytesOf 1 p.pile.val ++ bytesOf 1 p.cannon.val ++ bytesOf 1 p.main.val
      ++ bytesOf 1 p.source.val ++ bytesOf 1 p.clarity ++ bytesOf 1 p.repeats ++ bytesOf 1 p.bays.length
      ++ p.bays.flatMap (bytesOf 1) ++ bytesOf 1 p.cursorRepeat ++ bytesOf 1 bay ++ bytesOf 2 p.cursorSeconds
      ++ bytesOf 2 p.baysPlanned ++ bytesOf 2 p.baysDone ++ bytesOf 3 p.planned ++ bytesOf 3 p.delivered
      ++ bytesOf 3 p.deducted ++ bytesOf 4 p.runningSeconds ++ bytesOf 1 reasons ++ bytesOf 2 day
      ++ bytesOf 3 second ++ bytesOf 1 p.prime.code := by
  subst hb hd hs hr
  rfl

theorem absentValue_three : absentValue 3 = 16777215 := by
  norm_num [absentValue]

theorem State.copy_yard (s : State) :
    s.copy .yard 0 = some (bytesOf 1 s.control.mode.code ++ bytesOf 1 s.clock.state.code ++ bytesOf 2 s.clock.day
      ++ bytesOf 3 s.clock.second ++ bytesOf 2 (setCode s.notices.enables)
      ++ bytesOf 1 s.notices.urgentMode.code ++ bytesOf 1 s.notices.urgentThreshold
      ++ allLines.flatMap (fun i => bytesOf 1 (flagCode (s.field.lines.get i).activeHigh))
      ++ allLines.flatMap (fun i => bytesOf 1 (s.field.lines.get i).filter.code)
      ++ allLines.flatMap (fun i => bytesOf 1 (flagCode (s.field.lines.get i).filtered))
      ++ bytesOf 1 (orAbsent 1 (s.control.lastEnded.map fun e => e.1.val))
      ++ bytesOf 1 (orAbsent 1 (s.control.lastEnded.map fun e => e.2.outcomeCode))
      ++ bytesOf 2 s.control.revision.toNat) := by
  have hl : allLines.length = 15 := rfl
  simp only [State.copy, State.liveValues, Option.map_some, yardValues, layout]
  rw [layoutBytes_append (by simp [hostFields, partFields, hl]), layoutBytes_append (by simp [hostFields, hl]),
    layoutBytes_append (by simp [hostFields, hl]), layoutBytes_append rfl,
    layoutBytes_hostFields (by simp [hl]), layoutBytes_hostFields (by simp [hl]),
    layoutBytes_partFields (by simp [hl]), List.flatMap_map, List.flatMap_map, List.flatMap_map]
  simp only [layoutBytes_cons, layoutBytes_nil, hostField, partField, List.append_nil, List.append_assoc]

/-- The end reason of a pass as its code (03 R61). -/
theorem PassEnd.reasonCode_eq (e : PassEnd) : e.reasonCode = match e with
    | .full => 255 | .cutShort .hold => 1 | .cutShort .drain => 2 | .cutShort .water => 3
    | .cutShort .excluded => 4 | .cutShort .retired => 5 | .cutShort .suspendLimit => 6
    | .noFlow .noFlow => 7 | .noFlow .flowLost => 8 | .noFlow .stray => 9 := by
  rcases e with _ | (_ | _ | _ | _ | _ | _) | (_ | _ | _) <;> rfl

/-- One byte holds a set of six flags. -/
theorem setCode_byte (t : Table 6 Bool) :
    (∀ x : Fin 6, (BitVec.ofNat 8 (setCode t)).getLsbD x.val = t.get x)
      ∧ (BitVec.ofNat 8 (setCode t)).toNat < 64 := by
  obtain ⟨hlt, hbit⟩ := setCode_spec t
  refine ⟨fun x => ?_, ?_⟩
  · rw [BitVec.getLsbD_ofNat, hbit x]
    simp; omega
  · rw [BitVec.toNat_ofNat]
    omega

end

/-- Settles O6: LOOK's tests and reply, and the bytes of each class read off its layout. -/
theorem lookCopiesARecord : Obligations.LookCopiesARecord := by
  refine ⟨fun s cls index held n clocked h ht htc => ⟨fun k hk hi reply result hreply hresult => ?_,
    fun hr shown hshown => ?_⟩, fun s b1 b2 b3 b4 flag h1 h2 h3 h4 hflag => ?_⟩
  · subst hreply hresult
    exact ⟨congrArg Host.Outcome.next (State.readOnce_of_reply (form := fun t => t.look cls index) h ht
        (State.look_of_lt hk hi)),
      congrArg Host.Outcome.next (State.read_of_reply (form := fun t => t.look cls index) h htc
        (State.look_of_lt hk hi))⟩
  · subst hshown
    exact ⟨congrArg Host.Outcome.next (State.readOnce_of_refused (form := fun t => t.look cls index) h ht
        (State.look_of_refused hr)),
      congrArg Host.Outcome.next (State.read_of_refused (form := fun t => t.look cls index) h htc
        (State.look_of_refused hr))⟩
  · obtain rfl : b1 = bytesOf 1 := h1.trans (funext fun v => (bytesOf_one v).symm)
    obtain rfl : b2 = bytesOf 2 := h2.trans (funext fun v => (bytesOf_two v).symm)
    obtain rfl : b3 = bytesOf 3 := h3.trans (funext fun v => (bytesOf_three v).symm)
    obtain rfl : b4 = bytesOf 4 := h4.trans (funext fun v => (bytesOf_four v).symm)
    obtain rfl : flag = fun b => bytesOf 1 (flagCode b) := hflag.trans (funext fun b => by cases b <;> rfl)
    clear h1 h2 h3 h4 hflag
    refine ⟨fun i x hx => (s.copy_bed i hx).trans ?_, fun i hi => ?_, fun i p l stamp hp hl hn hw => ?_,
      fun i g hg => s.copy_grade i hg, fun m hm => s.copy_model hm, fun i hi => ?_, fun i c => State.copy_cannon,
      fun i hi => ?_, fun i e => State.copy_exclusion,
      fun i m hm => ⟨_, (setCode_byte m.sourceMask).1, (setCode_byte m.sourceMask).2,
        (s.copy_main i hm).trans ?_⟩,
      fun i b hb => (s.copy_basin i hb).trans ?_, fun f hf => (s.copy_fresh hf).trans ?_, fun i hi => ?_,
      fun i x => State.copy_slot, fun ho => ?_, fun o => State.copy_observation, fun i hi => ?_,
      fun i p hp => ?_, _, _, (setCode_bytes s.notices.enables).1, (setCode_bytes s.notices.enables).2,
      s.copy_yard.trans ?_⟩
    · cases x.collection <;> rfl
    · simp [State.copy, State.liveValues, hi]
    · -- PILE
      have hs : bytesOf 1 (flagCode l.wetting.isSome) ++ layoutBytes wettingFields (wettingValues l.wetting)
          = stamp := by
        cases hwet : l.wetting with
        | none => rw [hn hwet, layoutBytes_wetting_none]
        | some w =>
          rw [hw w hwet, layoutBytes_wetting_some, PassEnd.reasonCode_eq]
          cases w.sector <;> cases w.gust <;> rfl
      rw [State.copy_pile hp hl, hs]
      rfl
    · simp [State.copy, State.liveValues, hi]
    · simp [State.copy, State.liveValues, hi]
    · -- MAIN
      rw [bytesOf_one (setCode _)]
      cases m.openSource <;> cases m.context <;> rcases m.fault with _ | _ | _ | _ <;> rfl
    · -- basins
      cases b.settle <;> rfl
    · simp only [Fresh.state]
      cases f.isolated <;> rfl
    · simp [State.copy, State.liveValues, hi]
    · simp [State.copy, State.liveValues, ho]
    · simp [State.copy, hi]
    · -- PASS
      have hrest : orAbsent 1 p.rest.head? = match p.rest with | [] => 255 | bay :: _ => bay := by
        cases p.rest <;> rfl
      have hday : orAbsent 2 (p.since.map (·.day)) = match p.since with | none => 65535 | some t => t.day := by
        cases p.since <;> rfl
      have hsecond : orAbsent 3 (p.since.map (·.second))
          = match p.since with | none => 16777215 | some t => t.second := by
        cases p.since with
        | none => simp only [orAbsent, Option.map_none, Option.getD_none, absentValue_three]
        | some t => rfl
      have hflags : flagCode p.wind + 2 * flagCode p.machine
          = (if p.wind then 1 else 0) + if p.machine then 2 else 0 := by
        cases p.wind <;> cases p.machine <;> rfl
      exact (State.copy_pass hp).trans (congrArg some (passBytes_of_fields hrest hday hsecond hflags))
    · -- YARD
      rw [bytesOf_two (setCode _)]
      rcases s.control.lastEnded with _ | ⟨i, _ | _ | _⟩ <;> rfl

end Sys2Proof.Machine

/-! PROOFS. Framing and the timeout of a transaction (O9; 08 R147, R149). -/

namespace Sys2Proof.Machine

section

variable {s : State} {code : Byte} {held : Nat} {received : List Byte}

/-! ## A transaction abandoned -/

/-- The port of a transaction abandoned at its timeout. -/
def Port.abandoned (p : Port) (code : Byte) (sent : List Byte) : Port :=
  { p with
    command := code, result := .timeout, index := 0, dataOut := sent
    transaction := .abandoned, selectLeft := 30 }

/-- A read that comes to act too late was abandoned before (08 R149). -/
theorem State.portStep_readSelect_of_late (h : s.live = true) (ht : ¬ s.SelectInTime held) (code : Byte)
    (act : State → State) :
    s.portStep (fun t => t.readSelect code held act)
      = ({ s with port := s.port.abandoned (lateCode code) [] } : State).conclude := by
  have hp : ({ s with port := { (s.deselect.send []).port with
      command := lateCode code, result := .timeout, index := 0
      transaction := .abandoned, selectLeft := selectUnits } } : State)
      = { s with port := s.port.abandoned (lateCode code) [] } := by
    simp [State.deselect, Port.abandoned, selectUnits]
  rw [State.portStep_of_live h, State.readSelect_of_outlasted code (State.outlasted_of_not_selectInTime ht), ← hp]
  rfl

theorem exec_transactionTimeout_of_due (h : s.live = true) (hl : s.port.selectLeft = 0) (received : List Byte) :
    exec (.transactionTimeout received) s = .next (s.timeOut received).conclude := by
  change execTransactionTimeout received s = _
  rw [execTransactionTimeout, State.portStep_of_live h, if_pos hl]

theorem State.timeOut_of_readCode (h : s.port.readCode = some code) :
    s.timeOut received = s.abandon code := by
  simp only [State.timeOut, h]

theorem State.timeOut_of_no_read (h : s.port.readCode = none) :
    s.timeOut received = (s.receive received).abandon (timeoutCode received) := by
  simp only [State.timeOut, h]

/-! ## The bytes of a transaction that no event cut -/

/-- The command is one of the five reads. -/
def isRead (i : Instr) : Bool :=
  match i with
  | .status _ | .look _ _ _ | .locate _ _ _ | .notices _ | .ident _ => true
  | _ => false

/-- Bytes that spell no read. -/
def spellsNoRead (received : List Byte) : Prop := ∀ i, decodeTransaction received = some i → isRead i = false

theorem spellsNoRead_nil : spellsNoRead [] := fun _ h => by cases h

theorem isRead_of_decodeClock {rest : List Byte} {i : Instr} (h : decodeClock rest = some i) :
    isRead i = false := by
  unfold decodeClock at h
  (repeat' split at h) <;> cases h <;> rfl

/-- A read is spelt by one of the first five codes alone. -/
theorem isRead_of_decodeParams {c : Byte} {rest : List Byte} {i : Instr} (h : decodeParams c rest = some i)
    (hc : ¬ (1 ≤ c.toNat ∧ c.toNat ≤ 5)) : isRead i = false := by
  unfold decodeParams at h
  split at h
  case h_11 => exact isRead_of_decodeClock h
  all_goals (try split at h) <;> first | omega | (cases h <;> rfl)

theorem spellsNoRead_of_code {c : Byte} {rest : List Byte} (hc : ¬ (1 ≤ c.toNat ∧ c.toNat ≤ 5)) :
    spellsNoRead (c :: rest) := by
  intro i hi
  simp only [decodeTransaction] at hi
  split at hi
  · cases hd : decodeParams c rest with
    | none =>
      rw [hd] at hi
      cases hi
      rfl
    | some j =>
      rw [hd] at hi
      obtain rfl : j = i := Option.some.inj hi
      exact isRead_of_decodeParams hd hc
  · cases hi
    rfl

/-- A LOOK or a LOCATE whose parameters stop short is no read. -/
theorem spellsNoRead_of_short {c : Byte} {rest : List Byte} (hc : c = 2 ∨ c = 3) (hr : rest.length < 2) :
    spellsNoRead (c :: rest) := by
  intro i hi
  match rest, hr with
  | [], _ => rcases hc with rfl | rfl <;> cases hi <;> rfl
  | [_], _ => rcases hc with rfl | rfl <;> cases hi <;> rfl

/-- What the bytes of a transaction have done before their streaming: a read has begun. -/
def State.begun (s : State) (received : List Byte) : State :=
  match decodeTransaction received with
  | some (.status clocked) => s.beginStatus (goesOn clocked)
  | some (.look cls index clocked) => s.openLook cls index (goesOn clocked)
  | some (.locate bed bay clocked) => s.openLocate bed bay (goesOn clocked)
  | some (.notices clocked) => s.openNotices (goesOn clocked)
  | some (.ident clocked) => s.openIdent (goesOn clocked)
  | _ => s.send []

/-- The bytes that a state's port goes on with are streamed. -/
def State.streamOn (s : State) : State := { s with port := s.port.streamed s.statusRecord }

theorem State.receive_eq (s : State) (received : List Byte) :
    s.receive received = (s.begun received).streamOn := rfl

/-- The transaction of any other command, received whole or in part, has not acted (log 28). -/
theorem State.receive_of_no_read (h : spellsNoRead received) : s.receive received = s.send [] := by
  have hb : s.begun received = s.send [] := by
    unfold State.begun
    split
    case h_6 => rfl
    all_goals
      next hd => exact absurd (h _ hd) (by simp [isRead])
  have hp : (s.send []).port.streamed (s.send []).statusRecord = (s.send []).port := Port.streamed_of_idle rfl _
  rw [State.receive_eq, hb, State.streamOn, hp]

/-- A timeout of a transaction that had not acted leaves its triple, and nothing sent (08 R149). -/
theorem exec_transactionTimeout_of_no_read (h : s.live = true) (hl : s.port.selectLeft = 0)
    (hr : s.port.readCode = none) (hn : spellsNoRead received) :
    exec (.transactionTimeout received) s
      = .next ({ s with port := s.port.abandoned (timeoutCode received) [] } : State).conclude := by
  rw [exec_transactionTimeout_of_due h hl, State.timeOut_of_no_read hr, State.receive_of_no_read hn]
  rfl

end

section

variable {s : State} {code i : Byte} {form : State → Reading} {n : Nat}

/-- What a read whose bytes no event cut has latched: its reply, unless it was refused. -/
def State.latched (s : State) (form : State → Reading) : Option (List Byte) :=
  if s.busy then none else (form s).reply

theorem stream_zero (n : Nat) : stream [0] n = List.replicate n 0 := by
  simp [stream, Nat.mod_one, List.map_const']

/-- A read that its timeout finds with its bytes streamed is abandoned as it stands (log 28). -/
theorem State.openRead_abandon (tcode : Byte) :
    (s.openRead code i ⟨0, [n, 0]⟩ form).streamOn.abandon tcode
      = { s with port :=
          { command := tcode, result := .timeout, index := 0
            latch := (s.latched form).getD s.port.latch
            transaction := .abandoned, dataOut := stream ((s.latched form).getD [0]) n, selectLeft := 30 } } := by
  have ho : s.port.deselected.outlasted 0 = false := Port.outlasted_of_held _ (Nat.zero_le 30)
  cases hb : s.busy with
  | true =>
    have hl : s.latched form = none := by simp [State.latched, hb]
    rw [State.openRead_of_busy code i ⟨0, [n, 0]⟩ form ho hb, State.streamOn, Port.streamed_of_more rfl, hl]
    simp [State.abandon, Port.readBytes, State.startRead, State.openPort, State.answer, State.deselect,
      Port.heldFor, selectUnits]
    exact (stream_zero n).symm
  | false =>
    have hl : s.latched form = (form s).reply := by simp [State.latched, hb]
    cases hr : (form s).reply with
    | none =>
      rw [State.openRead_of_none code i ⟨0, [n, 0]⟩ form ho hb hr, State.streamOn, Port.streamed_of_more rfl, hl, hr]
      simp [State.abandon, Port.readBytes, State.startRead, State.openPort, State.deselect, Port.heldFor,
        selectUnits]
      exact (stream_zero n).symm
    | some reply =>
      rw [State.openRead_of_reply code i ⟨0, [n, 0]⟩ form ho hb hr, State.streamOn, Port.streamed_of_more rfl, hl, hr]
      simp [State.abandon, Port.readBytes, State.startRead, State.openPort, State.deselect, Port.heldFor,
        State.latchReply, stream, selectUnits]

/-- So is a STATUS, of which every byte shows the record of the moment. -/
theorem State.beginStatus_abandon (hp : s.port.transaction = .idle ∨ s.port.transaction = .abandoned)
    (tcode : Byte) :
    (s.beginStatus ⟨0, [n, 0]⟩).streamOn.abandon tcode
      = { s with port := s.port.abandoned tcode (stream s.statusRecord n) } := by
  have ho : s.port.deselected.outlasted 0 = false := Port.outlasted_of_held _ (Nat.zero_le 30)
  have hd : s.port.deselected = { s.port with transaction := .idle } := s.port.deselected_spec.2.2 hp
  have hr : (s.deselect.openPort 0 (.streaming [] [n, 0])).statusRecord = s.statusRecord := by
    simp only [State.statusRecord, State.openPort, State.deselect, hd, Port.heldFor]
    rfl
  rw [State.beginStatus, State.readSelect_of_inTime Code.status ho, State.streamOn, hr,
    Port.streamed_of_streaming_more rfl (List.cons_ne_nil 0 [])]
  simp [State.abandon, State.openPort, State.deselect, Port.heldFor, Port.abandoned, statusBytes, selectUnits]

/-- What LOOK replies with. -/
theorem State.look_reply (s : State) (cls index : Byte) : (s.look cls index).reply =
    match classOf cls with
    | some k => if index.toNat < k.size then some ((s.copy k index.toNat).getD [0xEE]) else none
    | none => none := by
  cases hk : classOf cls with
  | none => rw [State.look_of_refused (.inl hk)]
  | some k =>
    by_cases hi : index.toNat < k.size
    · rw [State.look_of_lt hk hi]
      simp [hi]
    · rw [State.look_of_refused (.inr ⟨k, hk, Nat.not_lt.1 hi⟩)]
      simp [hi]

/-- What LOCATE replies with. -/
theorem State.locate_reply (s : State) (bed bay : Byte) : (s.locate bed bay).reply =
    if h : bed.toNat < 8 then
      if bay.toNat < 160 then some (s.geometry.locateReply ⟨bed.toNat, h⟩ bay.toNat) else none
    else none := by
  split
  · next h =>
    split
    · next hy => rw [s.locate_of_lt (bed := ⟨bed.toNat, h⟩) rfl hy]
    · next hy => rw [s.locate_of_le (.inr (by omega))]
  · next h => rw [s.locate_of_le (.inl (by omega))]

/-- The reply that a read has latched whose bytes no event cut (log 28). -/
def State.timeoutReply (s : State) (received : List Byte) : Option (List Byte) :=
  match s.busy, received with
  | false, 0x02 :: cls :: index :: _ =>
    match classOf cls with
    | some k => if index.toNat < k.size then some ((s.copy k index.toNat).getD [0xEE]) else none
    | none => none
  | false, 0x03 :: bed :: bay :: _ =>
    if h : bed.toNat < 8 then
      if bay.toNat < 160 then some (s.geometry.locateReply ⟨bed.toNat, h⟩ bay.toNat) else none
    else none
  | false, 0x04 :: _ => some s.noticesReply
  | false, 0x05 :: _ => some s.identReply
  | _, _ => none

/-- What it has sent. -/
def State.timeoutSent (s : State) (reply : Option (List Byte)) (received : List Byte) : List Byte :=
  match received with
  | 0x01 :: more => stream s.statusRecord more.length
  | 0x02 :: _ :: _ :: more => stream (reply.getD [0]) more.length
  | 0x03 :: _ :: _ :: more => stream (reply.getD [0]) more.length
  | 0x04 :: more => stream (reply.getD [0]) more.length
  | 0x05 :: more => stream (reply.getD [0]) more.length
  | _ => []

/-- The port that a timeout leaves of a transaction whose bytes no event cut. -/
def State.timedOutPort (s : State) (received : List Byte) : Port :=
  { command := timeoutCode received, result := .timeout, index := 0
    latch := (s.timeoutReply received).getD s.port.latch, transaction := .abandoned
    dataOut := s.timeoutSent (s.timeoutReply received) received, selectLeft := 30 }

theorem State.timedOutPort_of_no_read {received : List Byte} (hr : s.timeoutReply received = none)
    (hs : ∀ reply, s.timeoutSent reply received = []) :
    s.timedOutPort received = s.port.abandoned (timeoutCode received) [] := by
  simp only [State.timedOutPort, hr, hs, Option.getD_none, Port.abandoned]

theorem State.timeoutReply_nil (s : State) : s.timeoutReply [] = none := by
  unfold State.timeoutReply
  cases s.busy <;> rfl

/-- No LOOK or LOCATE replies whose parameters stop short. -/
theorem State.timedOutPort_of_short {c : Byte} {rest : List Byte} (hc : c = 2 ∨ c = 3) (hr : rest.length < 2) :
    s.timedOutPort (c :: rest) = s.port.abandoned (timeoutCode (c :: rest)) [] := by
  refine State.timedOutPort_of_no_read ?_ fun reply => ?_
  · unfold State.timeoutReply
    match rest, hr with
    | [], _ => rcases hc with rfl | rfl <;> cases s.busy <;> rfl
    | [_], _ => rcases hc with rfl | rfl <;> cases s.busy <;> rfl
  · match rest, hr with
    | [], _ => rcases hc with rfl | rfl <;> rfl
    | [_], _ => rcases hc with rfl | rfl <;> rfl

/-- No other code replies or sends. -/
theorem State.timedOutPort_of_code {c : Byte} {rest : List Byte} (hc : ¬ (1 ≤ c.toNat ∧ c.toNat ≤ 5)) :
    s.timedOutPort (c :: rest) = s.port.abandoned (timeoutCode (c :: rest)) [] := by
  refine State.timedOutPort_of_no_read ?_ fun reply => ?_
  · unfold State.timeoutReply
    split <;> first | rfl | simp_all
  · unfold State.timeoutSent
    split <;> first | rfl | simp_all

/-- The five reads at their timeout. -/
theorem State.timedOutPort_of_read {received more : List Byte}
    (hr : s.timeoutReply received = s.latched form)
    (hs : ∀ reply, s.timeoutSent reply received = stream (reply.getD [0]) more.length) :
    (s.openRead code i ⟨0, [more.length, 0]⟩ form).streamOn.abandon (timeoutCode received)
      = { s with port := s.timedOutPort received } := by
  rw [State.openRead_abandon]
  simp only [State.timedOutPort, hr, hs]

/-- A timeout finds every transaction as its bytes have left it (08 R149; log 28). -/
theorem State.begun_abandon (hp : s.port.transaction = .idle ∨ s.port.transaction = .abandoned)
    (received : List Byte) :
    (s.begun received).streamOn.abandon (timeoutCode received) = { s with port := s.timedOutPort received } := by
  have hnone : spellsNoRead received → s.timedOutPort received = s.port.abandoned (timeoutCode received) [] →
      (s.begun received).streamOn.abandon (timeoutCode received)
        = { s with port := s.timedOutPort received } := fun hn hq => by
    rw [← State.receive_eq, State.receive_of_no_read hn, hq]
    rfl
  match received with
  | [] => exact hnone spellsNoRead_nil (State.timedOutPort_of_no_read s.timeoutReply_nil fun _ => rfl)
  | c :: rest =>
    by_cases hc : 1 ≤ c.toNat ∧ c.toNat ≤ 5
    · obtain rfl | rfl | rfl | rfl | rfl : c = 1 ∨ c = 2 ∨ c = 3 ∨ c = 4 ∨ c = 5 := by bv_omega
      · -- STATUS
        have hq : s.timedOutPort (1 :: rest) = s.port.abandoned 1 (stream s.statusRecord rest.length) := by
          have hr : s.timeoutReply (1 :: rest) = none := by
            unfold State.timeoutReply
            cases s.busy <;> rfl
          simp only [State.timedOutPort, hr]
          rfl
        rw [hq]
        exact State.beginStatus_abandon hp 1
      · -- LOOK
        match rest with
        | cls :: index :: more =>
          refine State.timedOutPort_of_read (form := fun t => t.look cls index) ?_ fun _ => rfl
          simp only [State.timeoutReply, State.latched, State.look_reply]
          cases s.busy <;> rfl
        | [] =>
          exact hnone (spellsNoRead_of_short (.inl rfl) (by simp))
            (State.timedOutPort_of_short (.inl rfl) (by simp))
        | [_] =>
          exact hnone (spellsNoRead_of_short (.inl rfl) (by simp))
            (State.timedOutPort_of_short (.inl rfl) (by simp))
      · -- LOCATE
        match rest with
        | bed :: bay :: more =>
          refine State.timedOutPort_of_read (form := fun t => t.locate bed bay) ?_ fun _ => rfl
          simp only [State.timeoutReply, State.latched, State.locate_reply]
          cases s.busy <;> rfl
        | [] =>
          exact hnone (spellsNoRead_of_short (.inr rfl) (by simp))
            (State.timedOutPort_of_short (.inr rfl) (by simp))
        | [_] =>
          exact hnone (spellsNoRead_of_short (.inr rfl) (by simp))
            (State.timedOutPort_of_short (.inr rfl) (by simp))
      · -- NOTICES
        refine State.timedOutPort_of_read ?_ fun _ => rfl
        unfold State.timeoutReply State.latched
        cases s.busy <;> rfl
      · -- IDENT
        refine State.timedOutPort_of_read ?_ fun _ => rfl
        unfold State.timeoutReply State.latched
        cases s.busy <;> rfl
    · exact hnone (spellsNoRead_of_code hc) (State.timedOutPort_of_code hc)

end

/-- Settles O9: framing, a timeout before and at its time, and the five reads among the transactions that a timeout
finds. -/
theorem framingAndTimeout : Obligations.FramingAndTimeout := by
  refine ⟨fun s code params h => ⟨?_, ?_⟩, fun s received hl => execTransactionTimeout_of_left hl received,
    fun s received code h hl hr => ?_, fun s a b clocked h ht => ?_, fun s received h hl hp => ?_⟩
  · exact congrArg Host.Outcome.next (State.portStep_of_live h _)
  · exact congrArg Host.Outcome.next (State.portStep_of_live h _)
  · have hc : s.port.readCode = some code := by
      unfold Port.readCode
      rcases hr with ⟨answer, streams, later, hr⟩ | ⟨rfl, sample, later, hr⟩
      · rw [hr]
      · rw [hr]
    rw [exec_transactionTimeout_of_due h hl, State.timeOut_of_readCode hc]
    rfl
  · have late := fun code act => congrArg (Host.Outcome.next (φ := Fault) (ρ := Refusal))
      (State.portStep_readSelect_of_late h ht code act)
    simp only [List.forall_mem_cons]
    exact ⟨late _ _, late _ _, late _ _, late _ _, late _ _, fun _ h => absurd h List.not_mem_nil⟩
  · rintro code reply sent rfl rfl rfl
    have hr : s.port.readCode = none := by
      unfold Port.readCode
      rcases hp with hp | hp <;> rw [hp]
    have hread : ∀ {received : List Byte}, exec (.transactionTimeout received) s
        = .next ((s.begun received).streamOn.abandon (timeoutCode received)).conclude := fun {received} => by
      rw [exec_transactionTimeout_of_due h hl, State.timeOut_of_no_read hr, State.receive_eq]
    rw [hread, State.begun_abandon hp]
    rfl

end Sys2Proof.Machine

/-! PROOFS. The values right after power-on, and the laws there (O52). -/

namespace Sys2Proof.Machine

section

/-! ## The records right after power-on -/

@[simp] theorem State.reset_pile (i : Fin 48) : State.reset.geometry.piles.get i = none := Table.get_fill _ i

@[simp] theorem State.reset_cannon (i : Fin 24) : State.reset.geometry.cannons.get i = none := Table.get_fill _ i

@[simp] theorem State.reset_bed (b : Fin 8) : State.reset.geometry.beds.get b = Bed.reset := Table.get_fill _ b

@[simp] theorem State.reset_index (b : Fin 8) : State.reset.geometry.index.get b = [] := Table.get_fill _ b

@[simp] theorem State.reset_entry (i : Fin 16) : State.reset.store.entries.get i = none := Table.get_fill _ i

@[simp] theorem State.reset_exclusion (i : Fin 16) : State.reset.geometry.exclusions.get i = none := by
  change (Store.rebuild Store.blank).get i = none
  simp [Store.rebuild, Store.blank]

@[simp] theorem State.reset_living (i : Fin 48) : State.reset.watch.living.get i = Living.blank := Table.get_fill _ i

@[simp] theorem State.reset_context (c : Fin 8) : State.reset.engine.contexts.get c = none := Table.get_fill _ c

@[simp] theorem State.reset_main (m : Fin 4) : State.reset.engine.mains.get m = Main.reset := Table.get_fill _ m

@[simp] theorem State.reset_basin (b : Fin 5) : State.reset.water.basins.get b = Basin.reset := Table.get_fill _ b

@[simp] theorem State.reset_drainTimer (m : Fin 4) : State.reset.control.drainTimers.get m = none :=
  Table.get_fill _ m

@[simp] theorem State.reset_buffer (k : Fin 2) : State.reset.staging.get k = none := Table.get_fill _ k

@[simp] theorem State.reset_slot (k : Fin 36) : State.reset.horizon.slots.get k = none := Table.get_fill _ k

@[simp] theorem State.reset_asked (m : Fin 4) : State.reset.engine.asked.get m = false := Table.get_fill _ m

@[simp] theorem State.reset_pending (k : Fin 9) : State.reset.notices.pending.get k = false := Table.get_fill _ k

@[simp] theorem State.reset_line (i : Line) : State.reset.field.lines.get i = InputLine.reset false := by
  cases i <;> simp [State.reset, State.afterReset, Lines.low, Lines.reset, Lines.get, InputLine.reset]

/-! ## The laws -/

/-- The pins at their reset values are what a part with no pass, no open main and no notice shows. -/
theorem State.reset_pinsFollow : State.reset.PinsFollow := by
  have hv : ∀ c, State.reset.engine.valveOn c = false := fun c => by
    simp [Engine.valveOn, Table.any]
  have ha : State.reset.notices.attention = false := by
    simp [Notices.attention, Table.any]
  have hp : State.reset.field.pins = Pins.reset := rfl
  simp only [State.PinsFollow, hp, State.pinsFollowed, ha, State.reset_main]
  simp only [Pins.reset, Pins.mk.injEq, and_true]
  refine ⟨Table.ext_get fun c => ?_, Table.ext_get fun m => ?_, Table.ext_get fun m => ?_⟩
  · rw [Table.get_fill, Table.get_tab, hv]
  · rw [Table.get_fill, Table.get_tab]
    rfl
  · rw [Table.get_fill, Table.get_tab]
    rfl

theorem State.reset_noPass : State.reset.NoPass := State.reset_context

theorem State.reset_queueLaw : State.reset.QueueLaw :=
  ⟨Nat.zero_le 16, List.nodup_nil, fun _ h => absurd h List.not_mem_nil⟩

theorem State.reset_modeLaw : State.reset.ModeLaw :=
  (State.modeLaw_held_iff rfl).2 ⟨State.reset_noPass, State.reset_drainTimer, by simp [Main.InYard, Main.reset]⟩

theorem State.reset_fixedLaw : State.reset.FixedLaw := by
  intro i
  rw [State.reset_entry]
  simp [Geometry.isFixed]

theorem State.reset_closedLaw : State.reset.ClosedLaw := fun h => by cases h

theorem State.reset_horizonLaw : State.reset.HorizonLaw :=
  ⟨⟨by decide, by decide, fun _ => ⟨rfl, rfl, rfl⟩⟩, by simp⟩

theorem State.reset_placementLaw : State.reset.PlacementLaw :=
  ⟨by simp [Geometry.Disjoint], by simp [Geometry.Extents], by simp [Geometry.Covered],
    by simp [Geometry.Indexed], by simp [State.LengthLaw, Bed.reset]⟩

theorem State.reset_urgencyLaw : State.reset.UrgencyLaw := by
  simp [State.UrgencyLaw, Living.blank]

theorem State.reset_mustLaw : State.reset.MustLaw := by
  refine ⟨?_, by simp [Living.blank]⟩
  simp only [State.pilesAtMust, State.reset_living]
  rfl

theorem State.reset_mainLaw : State.reset.MainLaw := by
  simp [State.MainLaw, Main.reset]

theorem State.reset_engagedLaw : State.reset.EngagedLaw := by
  simp [State.EngagedLaw, Living.blank]

theorem State.reset_exclusionLaw : State.reset.ExclusionLaw := by
  simp [State.ExclusionLaw]

theorem State.reset_waterLaw : State.reset.WaterLaw := by
  refine ⟨⟨fun x => ?_, by simp⟩, by simp [Basin.Law, Basin.reset], Nat.zero_le 0, by simp,
    by simp [State.RepeatLaw]⟩
  have hh : State.reset.heldAt x = 0 := by simp [State.heldAt]
  rw [hh, Water.reserved]
  cases asBasin x with
  | none => rfl
  | some b => simp [Basin.reset]

end

/-- Settles O52: every record right after power-on is its reset value, at which the values and the laws are read
off. -/
theorem resetValuesMeetTheLaws : Obligations.ResetValuesMeetTheLaws := by
  constructor
  · rintro t rfl
    have hg : ∀ k, State.reset.watch.grades.get k = Grade.reset := fun k => Table.get_fill _ k
    have hn : ∀ k, State.reset.notices.enables.get k = false := fun k => Table.get_fill _ k
    have hu : ∀ k, State.reset.notices.subjects.get k = 0 := fun k => Table.get_fill _ k
    have hc : ∀ b, State.reset.watch.passCount.get b = 0 := fun b => Table.get_fill _ b
    have hm : ∀ b, State.reset.machinePresent b = false := fun b => congrArg InputLine.filtered
      (State.reset_line (.machine b))
    refine ⟨rfl, rfl, rfl, rfl, rfl, rfl, by simp, rfl, rfl, by simp, by simp,
      by simp [Bed.reset, hc, hm], rfl, State.reset_noPass, by simp [Main.reset],
      by simp [Basin.reset, Basin.state], rfl, rfl, rfl, rfl, fun k => (hg k).trans rfl, by simp [hn, hu], rfl, rfl,
      rfl, fun k => Table.get_fill _ k, fun m => ⟨Table.get_fill _ m, Table.get_fill _ m⟩, rfl,
      by simp [InputLine.reset], rfl, rfl, rfl, rfl, by simp, rfl, rfl, rfl, rfl, rfl, by decide, by decide,
      by decide, by decide⟩
  · rintro t rfl
    exact ⟨State.reset_pinsFollow, State.reset_asked, State.reset_queueLaw, State.reset_modeLaw,
      State.reset_fixedLaw, State.reset_closedLaw, State.reset_horizonLaw, State.reset_placementLaw,
      State.reset_urgencyLaw, State.reset_mustLaw, State.reset_mainLaw, State.reset_engagedLaw,
      State.reset_exclusionLaw, State.reset_waterLaw⟩

end Sys2Proof.Machine

/-! PROOFS. The staging buffers: STAGE and MATCH (O10), the first five tests of COMMIT (O12), and COMMIT of a bed
(O13). -/

namespace Sys2Proof.Machine

section

variable {s t : State} {buffer cls index : Byte} {k : Fin 2} {b : Staged} {r : Result} {a : Answer}

/-! ## The commands as they end -/

theorem exec_matchBuffer_eq (h : s.Accepts) (buffer : Byte) :
    exec (.matchBuffer buffer) s = .next (s.commandEnd Code.matchBuffer (some (s.matchWith buffer))) :=
  congrArg Host.Outcome.next (State.hostCommand_of_accepts h Code.matchBuffer (s.bufferIndex buffer) _)

theorem exec_fill_eq {buffer : Option Byte} {data : List Byte} (h : s.Accepts)
    (ht : s.fill buffer data = (t, a)) : exec (.fill buffer data) s = .next (t.commandEnd Code.fill a) := by
  have he : exec (.fill buffer data) s
      = .next ((s.fill buffer data).1.commandEnd Code.fill (s.fill buffer data).2) :=
    congrArg Host.Outcome.next (State.hostCommand_of_accepts h Code.fill 0 _)
  rw [he, ht]

theorem exec_commit_eq (h : s.Accepts) (ht : s.commit buffer = (t, a)) :
    exec (.commit buffer) s = .next (t.commandEnd Code.commit a) := by
  have he : exec (.commit buffer) s = .next ((s.commit buffer).1.commandEnd Code.commit (s.commit buffer).2) :=
    congrArg Host.Outcome.next (State.hostCommand_of_accepts h Code.commit (s.bufferIndex buffer) _)
  rw [he, ht]

/-! ## STAGE (08 R156) -/

theorem State.stage_of_lt {c : RecordClass} (hb : buffer.toNat = k.val) (hc : classOf cls = some c)
    (hs : c.stagedClass = true) (hi : index.toNat < c.size) :
    s.stage buffer cls index
      = (s.setBuffer k (some (s.stagedOf c index.toNat)), some (.done, index)) := by
  simp [State.stage, index?_of_toNat_eq hb, hc, hs, hi]

theorem State.stage_of_no_buffer (hb : 2 ≤ buffer.toNat) :
    s.stage buffer cls index = (s, some (.range, 0)) := by
  rw [State.stage, index?_of_le hb]

theorem State.stage_of_refused (hb : buffer.toNat < 2)
    (hc : ∀ c, classOf cls = some c → c.stagedClass = false ∨ c.size ≤ index.toNat) :
    s.stage buffer cls index = (s, some (.range, index)) := by
  have hi : index? 2 buffer = some ⟨buffer.toNat, hb⟩ := dif_pos hb
  rw [State.stage, hi]
  cases hk : classOf cls with
  | none => rfl
  | some c =>
    rcases hc c hk with h | h
    · simp [h]
    · simp [Nat.not_lt.2 h]

/-! ## MATCH (08 R158) -/

/-- A buffer agrees with the live record where each of its written fields does. -/
theorem Staged.agrees_iff {live : List Nat} : b.agrees live = true ↔
    ∀ (j v l : Nat), b.values[j]? = some v → live[j]? = some l → b.written[j]? = some true → v = l := by
  simp only [Staged.agrees, List.all_eq_true, List.mem_iff_getElem?, List.getElem?_zip_eq_some, Bool.or_eq_true,
    Bool.not_eq_true', beq_iff_eq, forall_exists_index]
  constructor
  · intro h j v l hv hl hw
    have := h ((v, l), true) j ⟨⟨hv, hl⟩, hw⟩
    simpa using this
  · rintro h ⟨⟨v, l⟩, w⟩ j ⟨⟨hv, hl⟩, hw⟩
    cases w with
    | false => exact .inl rfl
    | true => exact .inr (h j v l hv hl hw)

theorem State.matchWith_of_no_buffer (hb : 2 ≤ buffer.toNat) : s.matchWith buffer = (.range, 0) := by
  rw [State.matchWith, index?_of_le hb]

theorem State.matchWith_of_empty (hb : buffer.toNat = k.val) (hk : s.staging.get k = none) :
    s.matchWith buffer = (.empty, 0) := by
  simp only [State.matchWith, index?_of_toNat_eq hb, hk]

theorem State.matchWith_of_absent (hb : buffer.toNat = k.val) (hk : s.staging.get k = some b)
    (hl : s.liveValues b.cls b.index = none) : s.matchWith buffer = (.absent, BitVec.ofNat 8 b.index) := by
  simp only [State.matchWith, index?_of_toNat_eq hb, hk, hl, Staged.shownIndex]

theorem State.matchWith_of_live (hb : buffer.toNat = k.val) (hk : s.staging.get k = some b) {live : List Nat}
    (hl : s.liveValues b.cls b.index = some live) :
    s.matchWith buffer = (if b.agrees live then .same else .different, BitVec.ofNat 8 b.index) := by
  simp only [State.matchWith, index?_of_toNat_eq hb, hk, hl, Staged.shownIndex]

end

/-- Settles O10: the tests of STAGE and of MATCH in their order. -/
theorem stageAndMatch : Obligations.StageAndMatch := by
  refine ⟨fun s buffer cls index h => ⟨fun b k values hb hc hs hi hv => ?_, fun hb => ?_, fun hb hc => ?_⟩,
    ⟨rfl, rfl, rfl⟩, fun s buffer h => ⟨fun hb => ?_, fun k hb => ⟨fun hk => ?_, fun b hk => ⟨fun hl => ?_,
      fun live hl => ⟨fun hsame => ?_, fun j v l hv hl' hw hne => ?_⟩⟩⟩⟩⟩
  · rw [exec_stage_of_accepts h, State.stage_of_lt hb hc hs hi]
    simp only [State.setBuffer, State.stagedOf, ← hv, List.map_const']
  · rw [exec_stage_of_accepts h, State.stage_of_no_buffer hb]
  · rw [exec_stage_of_accepts h, State.stage_of_refused hb hc]
  · rw [exec_matchBuffer_eq h, State.matchWith_of_no_buffer hb]
  · rw [exec_matchBuffer_eq h, State.matchWith_of_empty hb hk]
  · rw [exec_matchBuffer_eq h, State.matchWith_of_absent hb hk hl]
  · rw [exec_matchBuffer_eq h, State.matchWith_of_live hb hk hl, if_pos (Staged.agrees_iff.2 hsame)]
  · rw [exec_matchBuffer_eq h, State.matchWith_of_live hb hk hl,
      if_neg fun ha => hne (Staged.agrees_iff.1 ha j v l hv hl' hw)]

section

variable {s t : State} {buffer : Byte} {k : Fin 2} {b : Staged} {r : Result}

/-! ## The tests of COMMIT (08 R159) -/

theorem State.commit_of_no_buffer (hb : 2 ≤ buffer.toNat) : s.commit buffer = (s, some (.range, 0)) := by
  rw [State.commit, index?_of_le hb]

theorem State.commit_of_empty (hb : buffer.toNat = k.val) (hk : s.staging.get k = none) :
    s.commit buffer = (s, some (.empty, 0)) := by
  simp only [State.commit, index?_of_toNat_eq hb, hk]

/-- A buffer that fails tests 3 to 5 is refused. -/
theorem State.commit_of_stagingTest (hb : buffer.toNat = k.val) (hk : s.staging.get k = some b)
    (ht : s.stagingTest b = some r) : s.commit buffer = (s, some (r, BitVec.ofNat 8 b.index)) := by
  simp only [State.commit, index?_of_toNat_eq hb, hk, ht, Staged.shownIndex]

/-- The class's owner refuses what fails its own tests. -/
theorem State.commit_of_refused (hb : buffer.toNat = k.val) (hk : s.staging.get k = some b)
    (ht : s.stagingTest b = none) (hi : s.installRecord b = .inl r) :
    s.commit buffer = (s, some (r, BitVec.ofNat 8 b.index)) := by
  simp only [State.commit, index?_of_toNat_eq hb, hk, ht, hi, Staged.shownIndex]

/-- An accepted COMMIT leaves the record installed and the buffer EMPTY. -/
theorem State.commit_of_installed (hb : buffer.toNat = k.val) (hk : s.staging.get k = some b)
    (ht : s.stagingTest b = none) (hi : s.installRecord b = .inr t) :
    s.commit buffer = (t.setBuffer k none, some (.done, BitVec.ofNat 8 b.index)) := by
  simp only [State.commit, index?_of_toNat_eq hb, hk, ht, hi, Staged.shownIndex]

theorem State.stagingTest_of_noSuch
    (h : b.lost = true ∨ b.base.isSome = true ∧ s.liveRevision b.cls b.index = none) :
    s.stagingTest b = some .noSuch := by
  unfold State.stagingTest
  rcases h with h | ⟨h, hl⟩
  · cases b.base <;> simp [h]
  · obtain ⟨r, hr⟩ := Option.isSome_iff_exists.1 h
    simp [hr, hl]

theorem State.stagingTest_of_exists (hl : b.lost = false) (hb : b.base = none)
    (h : (s.liveRevision b.cls b.index).isSome = true) : s.stagingTest b = some .exists := by
  simp [State.stagingTest, hl, hb, h]

theorem State.stagingTest_of_changed {r r' : Word16} (hl : b.lost = false) (hb : b.base = some r)
    (h : s.liveRevision b.cls b.index = some r') (hne : r' ≠ r) : s.stagingTest b = some .changed := by
  simp [State.stagingTest, hl, hb, h, hne]

/-- A buffer whose base is the live record's Revision, or a new one at a free place, passes the tests. -/
theorem State.stagingTest_eq_none (hl : b.lost = false) (hb : b.base = s.liveRevision b.cls b.index) :
    s.stagingTest b = none := by
  unfold State.stagingTest
  cases h : s.liveRevision b.cls b.index <;> simp [hb, hl, h]

end

/-- Settles O12: each of the tests 1 to 5 in its order. -/
theorem commitStagingRefusals : Obligations.CommitStagingRefusals := by
  refine fun s buffer h => ⟨fun hb => exec_commit_eq h (State.commit_of_no_buffer hb), fun k hb =>
    ⟨fun hk => exec_commit_eq h (State.commit_of_empty hb hk), fun b hk => ⟨fun hn => ?_, fun hl hn he => ?_,
      fun r r' hl hr hr' hne => ?_⟩⟩⟩
  · exact exec_commit_eq h (State.commit_of_stagingTest hb hk (State.stagingTest_of_noSuch hn))
  · exact exec_commit_eq h (State.commit_of_stagingTest hb hk (State.stagingTest_of_exists hl hn he))
  · exact exec_commit_eq h (State.commit_of_stagingTest hb hk (State.stagingTest_of_changed hl hr hr' hne))

section

variable {s t : State} {buffer : Byte} {k : Fin 2} {b : Staged} {r : Result}

/-- COMMIT of a buffer whose base still stands ends with what its class's owner installs. -/
theorem exec_commit_of_installed (h : s.Accepts) (hb : buffer.toNat = k.val) (hk : s.staging.get k = some b)
    (hl : b.lost = false) (hr : b.base = s.liveRevision b.cls b.index) (hi : s.installRecord b = .inr t) :
    exec (.commit buffer) s
      = .next ((t.setBuffer k none).commandEnd Code.commit (some (.done, BitVec.ofNat 8 b.index))) :=
  exec_commit_eq h (State.commit_of_installed hb hk (State.stagingTest_eq_none hl hr) hi)

/-- COMMIT of such a buffer that the class's owner refuses. -/
theorem exec_commit_of_refused (h : s.Accepts) (hb : buffer.toNat = k.val) (hk : s.staging.get k = some b)
    (hl : b.lost = false) (hr : b.base = s.liveRevision b.cls b.index) (hi : s.installRecord b = .inl r) :
    exec (.commit buffer) s
      = .next (s.commandEnd Code.commit (some (r, BitVec.ofNat 8 b.index))) :=
  exec_commit_eq h (State.commit_of_refused hb hk (State.stagingTest_eq_none hl hr) hi)

/-! ## BED (01 R4) -/

/-- Every window on the bed ends at or before bay `n`. -/
theorem Geometry.endsWithin_iff {g : Geometry} {i : Fin 8} {n : Nat} : g.endsWithin i n = true ↔
    (∀ j p, g.piles.get j = some p → p.bed = i → p.start + p.length ≤ n)
      ∧ (∀ j c, g.cannons.get j = some c → c.bed = i → c.reachStart + c.reachLength ≤ n)
      ∧ ∀ j e, g.exclusions.get j = some e → e.bed = i → e.start + e.length ≤ n := by
  simp only [Geometry.endsWithin, Bool.and_eq_true, Table.all_eq_true, and_assoc]
  refine and_congr (forall_congr' fun j => ?_) (and_congr (forall_congr' fun j => ?_) (forall_congr' fun j => ?_))
  · cases g.piles.get j <;> simp [← imp_iff_not_or]
  · cases g.cannons.get j <;> simp [← imp_iff_not_or]
  · cases g.exclusions.get j <;> simp [← imp_iff_not_or]

end

/-- Settles O13: the test of the windows, and the fields of an accepted BED. -/
theorem commitBed : Obligations.CommitBed := by
  intro s buffer k b i h hb hk hc hx hl hr
  have hr' : b.base = s.liveRevision b.cls b.index := by
    rw [hr, hc, hx]
    simp [State.liveRevision]
  have hi : s.installRecord b = s.commitBed i b.values := by
    simp only [State.installRecord, hc, hx, Fin.ofNat_val_eq_self]
  rw [← hx]
  refine ⟨fun hw => ?_, fun hw => ?_⟩
  · exact exec_commit_of_installed h hb hk hl hr' (hi.trans (if_pos (Geometry.endsWithin_iff.2 hw)))
  · refine exec_commit_of_refused h hb hk hl hr' (hi.trans (if_neg fun he => ?_))
    obtain ⟨hp, hc, he⟩ := Geometry.endsWithin_iff.1 he
    rcases hw with ⟨j, x, hj, hbed, hlt⟩ | ⟨j, x, hj, hbed, hlt⟩ | ⟨j, x, hj, hbed, hlt⟩
    · exact absurd (hp j x hj hbed) (Nat.not_le.2 hlt)
    · exact absurd (hc j x hj hbed) (Nat.not_le.2 hlt)
    · exact absurd (he j x hj hbed) (Nat.not_le.2 hlt)

end Sys2Proof.Machine

/-! PROOFS. FILL (O11): the layouts, the data of a FILL read back as its pairs, and the first pair that fails. -/

namespace Sys2Proof.Machine

section

variable {fields : List FieldSpec} {base : Option Word16} {f : FieldSpec} {v : Nat}

/-! ## Layouts, ranges and fields (10, section 10.5) -/

theorem layout_source_of_ne {i : Nat} (h : i ≠ 5) : layout .source i = layout .source 0 := by
  unfold layout
  split <;> simp_all

/-- Every field of every layout has a byte. -/
theorem width_pos_of_mem_layout {cls : RecordClass} {i : Nat} (h : f ∈ layout cls i) : 0 < f.width := by
  have hs : layout cls i = layout cls 0 ∨ cls = .source ∧ layout cls i = layout cls 5 := by
    cases cls
    case source =>
      by_cases hi : i = 5
      · exact .inr ⟨rfl, hi ▸ rfl⟩
      · exact .inl (layout_source_of_ne hi)
    all_goals exact .inl rfl
  have h0 : ∀ g ∈ layout cls 0, 0 < g.width := by
    cases cls <;> decide
  rcases hs with hs | ⟨rfl, hs⟩
  · exact h0 f (hs ▸ h)
  · exact (by decide : ∀ g ∈ layout .source 5, 0 < g.width) f (hs ▸ h)

theorem Range.holds_between {lo hi : Nat} : (Range.between lo hi).holds v = true ↔ lo ≤ v ∧ v ≤ hi := by
  simp [Range.holds]

theorem Range.holds_zeroOr {lo hi : Nat} :
    (Range.zeroOr lo hi).holds v = true ↔ v = 0 ∨ (lo ≤ v ∧ v ≤ hi) := by
  simp [Range.holds]

theorem Range.holds_noneOr {hi : Nat} : (Range.noneOr hi).holds v = true ↔ v = 255 ∨ v ≤ hi := by
  simp [Range.holds]

theorem FieldSpec.writable_iff :
    f.writable base = true ↔ f.access = .host ∨ (f.access = .creation ∧ base = none) := by
  unfold FieldSpec.writable
  cases f.access <;> simp

/-- A field is found by its number at its first place. -/
theorem findField_eq_some {number j : Nat} : findField fields number = some (j, f) ↔
    fields[j]? = some f ∧ f.number = number
      ∧ ∀ (i : Nat) (g : FieldSpec), i < j → fields[i]? = some g → g.number ≠ number := by
  simp only [findField, Option.map_eq_some_iff, Prod.mk.injEq, Prod.exists, List.find?_eq_some_iff_getElem,
    List.getElem_zipIdx, beq_iff_eq, List.length_zipIdx]
  constructor
  · rintro ⟨g, n, ⟨hn, i, hi, ⟨rfl, rfl⟩, hlt⟩, rfl, rfl⟩
    rw [Nat.zero_add]
    refine ⟨List.getElem?_eq_getElem hi, hn, fun i' g' hi' hg' => ?_⟩
    obtain ⟨hl, rfl⟩ := List.getElem?_eq_some_iff.1 hg'
    simpa using hlt i' hi'
  · rintro ⟨hj, hn, hlt⟩
    obtain ⟨hl, rfl⟩ := List.getElem?_eq_some_iff.1 hj
    exact ⟨_, _, ⟨hn, j, hl, ⟨rfl, Nat.zero_add j⟩,
      fun i hi => by simpa using hlt i _ hi (List.getElem?_eq_getElem (Nat.lt_trans hi hl))⟩, rfl, rfl⟩

/-! ## What fails a pair (08 R157) -/

/-- A pair fails exactly where it does not pass its field's tests. -/
theorem pairFault_of_takes (h : f.takes base v) : pairFault base f v = none := by
  obtain ⟨hw, hr⟩ := h
  unfold pairFault
  rcases FieldSpec.writable_iff.1 hw with ha | ⟨ha, rfl⟩ <;> simp [ha, hr]

theorem pairFault_of_not_takes (h : ¬ f.takes base v) :
    pairFault base f v = some (if f.writable base then .range else .readonly) := by
  unfold FieldSpec.takes at h
  unfold pairFault FieldSpec.writable at *
  cases ha : f.access <;> cases base <;> simp_all

/-- The first pair that fails gives the refusal and its field's number (08 R157). -/
theorem firstPairFault_of_takes {ps : List (Nat × FieldSpec × Nat)} (h : ∀ x ∈ ps, x.2.1.takes base x.2.2) :
    firstPairFault base ps = none :=
  List.findSome?_eq_none_iff.2 fun x hx => by rw [pairFault_of_takes (h x hx), Option.map_none]

theorem firstPairFault_of_not_takes {good rest : List (Nat × FieldSpec × Nat)} {x : Nat × FieldSpec × Nat}
    (hg : ∀ y ∈ good, y.2.1.takes base y.2.2) (hx : ¬ x.2.1.takes base x.2.2) :
    firstPairFault base (good ++ x :: rest)
      = some (if x.2.1.writable base then .range else .readonly, BitVec.ofNat 8 x.2.1.number) := by
  have hn : firstPairFault base good = none := firstPairFault_of_takes hg
  unfold firstPairFault at hn ⊢
  rw [List.findSome?_append, hn, Option.none_or, List.findSome?_cons, pairFault_of_not_takes hx]
  rfl

end

section

variable {fields : List FieldSpec} {ps : List (Nat × FieldSpec × Nat)}

/-! ## The data of a FILL (10 R175) -/

theorem length_bytesOf (w v : Nat) : (bytesOf w v).length = w := by
  simp [bytesOf]

theorem bytesOf_succ (w v : Nat) : bytesOf (w + 1) v = BitVec.ofNat 8 (v / 256 ^ w) :: bytesOf w v := by
  simp [bytesOf, List.range_succ]

theorem foldl_bytesOf (w v a : Nat) :
    (bytesOf w v).foldl (fun a b => a * 256 + b.toNat) a = a * 256 ^ w + v % 256 ^ w := by
  induction w generalizing a with
  | zero => simp [bytesOf, Nat.mod_one]
  | succ w ih =>
    rw [bytesOf_succ, List.foldl_cons, ih, BitVec.toNat_ofNat, Nat.pow_succ 256 w,
      Nat.mod_mul (a := 256 ^ w), show 2 ^ 8 = 256 from rfl]
    ring

/-- A quantity is read back from its bytes where they hold it. -/
theorem valueOf_bytesOf {w v : Nat} (h : v < 256 ^ w) : valueOf (bytesOf w v) = v := by
  rw [valueOf, foldl_bytesOf, Nat.zero_mul, Nat.zero_add, Nat.mod_eq_of_lt h]

/-- The data of a FILL that gives some pairs. -/
def fillData (ps : List (Nat × FieldSpec × Nat)) : List Byte :=
  ps.flatMap fun x => BitVec.ofNat 8 x.2.1.number :: bytesOf x.2.1.width x.2.2

/-- Each pair is of a field found by its number, with a value that its bytes hold. -/
def Spelt (fields : List FieldSpec) (ps : List (Nat × FieldSpec × Nat)) : Prop :=
  ∀ x ∈ ps, findField fields x.2.1.number = some (x.1, x.2.1) ∧ x.2.1.number < 256 ∧ x.2.2 < 256 ^ x.2.1.width

/-- The data are read back as the pairs, and then as what follows them. -/
theorem parsePairs_fillData (h : Spelt fields ps) {rest : List Byte} {fuel : Nat}
    (hf : (fillData ps ++ rest).length ≤ fuel) :
    ∃ fuel', rest.length ≤ fuel' ∧ parsePairs fields fuel (fillData ps ++ rest)
      = (ps ++ (parsePairs fields fuel' rest).1, (parsePairs fields fuel' rest).2) := by
  induction ps generalizing fuel with
  | nil => exact ⟨fuel, hf, rfl⟩
  | cons x ps ih =>
    obtain ⟨hx, hp⟩ := List.forall_mem_cons.1 h
    obtain ⟨hfind, hn, hv⟩ := hx
    have hd : fillData (x :: ps) ++ rest
        = BitVec.ofNat 8 x.2.1.number :: (bytesOf x.2.1.width x.2.2 ++ (fillData ps ++ rest)) := by
      simp [fillData]
    have hnum : (BitVec.ofNat 8 x.2.1.number).toNat = x.2.1.number := by
      rw [BitVec.toNat_ofNat]
      exact Nat.mod_eq_of_lt hn
    rw [hd, List.length_cons, List.length_append, length_bytesOf] at hf
    obtain ⟨fuel, rfl⟩ := Nat.exists_eq_add_one_of_ne_zero (show fuel ≠ 0 by omega)
    obtain ⟨fuel', hf', he⟩ := ih hp (fuel := fuel) (by omega)
    refine ⟨fuel', hf', ?_⟩
    have hlen : (bytesOf x.2.1.width x.2.2).length = x.2.1.width := length_bytesOf _ _
    rw [hd]
    simp only [parsePairs, hnum, hfind]
    rw [if_neg (by rw [List.length_append, hlen]; omega), List.drop_left' hlen, List.take_left' hlen, he,
      valueOf_bytesOf hv]
    rfl

/-- Data that end with a pair are whole. -/
theorem parsePairs_of_whole (h : Spelt fields ps) :
    parsePairs fields (fillData ps).length (fillData ps) = (ps, .complete) := by
  obtain ⟨fuel, -, he⟩ := parsePairs_fillData (rest := []) h (Nat.le_refl _)
  rw [List.append_nil] at he
  rw [he]
  cases fuel <;> simp [parsePairs]

/-- Data that stop inside a pair are refused before any pair is judged. -/
theorem parsePairs_of_part (h : Spelt fields ps) {n : Byte} {more : List Byte}
    (hw : ∀ f ∈ fields, 0 < f.width)
    (hm : more = [] ∨ ∃ j f, findField fields n.toNat = some (j, f) ∧ more.length < f.width) :
    (parsePairs fields (fillData ps ++ n :: more).length (fillData ps ++ n :: more)).2 = .partPair := by
  obtain ⟨fuel, hf, he⟩ := parsePairs_fillData (rest := n :: more) h (Nat.le_refl _)
  obtain ⟨fuel, rfl⟩ := Nat.exists_eq_add_one_of_ne_zero (show fuel ≠ 0 by simp at hf; omega)
  rw [he]
  simp only [parsePairs]
  rcases hm with rfl | ⟨j, f, hj, hlt⟩
  · cases hfind : findField fields n.toNat with
    | none => rfl
    | some x =>
      have hpos := hw x.2 (List.mem_of_getElem? (findField_getElem? (k := x.1) (f := x.2) hfind))
      simp [hpos]
  · simp [hj, hlt]

/-- After a number that the layout does not give nothing more is read (log 25). -/
theorem parsePairs_of_unknown (h : Spelt fields ps) {n : Byte} {more : List Byte} (hm : more ≠ [])
    (hn : findField fields n.toNat = none) :
    parsePairs fields (fillData ps ++ n :: more).length (fillData ps ++ n :: more)
      = (ps, .unknownField n.toNat) := by
  obtain ⟨fuel, hf, he⟩ := parsePairs_fillData (rest := n :: more) h (Nat.le_refl _)
  obtain ⟨fuel, rfl⟩ := Nat.exists_eq_add_one_of_ne_zero (show fuel ≠ 0 by simp at hf; omega)
  rw [he]
  simp [parsePairs, hn, hm]

end

section

variable {s : State} {b : Staged} {buffer : Byte} {data : List Byte} {k : Fin 2}
  {ps : List (Nat × FieldSpec × Nat)} {r : Result × Byte}

/-! ## FILL (08 R157) -/

theorem Staged.apply_eq (b : Staged) (ps : List (Nat × FieldSpec × Nat)) :
    b.apply ps = { b with
      values := ps.foldl (fun v x => v.set x.1 x.2.2) b.values
      written := ps.foldl (fun w x => w.set x.1 true) b.written } := by
  unfold Staged.apply
  induction ps generalizing b with
  | nil => rfl
  | cons x ps ih => rw [List.foldl_cons, ih]; rfl

/-- Whole pairs that all pass their tests are all written, in order. -/
theorem Staged.fill_of_takes (hp : parsePairs (layout b.cls b.index) data.length data = (ps, .complete))
    (h : ∀ x ∈ ps, x.2.1.takes b.base x.2.2) : b.fill buffer data = (b.apply ps, some (.done, buffer)) := by
  simp only [Staged.fill, hp, firstPairFault_of_takes h]

/-- The first pair that fails refuses the FILL, and nothing is written. -/
theorem Staged.fill_of_fault (hp : parsePairs (layout b.cls b.index) data.length data = (ps, .complete))
    (h : firstPairFault b.base ps = some r) : b.fill buffer data = (b, some r) := by
  simp only [Staged.fill, hp, h]

theorem Staged.fill_of_part (hp : (parsePairs (layout b.cls b.index) data.length data).2 = .partPair) :
    b.fill buffer data = (b, some (.range, 0)) := by
  simp only [Staged.fill, hp]

theorem Staged.fill_of_unknown {n : Nat}
    (hp : parsePairs (layout b.cls b.index) data.length data = (ps, .unknownField n))
    (h : ∀ x ∈ ps, x.2.1.takes b.base x.2.2) :
    b.fill buffer data = (b, some (.range, BitVec.ofNat 8 n)) := by
  simp only [Staged.fill, hp, firstPairFault_of_takes h]

theorem State.fill_of_le (hb : 2 ≤ buffer.toNat) : s.fill (some buffer) data = (s, some (.range, 0)) := by
  simp only [State.fill, State.fillBuffer, index?_of_le hb]

theorem State.fill_of_empty (hb : buffer.toNat = k.val) (hk : s.staging.get k = none) :
    s.fill (some buffer) data = (s, some (.empty, buffer)) := by
  simp only [State.fill, State.fillBuffer, index?_of_toNat_eq hb, hk]

theorem State.fill_of_staged (hb : buffer.toNat = k.val) (hk : s.staging.get k = some b) {b' : Staged}
    {a : Answer} (hf : b.fill buffer data = (b', a)) :
    s.fill (some buffer) data = (s.setBuffer k (some b'), a) := by
  simp only [State.fill, State.fillBuffer, index?_of_toNat_eq hb, hk, hf]

/-- A FILL that is refused leaves the buffer as it was. -/
theorem State.fill_of_refused (hb : buffer.toNat = k.val) (hk : s.staging.get k = some b) {a : Answer}
    (hf : b.fill buffer data = (b, a)) : s.fill (some buffer) data = (s, a) := by
  have hs : s.setBuffer k (some b) = s := by
    rw [State.setBuffer, ← hk, Table.put_get_self]
  rw [State.fill_of_staged hb hk hf, hs]

end

/-- Settles O11: the layouts class by class, and the data of a FILL as the pairs that they spell. -/
theorem fillWritesAllPairsOrNone : Obligations.FillWritesAllPairsOrNone := by
  refine ⟨fun h z n p i hh hz hn hp => ?_, fun lo hi v => ⟨Range.holds_between, Range.holds_zeroOr,
      Range.holds_noneOr⟩, fun f base v => ⟨FieldSpec.writable_iff, Iff.rfl⟩,
    fun fields number j f => findField_eq_some, fun s buffer k b ps h hb hk hps data hd => ⟨fun ht => ?_,
      fun good x rest hgood hg hx => ?_⟩,
    fun s buffer data ps h => ⟨fun hb => exec_fill_eq h (State.fill_of_le hb), exec_fill_eq h rfl,
      fun k hb => ⟨fun hk => exec_fill_eq h (State.fill_of_empty hb hk), fun b n more hk hps hd =>
        ⟨fun hm => ?_, fun hm hn ht => ?_⟩⟩⟩⟩
  · subst hh hz hn hp
    exact ⟨rfl, rfl, rfl, rfl, rfl, rfl, rfl, rfl, fun hi => layout_source_of_ne hi, rfl⟩
  · subst hd
    have hf := Staged.fill_of_takes (buffer := buffer) (parsePairs_of_whole hps) ht
    rw [Staged.apply_eq] at hf
    exact exec_fill_eq h (State.fill_of_staged hb hk hf)
  · subst hd hgood
    exact exec_fill_eq h (State.fill_of_refused hb hk
      (Staged.fill_of_fault (parsePairs_of_whole hps) (firstPairFault_of_not_takes hg hx)))
  · subst hd
    exact exec_fill_eq h (State.fill_of_refused hb hk
      (Staged.fill_of_part (parsePairs_of_part hps (fun f => width_pos_of_mem_layout) hm)))
  · subst hd
    have hf := Staged.fill_of_unknown (buffer := buffer) (parsePairs_of_unknown hps hm hn) ht
    rw [BitVec.ofNat_toNat, BitVec.setWidth_eq] at hf
    exact exec_fill_eq h (State.fill_of_refused hb hk hf)

end Sys2Proof.Machine

/-! PROOFS. COMMIT of a pile (O14). -/

namespace Sys2Proof.Machine

section

variable {s t u : State}

/-! ## The end of a command that answers -/

/-- The port after a command that answers: its triple, the output empty, no transaction open. -/
theorem State.commandEnd_port_eq (s : State) (code : Byte) (r : Result) (i : Byte) :
    (s.commandEnd code (some (r, i))).port =
      { s.port with
        command := code, result := r, index := i, dataOut := [], transaction := .idle, selectLeft := 30 } := by
  have h := congrArg Frame.port (s.commandEnd_frame code (some (r, i)))
  refine h.trans ?_
  show ({ s.port.deselected.risen with dataOut := [], command := code, result := r, index := i } : Port) = _
  simp [Port.risen, selectUnits]

/-- The frame after an accepted COMMIT: its own work's, the buffer EMPTY and the triple written. -/
theorem State.commitEnd_frame (u : State) (k : Fin 2) (i : Byte) {t : State}
    (ht : t = (u.setBuffer k none).commandEnd Code.commit (some (.done, i))) :
    t.port = { u.port with
        command := Code.commit, result := .done, index := i, dataOut := [], transaction := .idle, selectLeft := 30 }
      ∧ t.frame = { u.frame with port := t.port, staging := u.staging.put k none, log := t.field.log } := by
  have hp : t.port = _ := ht ▸ (u.setBuffer k none).commandEnd_port_eq Code.commit .done i
  refine ⟨hp, ?_⟩
  have h := (u.setBuffer k none).commandEnd_frame Code.commit (some (.done, i))
  rw [← ht] at h
  have hq : t.port = _ := congrArg Frame.port h
  rw [hq, h]
  rfl

end

section

variable {s : State} {i : Fin 48} {x : Pile} {v : List Nat}

/-! ## The tests of a PILE COMMIT (01 R7) -/

theorem Geometry.overlaps_iff {g : Geometry} : g.overlaps i x = true ↔
    ∃ j p, j ≠ i ∧ g.piles.get j = some p ∧ p.bed = x.bed
      ∧ windowsMeet p.start p.length x.start x.length = true := by
  simp only [Geometry.overlaps, Table.any_eq_true]
  refine exists_congr fun j => ?_
  cases g.piles.get j <;> simp [and_assoc]

theorem Cannon.coversPile_iff {c : Cannon} : c.coversPile x = true ↔
    c.bed = x.bed ∧ c.reachStart ≤ x.start ∧ x.start + x.length ≤ c.reachStart + c.reachLength := by
  simp [Cannon.coversPile, Cannon.coversWindow, and_assoc]

theorem Geometry.covered_iff {g : Geometry} : g.covered x = true ↔
    ∃ j c, g.cannons.get j = some c ∧ c.coversPile x = true := by
  simp only [Geometry.covered, Table.any_eq_true]
  refine exists_congr fun j => ?_
  cases g.cannons.get j <;> simp

theorem Pile.sameWindow_iff {p : Pile} : p.sameWindow x = true ↔
    p.bed = x.bed ∧ p.start = x.start ∧ p.length = x.length := by
  simp [Pile.sameWindow, and_assoc]

theorem State.pileTest_of_extent (h : ¬ x.start + x.length ≤ (s.geometry.beds.get x.bed).length) :
    s.pileTest i x = some .range := if_pos (Nat.lt_of_not_le h)

theorem State.pileTest_of_overlap (he : x.start + x.length ≤ (s.geometry.beds.get x.bed).length)
    (h : s.geometry.overlaps i x = true) : s.pileTest i x = some .overlap := by
  rw [State.pileTest, if_neg (Nat.not_lt.2 he), if_pos h]

theorem State.pileTest_of_uncovered (he : x.start + x.length ≤ (s.geometry.beds.get x.bed).length)
    (ho : ¬ s.geometry.overlaps i x = true) (h : ¬ s.geometry.covered x = true) :
    s.pileTest i x = some .uncovered := by
  rw [State.pileTest, if_neg (Nat.not_lt.2 he), if_neg ho, if_pos (by simpa using h)]

theorem State.pileTest_of_covered (he : x.start + x.length ≤ (s.geometry.beds.get x.bed).length)
    (ho : ¬ s.geometry.overlaps i x = true) (hc : s.geometry.covered x = true) :
    s.pileTest i x = match s.geometry.piles.get i with
      | some old => if (s.watch.living.get i).engaged && !old.sameWindow x then some .engaged else none
      | none => none := by
  rw [State.pileTest, if_neg (Nat.not_lt.2 he), if_neg ho, if_neg (by simp [hc])] <;> rfl

/-! ## The pile installed (01 R6, R8) -/

theorem Geometry.mem_placePile_index {g : Geometry} (bed : Fin 8) {j : Fin 48} (hj : j ≠ i) :
    j ∈ (g.placePile i x).index.get bed ↔ j ∈ g.index.get bed := by
  simp only [Geometry.placePile, Table.get_modify, Geometry.unindexed, Table.get_tab]
  split
  · rw [Geometry.mem_insertIndex]
    simp [*]
  · simp [hj]

theorem Geometry.self_mem_placePile_index {g : Geometry} (bed : Fin 8) :
    i ∈ (g.placePile i x).index.get bed ↔ bed = x.bed := by
  simp only [Geometry.placePile, Table.get_modify, Geometry.unindexed, Table.get_tab]
  split
  · next h => simp [Geometry.mem_insertIndex, h]
  · next h => simp [Ne.symm h]

theorem Living.atCommit_new (l : Living) (n : Nat) (count : Word16) : l.atCommit none x n count =
    { moisture := n, urgency := .none, dryness := 0, basis := .worst, deferral := 0, escalated := false,
      sweepDue := false, bedMark := count, engaged := false, carried := false, unqueued := false,
      wetting := none } := rfl

theorem Living.atCommit_present (l : Living) (p : Pile) (n : Nat) (count : Word16) :
    l.atCommit (some p) x n count = { l with bedMark := if p.bed = x.bed then l.bedMark else count } := by
  by_cases h : p.bed = x.bed <;> simp [Living.atCommit, h]

/-- The state with the pile placed and its living part begun, before it is evaluated. -/
def State.placed (s : State) (i : Fin 48) (x : Pile) (n : Nat) : State :=
  { s with
    geometry := s.geometry.placePile i x
    watch := { s.watch with
      living := s.watch.living.put i ((s.watch.living.get i).atCommit (s.geometry.piles.get i) x n
        (s.watch.passCount.get x.bed)) } }

/-- An order of the pile whose name is false loses the name (05 R98). -/
def State.nameKept (s : State) (i : Fin 48) (o : Order) : Order :=
  if decide (o.pile = i) && s.nameFalse o then { o with named := none } else o

/-- What an installed pile leaves, in terms of its evaluation. -/
theorem State.installPile_eq {n : Nat} {u : State} (hu : u = (s.placed i x n).reevaluate i true) :
    s.installPile i x n = { u with
      queue := u.queue.map (u.nameKept i)
      engine := { u.engine with asked := Table.fill 4 true } } := by
  have h : s.installPile i x n
      = (((s.placed i x n).reevaluate i true).clearNames fun o => decide (o.pile = i)
        && ((s.placed i x n).reevaluate i true).nameFalse o).askAll := rfl
  rw [h, ← hu]
  rfl

/-- The names that stand false once the pile is `x` (05 R98). -/
theorem State.nameKept_eq {f : Order → Order} {u : State} (hc : u.geometry.cannons = s.geometry.cannons)
    (hp : u.geometry.piles.get i = some x)
    (h1 : ∀ o n c, o.pile = i → o.named = some n → s.geometry.cannons.get n = some c →
      c.coversPile x = true → f o = o)
    (h2 : ∀ o n, o.pile = i → o.named = some n →
      (∀ c, s.geometry.cannons.get n = some c → c.coversPile x = false) → f o = { o with named := none })
    (h3 : ∀ o, (o.pile ≠ i ∨ o.named = none) → f o = o) : u.nameKept i = f := by
  funext o
  unfold State.nameKept State.nameFalse
  by_cases hi : o.pile = i
  · cases hn : o.named with
    | none => simp [h3 o (.inr hn)]
    | some n =>
      cases hk : s.geometry.cannons.get n with
      | none =>
        simp [hi, hc, hk, h2 o n hi hn (by simp [hk])]
      | some c =>
        cases hv : c.coversPile x with
        | true => simp [hi, hc, hk, hp, hv, h1 o n c hi hn hk hv]
        | false => simp [hi, hc, hk, hp, hv, h2 o n hi hn (by simp [hk, hv])]
  · simp [hi, h3 o (.inl hi)]

/-- The frame of an installed pile. -/
theorem State.installPile_frame (n : Nat) :
    (s.installPile i x n).frame = { s.frame with geometry := s.geometry.placePile i x } := by
  rw [State.installPile_eq rfl]
  exact (State.reevaluate_frame (s.placed i x n) i true)

theorem State.commitPile_of_refused {r : Result}
    (h : s.pileTest i (pileFrom v (nextRevision ((s.geometry.piles.get i).map (·.revision)))) = some r) :
    s.commitPile i v = .inl r := by
  rw [State.commitPile, h]

theorem State.commitPile_of_accepted
    (hx : x = pileFrom v (nextRevision ((s.geometry.piles.get i).map (·.revision))))
    (h : s.pileTest i x = none) : s.commitPile i v = .inr (s.installPile i x (fieldValue v 5)) := by
  subst hx
  rw [State.commitPile, h]

theorem nextRevision_map {α : Type} (f : α → Word16) (o : Option α) :
    nextRevision (o.map f) = match o with | some a => f a + 1 | none => 0 := by
  cases o <;> rfl

end

/-- Settles O14: the tests of a PILE COMMIT in their order, and what an accepted one leaves. -/
theorem commitPile : Obligations.CommitPile := by
  intro s buffer k b i x h hb hk hc hx hl hr hxd extent overlap covered moved hext hov hcov hmov
  have hr' : b.base = s.liveRevision b.cls b.index := by
    rw [hr, hc, hx]
    simp [State.liveRevision]
  have hi : s.installRecord b = s.commitPile i b.values := by
    simp only [State.installRecord, hc, hx, Fin.ofNat_val_eq_self]
  have hxe : x = pileFrom b.values (nextRevision ((s.geometry.piles.get i).map (·.revision))) := by
    rw [hxd, nextRevision_map]
    cases s.geometry.piles.get i <;> rfl
  have hcov' : s.geometry.covered x = true ↔ covered := by
    rw [hcov, Geometry.covered_iff]
    simp only [Cannon.coversPile_iff]
  rw [← Geometry.overlaps_iff] at hov
  have refused : ∀ r, s.pileTest i x = some r → exec (.commit buffer) s
      = .next (s.commandEnd Code.commit (some (r, BitVec.ofNat 8 i.val))) := fun r ht => by
    rw [← hx]
    exact exec_commit_of_refused h hb hk hl hr' (hi.trans (State.commitPile_of_refused (hxe ▸ ht)))
  refine ⟨fun he => refused _ (State.pileTest_of_extent (mt hext.2 he)),
    fun he ho => refused _ (State.pileTest_of_overlap (hext.1 he) (hov.1 ho)),
    fun he ho hc' => refused _ (State.pileTest_of_uncovered (hext.1 he) (mt hov.2 ho) (mt hcov'.1 hc')),
    fun he ho hc' hen hm => refused _ ?_, fun he ho hc' hen => ?_⟩
  · obtain ⟨p, hp, hne⟩ := hmov.1 hm
    rw [State.pileTest_of_covered (hext.1 he) (mt hov.2 ho) (hcov'.2 hc'), hp]
    simp [hen, mt Pile.sameWindow_iff.1 hne]
  · have ht : s.pileTest i x = none := by
      rw [State.pileTest_of_covered (hext.1 he) (mt hov.2 ho) (hcov'.2 hc')]
      cases hp : s.geometry.piles.get i with
      | none => rfl
      | some p =>
        rcases hen with hen | hm
        · simp [hen]
        · have hs : p.sameWindow x = true :=
            Pile.sameWindow_iff.2 (by_contra fun hne => hm (hmov.2 ⟨p, hp, hne⟩))
          simp [hs]
    refine ⟨_, exec_commit_of_installed h hb hk hl hr'
      (hi.trans (State.commitPile_of_accepted hxe ht)), ?_⟩
    generalize ht : ((s.installPile i x (fieldValue b.values 5)).setBuffer k none).commandEnd Code.commit
      (some (.done, BitVec.ofNat 8 b.index)) = t
    obtain ⟨hport, hframe⟩ := State.commitEnd_frame _ k _ ht.symm
    rw [State.installPile_frame] at hframe
    have hF := State.installPile_frame (s := s) (i := i) (x := x) (fieldValue b.values 5)
    have hpo : (s.installPile i x (fieldValue b.values 5)).port = s.port := congrArg Frame.port hF
    have hst : (s.installPile i x (fieldValue b.values 5)).staging = s.staging := congrArg Frame.staging hF
    have hge : t.geometry = s.geometry.placePile i x := congrArg Frame.geometry hframe
    rw [hst] at hframe
    refine ⟨by rw [hport, hpo, hx], by rw [hge]; rfl, fun bed j hj => by rw [hge, Geometry.mem_placePile_index bed hj],
      fun bed => by rw [hge, Geometry.self_mem_placePile_index], by rw [hframe, hge],
      by rw [hge]; rfl, fun m w u f hnew hold hw hu h1 h2 h3 => ?_⟩
    have hm : m = (s.watch.living.get i).atCommit (s.geometry.piles.get i) x (fieldValue b.values 5)
        (s.watch.passCount.get x.bed) := by
      cases hp : s.geometry.piles.get i with
      | none => rw [hnew hp]; rfl
      | some p => rw [hold p hp, Living.atCommit_present]
    have hwe : w = s.placed i x (fieldValue b.values 5) := by rw [hw, hge, hm]; rfl
    rw [hwe] at hu
    have hug : u.frame = { s.frame with geometry := s.geometry.placePile i x } :=
      hu ▸ State.reevaluate_frame _ i true
    have hus : u.staging = s.staging := congrArg Frame.staging hug
    have hugeo : u.geometry = s.geometry.placePile i x := congrArg Frame.geometry hug
    rw [← ht, State.installPile_eq hu, State.nameKept_eq (s := s) (f := f) (x := x) (by rw [hugeo]; rfl)
      (by rw [hugeo]; simp [Geometry.placePile]) h1 h2 h3, ← hus, hx]
    rfl

end Sys2Proof.Machine

/-! PROOFS. Suspensions and the walks that make them: a drift re-evaluation (O27) and the COMMIT of a cannon (O15). -/

namespace Sys2Proof.Machine

section

variable {s t : State} {c : Fin 8} {p q : Pass}

/-! ## The low test and a deduction (04 R69, R71) -/

/-- The notices with `k` pending for `n`. -/
def Notices.marked (y : Notices) (k : NoticeKind) (n : Nat) : Notices :=
  { y with pending := y.pending.put k.place true, subjects := y.subjects.put k.place n }

theorem State.raise_eq_marked (s : State) (k : NoticeKind) (n : Nat) :
    s.raise k n = { s with notices := s.notices.marked k n } := rfl

/-- The low test written out: the low condition, and WATER_LOW at entry. -/
theorem State.lowTest_eq (s : State) (b : Fin 5) : s.lowTest b = { s with
    water := { s.water with
      basins := s.water.basins.put b { s.water.basins.get b with low := (s.water.basins.get b).lowAfter } }
    notices := if (s.water.basins.get b).low = false ∧ (s.water.basins.get b).lowAfter = true
      then s.notices.marked .waterLow b.val else s.notices } := by
  unfold State.lowTest
  cases h1 : (s.water.basins.get b).low <;> cases h2 : (s.water.basins.get b).lowAfter <;>
    simp [State.mapBasin, State.raise_eq_marked, Table.modify, h1, h2]

theorem Basin.lowAfter_iff (b : Basin) : b.lowAfter = true ↔
    if b.low = true then b.level < b.floor + b.restoreMargin
    else b.level < b.floor ∨ b.level < b.floor + b.reserved := by
  unfold Basin.lowAfter
  cases b.low <;> simp

/-- The fresh supply is the sixth source. -/
theorem asBasin_five : asBasin 5 = none := rfl

theorem asBasin_of_val {x : Fin 6} {b : Fin 5} (h : x.val = b.val) : asBasin x = some b := by
  have hx : x.val < 5 := h ▸ b.isLt
  simp [asBasin, h]

/-! ## A suspension (06 R121) -/

/-- A suspended pass as a suspension of another number leaves it. -/
theorem State.suspended_eq (s : State) (p : Pass) : s.suspended p = { p with
    state := .suspended, wind := s.engine.blocked.get p.cannon
    machine := match s.geometry.piles.get p.pile with
      | some x => (s.field.lines.machine.get x.bed).filtered
      | none => false
    since := some ⟨s.clock.day, s.clock.second⟩, suspension := s.engine.suspensions
    deducted := p.delivered, primeTimer := none, dwellTimer := none
    limitTimer := some (60 * s.watch.model.suspensionLimit) } := by
  unfold State.suspended State.machineOn State.bedOf State.machinePresent
  cases s.geometry.piles.get p.pile <;> rfl

/-- What a suspension makes of the engine. -/
def State.suspendedEngine (s : State) (c : Fin 8) (p : Pass) : Engine :=
  { s.engine with
    mains := s.engine.mains.put p.main { s.engine.mains.get p.main with
      state := .opened, openSource := some p.source, context := none }
    contexts := s.engine.contexts.put c (some (s.suspended p))
    suspensions := s.engine.suspensions + 1
    asked := s.engine.asked.put p.main true }

/-- A suspension as its deduction, its low test, and its work on the engine. -/
theorem State.suspendPass_eq {d t : State}
    (hd : d = ({ s with engine := { s.suspendedEngine c p with asked := s.engine.asked } } : State).deduct p.source
      (p.delivered - p.deducted))
    (ht : t = if 0 < p.delivered - p.deducted then d.lowTestUnless none p.source else d) :
    s.suspendPass c p = (t.ask p.main).follow := by
  rw [ht, hd]
  rfl

theorem State.deduct_engine (s : State) (x : Fin 6) (v : Nat) : (s.deduct x v).engine = s.engine := by
  unfold State.deduct
  cases asBasin x <;> rfl

theorem State.lowTestUnless_engine (s : State) (e : Option (Fin 5)) (x : Fin 6) :
    (s.lowTestUnless e x).engine = s.engine := by
  unfold State.lowTestUnless
  cases asBasin x with
  | none => rfl
  | some b =>
    dsimp only
    split
    · rfl
    · rw [State.lowTest_eq]

theorem State.suspendPass_engine (s : State) (c : Fin 8) (p : Pass) :
    (s.suspendPass c p).engine = s.suspendedEngine c p := by
  rw [State.suspendPass_eq rfl rfl, State.follow_engine]
  split <;> simp only [State.ask, State.lowTestUnless_engine, State.deduct_engine] <;> rfl

/-- A suspension leaves Pile Watch and the queue alone. -/
theorem State.suspendPass_watch_queue (s : State) (c : Fin 8) (p : Pass) :
    (s.suspendPass c p).watch = s.watch ∧ (s.suspendPass c p).queue = s.queue := by
  rw [State.suspendPass_eq rfl rfl, State.follow_watch, State.follow_queue]
  generalize hb : ({ s with engine := { s.suspendedEngine c p with asked := s.engine.asked } } : State) = b
  obtain ⟨-, -, hdw, hdq, -⟩ := State.beyondWater_fields (b.deduct_beyondWater p.source (p.delivered - p.deducted))
  have hw : b.watch = s.watch ∧ b.queue = s.queue := by rw [← hb]; exact ⟨rfl, rfl⟩
  split
  · obtain ⟨-, -, hlw, hlq, -⟩ := State.beyondWater_fields
      ((b.deduct p.source (p.delivered - p.deducted)).lowTestUnless_beyondWater none p.source)
    exact ⟨hlw.trans (hdw.trans hw.1), hlq.trans (hdq.trans hw.2)⟩
  · exact ⟨hdw.trans hw.1, hdq.trans hw.2⟩

/-- A suspension at the fresh supply raises Used by what was drawn since the last deduction. -/
theorem State.suspendPass_fresh (h : p.source = 5) :
    (s.suspendPass c p).notices = s.notices ∧ (s.suspendPass c p).water = { s.water with
      fresh := { s.water.fresh with
        used := s.water.fresh.used + (p.delivered - p.deducted)
        reserved := s.water.fresh.reserved - (p.delivered - p.deducted) } } := by
  rw [State.suspendPass_eq rfl rfl, State.follow_notices, State.follow_water]
  simp only [h, State.deduct, State.lowTestUnless, asBasin_five, ite_self]
  exact ⟨rfl, rfl⟩

/-- The basin that a suspension leaves, before its low test. -/
def Basin.drawn (x : Basin) (v : Nat) : Basin := { x with level := x.level - v, reserved := x.reserved - v }

/-- A suspension at a basin lowers its Level by what was drawn; the low test follows a draw. -/
theorem State.suspendPass_basin {b : Fin 5} {x : Basin} {v : Nat} (h : p.source.val = b.val)
    (hx : (s.water.basins.get b).drawn v = x) (hv : p.delivered - p.deducted = v) :
    (s.suspendPass c p).water = { s.water with
        basins := s.water.basins.put b (if 0 < v then { x with low := x.lowAfter } else x) }
      ∧ (s.suspendPass c p).notices = if 0 < v ∧ x.low = false ∧ x.lowAfter = true
          then s.notices.marked .waterLow b.val else s.notices := by
  rw [State.suspendPass_eq rfl rfl, State.follow_notices, State.follow_water]
  simp only [State.deduct, State.lowTestUnless, asBasin_of_val h, reduceCtorEq, if_false, hv]
  have hm : ∀ u : State, (u.mapBasin b fun y => { y with level := y.level - v, reserved := y.reserved - v })
      = { u with water := { u.water with basins := u.water.basins.put b ((u.water.basins.get b).drawn v) } } :=
    fun _ => rfl
  by_cases hp : 0 < v
  · rw [if_pos hp, if_pos hp, hm, State.lowTest_eq]
    simp [State.ask, hx, hp, Table.put_put]
  · rw [if_neg hp, if_neg hp, hm]
    simp [State.ask, hx, hp]

end

section

variable {s t : State} {c : Fin 8} {p q : Pass}

/-! ## Walks over the contexts -/

theorem allContexts_nodup : allContexts.Nodup := List.nodup_finRange 8

@[simp] theorem mem_allContexts (c : Fin 8) : c ∈ allContexts := List.mem_finRange c

/-- Two walks whose steps agree on the states that the walk meets are one walk. -/
theorem State.forEach_congr {α : Type} {I : State → Prop} {f g : State → α → State}
    (hfg : ∀ t a, I t → f t a = g t a) (hI : ∀ t a, I t → I (g t a)) (l : List α) {s : State} (hs : I s) :
    s.forEach l f = s.forEach l g := by
  unfold State.forEach
  induction l generalizing s with
  | nil => rfl
  | cons a l ih => rw [List.foldl_cons, List.foldl_cons, hfg s a hs, ih (hI s a hs)]

/-- A step of a walk writes no context but its own. -/
def StepsAlone (f : State → Fin 8 → State) : Prop :=
  ∀ t c d, d ≠ c → (f t c).engine.contexts.get d = t.engine.contexts.get d

/-- A walk keeps what each of its steps keeps at the context as it stood before the walk. -/
theorem State.forEach_keeps_of {α : Type} {f : State → Fin 8 → State} (hf : StepsAlone f) (g : State → α)
    {l : List (Fin 8)} (hl : l.Nodup) (t : State)
    (hg : ∀ u, ∀ c ∈ l, u.engine.contexts.get c = t.engine.contexts.get c → g (f u c) = g u) :
    g (t.forEach l f) = g t := by
  unfold State.forEach
  induction l generalizing t with
  | nil => rfl
  | cons d l ih =>
    obtain ⟨hd, hl⟩ := List.nodup_cons.1 hl
    have hne : ∀ c ∈ l, c ≠ d := fun c hc h => hd (h ▸ hc)
    rw [List.foldl_cons, ih hl (f t d) fun u c hc hu => hg u c (List.mem_cons_of_mem _ hc)
      (hu.trans (hf t d c (hne c hc))), hg t d List.mem_cons_self rfl]

/-- A walk over every context, seen at one of them: the walk before it, its own step, and the walk after it. -/
theorem State.forEach_at {f : State → Fin 8 → State} (hf : StepsAlone f) {Q : State → Prop}
    (hQ : ∀ t c, Q t → Q (f t c)) {α : Type} (g : State → α) (c : Fin 8) {s : State} (hs : Q s)
    (hg : ∀ t d, d ≠ c → t.engine.contexts.get d = s.engine.contexts.get d → g (f t d) = g t) :
    ∃ t, Q t ∧ t.engine.contexts.get c = s.engine.contexts.get c ∧ g t = g s
      ∧ (s.forEach allContexts f).engine.contexts.get c = (f t c).engine.contexts.get c
      ∧ g (s.forEach allContexts f) = g (f t c) := by
  obtain ⟨l₁, l₂, hl⟩ := List.append_of_mem (List.mem_finRange c)
  have hnd : (l₁ ++ c :: l₂).Nodup := hl ▸ List.nodup_finRange 8
  obtain ⟨hn₁, hn₂, hd⟩ := List.nodup_append.1 hnd
  obtain ⟨hc₂, hn₂⟩ := List.nodup_cons.1 hn₂
  have hc₁ : ∀ d ∈ l₁, d ≠ c := fun d hd₁ => hd d hd₁ c List.mem_cons_self
  have hdis : ∀ d ∈ l₂, d ∉ l₁ := fun d h₂ h₁ => hd d h₁ d (List.mem_cons_of_mem _ h₂) rfl
  have hne₂ : ∀ d ∈ l₂, d ≠ c := fun d h h' => hc₂ (h' ▸ h)
  have hw : s.forEach allContexts f = (f (s.forEach l₁ f) c).forEach l₂ f := by
    rw [allContexts, hl]
    unfold State.forEach
    rw [List.foldl_append, List.foldl_cons]
  have hQ₁ : Q (s.forEach l₁ f) := s.forEach_inv Q l₁ f (fun t d _ ht => hQ t d ht) hs
  have hfree : ∀ d, d ∉ l₁ → (s.forEach l₁ f).engine.contexts.get d = s.engine.contexts.get d := fun d hd₁ =>
    State.forEach_keeps_of hf (fun t => t.engine.contexts.get d) hn₁ s fun u e he _ =>
      hf u e d fun h => hd₁ (h ▸ he)
  have hcn : c ∉ l₁ := fun h => hc₁ c h rfl
  refine ⟨s.forEach l₁ f, hQ₁, hfree c hcn, State.forEach_keeps_of hf g hn₁ s fun u d hd₁ hu =>
    hg u d (hc₁ d hd₁) hu, ?_, ?_⟩
  · rw [hw]
    exact State.forEach_keeps_of hf (fun t => t.engine.contexts.get c) hn₂ _ fun u e he _ =>
      hf u e c (hne₂ e he).symm
  · rw [hw]
    refine State.forEach_keeps_of hf g hn₂ _ fun u d hd₂ hu => hg u d (hne₂ d hd₂) ?_
    rw [hu, hf _ c d (hne₂ d hd₂), hfree d (hdis d hd₂)]

/-- A mark that each step sets where its context calls for it stands where some context did. -/
theorem State.forEach_mark {f : State → Fin 8 → State} (hf : StepsAlone f) {mark : State → Bool}
    {P : Option Pass → Prop} (hm : ∀ t c, mark (f t c) = true ↔ mark t = true ∨ P (t.engine.contexts.get c))
    {l : List (Fin 8)} (hl : l.Nodup) (s : State) :
    mark (s.forEach l f) = true ↔ mark s = true ∨ ∃ c ∈ l, P (s.engine.contexts.get c) := by
  unfold State.forEach
  induction l generalizing s with
  | nil => simp
  | cons d l ih =>
    obtain ⟨hd, hl⟩ := List.nodup_cons.1 hl
    have hrest : (∃ c ∈ l, P ((f s d).engine.contexts.get c)) ↔ ∃ c ∈ l, P (s.engine.contexts.get c) :=
      exists_congr fun c => and_congr_right fun hc => by rw [hf s d c fun h => hd (h ▸ hc)]
    rw [List.foldl_cons, ih hl, hm, hrest, or_assoc]
    simp

/-! ## The walks that suspend (06 R121, R122) -/

/-- What such a walk does at a pass. -/
inductive Follow where
  | leaves
  | suspends
  | sets (q : Pass) (asks : Bool)

/-- One step of such a walk. -/
def State.followStep (k : Pass → Follow) (t : State) (c : Fin 8) : State :=
  match t.engine.contexts.get c with
  | none => t
  | some p =>
    match k p with
    | .leaves => t
    | .suspends => t.suspendPass c p
    | .sets q asks => { t with
        engine := { t.engine with
          contexts := t.engine.contexts.put c (some q)
          asked := if asks then t.engine.asked.put p.main true else t.engine.asked } }

variable {k : Pass → Follow}

theorem State.followStep_of_free (h : t.engine.contexts.get c = none) : t.followStep k c = t := by
  rw [State.followStep, h]

theorem State.followStep_of_leaves (h : t.engine.contexts.get c = some p) (hk : k p = .leaves) :
    t.followStep k c = t := by
  simp only [State.followStep, h, hk]

theorem State.followStep_of_suspends (h : t.engine.contexts.get c = some p) (hk : k p = .suspends) :
    t.followStep k c = t.suspendPass c p := by
  simp only [State.followStep, h, hk]

theorem State.followStep_of_sets {asks : Bool} (h : t.engine.contexts.get c = some p) (hk : k p = .sets q asks) :
    t.followStep k c = { t with
        engine := { t.engine with
          contexts := t.engine.contexts.put c (some q)
          asked := if asks then t.engine.asked.put p.main true else t.engine.asked } } := by
  simp only [State.followStep, h, hk]

/-- The cases of a step. -/
theorem State.followStep_cases (k : Pass → Follow) (t : State) (c : Fin 8) :
    (t.followStep k c = t ∧ ∀ p, t.engine.contexts.get c = some p → k p = .leaves)
    ∨ (∃ p, t.engine.contexts.get c = some p ∧ k p = .suspends ∧ t.followStep k c = t.suspendPass c p)
    ∨ ∃ p q asks, t.engine.contexts.get c = some p ∧ k p = .sets q asks
      ∧ t.followStep k c = { t with
        engine := { t.engine with
          contexts := t.engine.contexts.put c (some q)
          asked := if asks then t.engine.asked.put p.main true else t.engine.asked } } := by
  cases h : t.engine.contexts.get c with
  | none => exact .inl ⟨State.followStep_of_free h, by simp⟩
  | some p =>
    cases hk : k p with
    | leaves => exact .inl ⟨State.followStep_of_leaves h hk, by rintro _ ⟨⟩; exact hk⟩
    | suspends => exact .inr (.inl ⟨p, rfl, hk, State.followStep_of_suspends h hk⟩)
    | sets q asks => exact .inr (.inr ⟨p, q, asks, rfl, hk, State.followStep_of_sets h hk⟩)

theorem State.followStep_frame (k : Pass → Follow) (t : State) (c : Fin 8) :
    (t.followStep k c).frame = t.frame := by
  rcases State.followStep_cases k t c with ⟨h, -⟩ | ⟨p, -, -, h⟩ | ⟨p, q, asks, -, -, h⟩ <;> rw [h]
  · exact State.suspendPass_frame t c p
  · rfl

theorem State.followStep_watch_queue (k : Pass → Follow) (t : State) (c : Fin 8) :
    (t.followStep k c).watch = t.watch ∧ (t.followStep k c).queue = t.queue := by
  rcases State.followStep_cases k t c with ⟨h, -⟩ | ⟨p, -, -, h⟩ | ⟨p, q, asks, -, -, h⟩ <;> rw [h]
  · exact ⟨rfl, rfl⟩
  · exact t.suspendPass_watch_queue c p
  · exact ⟨rfl, rfl⟩

theorem State.followStep_stepsAlone (k : Pass → Follow) : StepsAlone (State.followStep k) := by
  intro t c d hd
  rcases State.followStep_cases k t c with ⟨h, -⟩ | ⟨p, -, -, h⟩ | ⟨p, q, asks, -, -, h⟩ <;> rw [h]
  · rw [State.suspendPass_contexts, Table.get_put, if_neg hd.symm]
  · simp [hd.symm]

/-- A step leaves every main but that of the pass it suspends. -/
theorem State.followStep_main {m : Fin 4}
    (h : ∀ p, t.engine.contexts.get c = some p → p.main = m → k p ≠ .suspends) :
    (t.followStep k c).engine.mains.get m = t.engine.mains.get m := by
  rcases State.followStep_cases k t c with ⟨he, -⟩ | ⟨p, hp, hk, he⟩ | ⟨p, q, asks, -, -, he⟩ <;> rw [he]
  rw [State.suspendPass_engine]
  exact (Table.get_put _ _ _ _).trans (if_neg fun hm => h p hp hm hk)

/-- A step asks for an attempt on the main of a pass that it suspends or that its writing makes resumable. -/
theorem State.followStep_asked (k : Pass → Follow) (t : State) (c : Fin 8) (m : Fin 4) :
    (t.followStep k c).engine.asked.get m = true ↔ t.engine.asked.get m = true
      ∨ ∃ p, t.engine.contexts.get c = some p ∧ p.main = m ∧ (k p = .suspends ∨ ∃ q, k p = .sets q true) := by
  have hput : ∀ p : Pass, (t.engine.asked.put p.main true).get m = true ↔ t.engine.asked.get m = true ∨ p.main = m := by
    intro p
    rw [Table.get_put]
    by_cases h : p.main = m <;> simp [h]
  rcases State.followStep_cases k t c with ⟨h, hp⟩ | ⟨p, hp, hk, h⟩ | ⟨p, q, asks, hp, hk, h⟩ <;> rw [h]
  · refine ⟨.inl, ?_⟩
    rintro (h | ⟨p, hp', -, hk⟩)
    · exact h
    · rw [hp p hp'] at hk
      rcases hk with hk | ⟨q, hk⟩ <;> cases hk
  · rw [State.suspendPass_engine]
    refine (hput p).trans (or_congr_right ?_)
    simp [hp, hk]
  · cases asks with
    | false => simp [hp, hk]
    | true =>
      refine (hput p).trans (or_congr_right ?_)
      simp [hp, hk]

/-- The walk over every context. -/
def State.followWalk (s : State) (k : Pass → Follow) : State := s.forEach allContexts (State.followStep k)

theorem State.followWalk_frame (s : State) (k : Pass → Follow) : (s.followWalk k).frame = s.frame :=
  s.forEach_keeps State.frame _ _ fun t c => State.followStep_frame k t c

theorem State.followWalk_watch (s : State) (k : Pass → Follow) : (s.followWalk k).watch = s.watch :=
  s.forEach_keeps State.watch _ _ fun t c => (State.followStep_watch_queue k t c).1

theorem State.followWalk_queue (s : State) (k : Pass → Follow) : (s.followWalk k).queue = s.queue :=
  s.forEach_keeps State.queue _ _ fun t c => (State.followStep_watch_queue k t c).2

/-- What the walk leaves at a context is what its step there leaves, of a state that differs from the first in what
the steps before it did. -/
theorem State.followWalk_at (s : State) (k : Pass → Follow) (c : Fin 8) :
    ∃ t : State, t.frame = s.frame ∧ t.watch = s.watch ∧ t.engine.contexts.get c = s.engine.contexts.get c
      ∧ (s.followWalk k).engine.contexts.get c = (t.followStep k c).engine.contexts.get c := by
  have hf := State.followStep_stepsAlone k
  rw [State.followWalk]
  obtain ⟨t, ⟨hfr, hw⟩, ht, -, hu, -⟩ := State.forEach_at hf (Q := fun t => t.frame = s.frame ∧ t.watch = s.watch)
    (fun t c ht => ⟨(State.followStep_frame k t c).trans ht.1, (State.followStep_watch_queue k t c).1.trans ht.2⟩)
    (fun t => t.engine.contexts.get c) c (s := s) ⟨rfl, rfl⟩ fun t d hd _ => hf t d c hd.symm
  exact ⟨t, hfr, hw, ht, hu⟩

theorem State.followWalk_of_free (h : s.engine.contexts.get c = none) :
    (s.followWalk k).engine.contexts.get c = none := by
  obtain ⟨t, -, -, ht, hu⟩ := s.followWalk_at k c
  rw [hu, State.followStep_of_free (ht.trans h), ht, h]

theorem State.followWalk_of_leaves (h : s.engine.contexts.get c = some p) (hk : k p = .leaves) :
    (s.followWalk k).engine.contexts.get c = some p := by
  obtain ⟨t, -, -, ht, hu⟩ := s.followWalk_at k c
  rw [hu, State.followStep_of_leaves (ht.trans h) hk, ht, h]

theorem State.followWalk_of_sets {asks : Bool} (h : s.engine.contexts.get c = some p) (hk : k p = .sets q asks) :
    (s.followWalk k).engine.contexts.get c = some q := by
  obtain ⟨t, -, -, ht, hu⟩ := s.followWalk_at k c
  rw [hu, State.followStep_of_sets (ht.trans h) hk]
  exact (Table.get_put _ _ _ _).trans (if_pos rfl)

theorem State.followWalk_of_suspends (h : s.engine.contexts.get c = some p) (hk : k p = .suspends) :
    ∃ q, (s.followWalk k).engine.contexts.get c = some q ∧ q = { s.suspended p with suspension := q.suspension } := by
  obtain ⟨t, hfr, hw, ht, hu⟩ := s.followWalk_at k c
  refine ⟨t.suspended p, ?_, ?_⟩
  · rw [hu, State.followStep_of_suspends (ht.trans h) hk, State.suspendPass_contexts, Table.get_put, if_pos rfl]
  · have hb : t.engine.blocked = s.engine.blocked := congrArg Frame.blocked hfr
    have hg : t.geometry = s.geometry := congrArg Frame.geometry hfr
    have hl : t.field.lines = s.field.lines := congrArg Frame.lines hfr
    have hc : t.clock = s.clock := congrArg Frame.clock hfr
    rw [State.suspended_eq, State.suspended_eq, hb, hg, hl, hc, hw]

/-- The main of the one pass on it that the walk suspends is left OPEN on the pass's source. -/
theorem State.followWalk_main_of_suspends (h : s.engine.contexts.get c = some p) (hk : k p = .suspends)
    (halone : ∀ d r, s.engine.contexts.get d = some r → r.main = p.main → k r = .suspends → d = c) :
    (s.followWalk k).engine.mains.get p.main = { s.engine.mains.get p.main with
      state := .opened, openSource := some p.source, context := none } := by
  obtain ⟨t, -, ht, hm, -, hu⟩ := State.forEach_at (State.followStep_stepsAlone k) (Q := fun _ => True)
    (fun _ _ _ => trivial) (fun t => t.engine.mains.get p.main) c (s := s) trivial fun t d hd hctx =>
      State.followStep_main fun r hr hrm hrk => hd (halone d r (hctx ▸ hr) hrm hrk)
  rw [State.followWalk, hu, State.followStep_of_suspends (ht.trans h) hk, State.suspendPass_engine, State.suspendedEngine, Table.get_put,
    if_pos rfl, hm]

theorem State.followWalk_main {m : Fin 4}
    (hm : ∀ c p, s.engine.contexts.get c = some p → p.main = m → k p ≠ .suspends) :
    (s.followWalk k).engine.mains.get m = s.engine.mains.get m := by
  have hw := State.forEach_keeps_of (State.followStep_stepsAlone k) (fun t => t.engine.mains.get m)
    allContexts_nodup s fun u c _ hc => State.followStep_main fun p hp hpm hk => hm c p (hc ▸ hp) hpm hk
  rw [State.followWalk]
  exact hw

theorem State.followWalk_asked (s : State) (k : Pass → Follow) (m : Fin 4) :
    (s.followWalk k).engine.asked.get m = true ↔ s.engine.asked.get m = true
      ∨ ∃ c p, s.engine.contexts.get c = some p ∧ p.main = m ∧ (k p = .suspends ∨ ∃ q, k p = .sets q true) := by
  have hw := State.forEach_mark (State.followStep_stepsAlone k) (mark := fun t => t.engine.asked.get m)
    (P := fun o => ∃ p, o = some p ∧ p.main = m ∧ (k p = .suspends ∨ ∃ q, k p = .sets q true))
    (fun t c => State.followStep_asked k t c m) allContexts_nodup s
  simp only [mem_allContexts, true_and] at hw
  rw [State.followWalk]
  exact hw

end

end Sys2Proof.Machine

/-! PROOFS. COMMIT of a cannon (O15). -/

namespace Sys2Proof.Machine

section

variable {s t : State} {c : Fin 8} {p q : Pass}

/-! ## A judging of drift flags as a walk (06 R121, R122) -/

/-- What a judging calls for at a pass. -/
def flagFollow (blocked : Table 24 Bool) (concerned : Pass → Bool) (p : Pass) : Follow :=
  if concerned p then
    if p.state = .suspended then
      .sets { p with wind := blocked.get p.cannon }
        (decide (p.wind = true ∧ p.machine = false ∧ blocked.get p.cannon = false))
    else if blocked.get p.cannon then .suspends else .leaves
  else .leaves

variable {blocked : Table 24 Bool} {concerned : Pass → Bool}

theorem flagFollow_of_other (h : concerned p = false) : flagFollow blocked concerned p = .leaves := by
  simp [flagFollow, h]

theorem flagFollow_of_suspended (h : concerned p = true) (hs : p.state = .suspended) :
    flagFollow blocked concerned p = .sets { p with wind := blocked.get p.cannon }
      (decide (p.wind = true ∧ p.machine = false ∧ blocked.get p.cannon = false)) := by
  simp [flagFollow, h, hs]

theorem flagFollow_of_blocked (h : concerned p = true) (hs : p.state ≠ .suspended)
    (hb : blocked.get p.cannon = true) : flagFollow blocked concerned p = .suspends := by
  simp [flagFollow, h, hs, hb]

theorem flagFollow_of_free (h : concerned p = true) (hs : p.state ≠ .suspended)
    (hb : blocked.get p.cannon = false) : flagFollow blocked concerned p = .leaves := by
  simp [flagFollow, h, hs, hb]

theorem flagFollow_suspends_iff : flagFollow blocked concerned p = .suspends ↔
    concerned p = true ∧ p.state ≠ .suspended ∧ blocked.get p.cannon = true := by
  unfold flagFollow
  split
  · split
    · simp [*]
    · split <;> simp [*]
  · simp [*]

theorem flagFollow_sets_iff : (∃ q, flagFollow blocked concerned p = .sets q true) ↔
    concerned p = true ∧ p.state = .suspended ∧ p.wind = true ∧ p.machine = false
      ∧ blocked.get p.cannon = false := by
  unfold flagFollow
  split
  · split
    · simp [*]
    · split <;> simp [*]
  · simp [*]

/-- A judging's consequences are the walk that does at each pass what its flag calls for. -/
theorem State.followFlags_eq_walk (s : State) (concerned : Pass → Bool) :
    s.followFlags concerned = s.followWalk (flagFollow s.engine.blocked concerned) := by
  refine State.forEach_congr (I := fun t => t.engine.blocked = s.engine.blocked) (fun t c ht => ?_)
    (fun t c ht => (congrArg Frame.blocked (State.followStep_frame _ t c)).trans ht) allContexts rfl
  cases h : t.engine.contexts.get c with
  | none => rw [State.followStep_of_free h]
  | some p =>
    dsimp only
    cases hc : concerned p with
    | false => rw [State.followStep_of_leaves h (flagFollow_of_other hc)]; rfl
    | true =>
      rw [if_pos rfl]
      by_cases hs : p.state = .suspended
      · have hf : t.followFlag c p = t.setWind c p (t.engine.blocked.get p.cannon) := by
          simp only [State.followFlag, hs]
        rw [State.followStep_of_sets h (flagFollow_of_suspended hc hs), hf, State.setWind_eq t hs, ht]
        simp [ht]
      · have hf : t.followFlag c p = if t.engine.blocked.get p.cannon then t.suspendPass c p else t := by
          cases hp : p.state with
          | suspended => exact absurd hp hs
          | priming => simp only [State.followFlag, hp]
          | running => simp only [State.followFlag, hp]
        rw [hf, ht]
        cases hb : s.engine.blocked.get p.cannon with
        | true => rw [State.followStep_of_suspends h (flagFollow_of_blocked hc hs hb), if_pos rfl]
        | false => rw [State.followStep_of_leaves h (flagFollow_of_free hc hs hb)]; rfl

/-- The flags replaced, written out. -/
theorem State.setFlags_eq (s : State) (flags : Table 24 Bool) : s.setFlags flags = { s with
    engine := { s.engine with
      blocked := flags
      asked := if ∃ k, s.engine.blocked.get k = true ∧ flags.get k = false then Table.fill 4 true
        else s.engine.asked } } := by
  have hany : (s.engine.blocked.any fun k b => b && !flags.get k) = true
      ↔ ∃ k, s.engine.blocked.get k = true ∧ flags.get k = false := by
    simp [Table.any_eq_true]
  unfold State.setFlags
  by_cases h : ∃ k, s.engine.blocked.get k = true ∧ flags.get k = false
  · rw [hany.2 h, if_pos h]
    rfl
  · rw [Bool.eq_false_iff.2 (mt hany.1 h), if_neg h]
    rfl

end

section

variable {s : State} {i : Fin 24} {x : Cannon}

/-! ## The tests of a CANNON COMMIT (01 R11) -/

theorem State.cannonLive_iff {k : Fin 24} :
    s.cannonLive k = true ↔ ∃ c p, s.engine.contexts.get c = some p ∧ p.cannon = k := by
  simp only [State.cannonLive, Table.any_eq_true]
  refine exists_congr fun c => ?_
  cases s.engine.contexts.get c <;> simp

theorem Cannon.samePlan_iff {a b : Cannon} : a.samePlan b = true ↔
    a.main = b.main ∧ a.bed = b.bed ∧ a.reachStart = b.reachStart ∧ a.reachLength = b.reachLength
      ∧ a.flow = b.flow ∧ a.dwell = b.dwell ∧ a.skip = b.skip ∧ a.repeats = b.repeats
      ∧ a.reverse = b.reverse ∧ a.alternate = b.alternate := by
  simp [Cannon.samePlan, and_assoc]

theorem Geometry.allCovered_iff {g : Geometry} : g.allCovered = true ↔
    ∀ j p, g.piles.get j = some p → ∃ n c, g.cannons.get n = some c ∧ c.coversPile p = true := by
  simp only [Geometry.allCovered, Table.all_eq_true]
  refine forall_congr' fun j => ?_
  cases g.piles.get j <;> simp [Geometry.covered_iff]

/-- A live pass has the cannon, and the COMMIT changes what its plan was made of. -/
def State.CannonChanged (s : State) (i : Fin 24) (x : Cannon) : Prop :=
  s.cannonLive i = true ∧ ∃ old, s.geometry.cannons.get i = some old ∧ ¬ old.samePlan x = true

theorem State.cannonTest_of_extent (h : ¬ x.reachStart + x.reachLength ≤ (s.geometry.beds.get x.bed).length) :
    s.cannonTest i x = some .range := if_pos (Nat.lt_of_not_le h)

theorem State.cannonTest_of_changed (he : x.reachStart + x.reachLength ≤ (s.geometry.beds.get x.bed).length)
    (h : s.CannonChanged i x) : s.cannonTest i x = some .engaged := by
  obtain ⟨hl, old, ho, hs⟩ := h
  rw [State.cannonTest, if_neg (Nat.not_lt.2 he), ho]
  simp [hl, hs]

theorem State.cannonTest_of_same (he : x.reachStart + x.reachLength ≤ (s.geometry.beds.get x.bed).length)
    (h : ¬ s.CannonChanged i x) : s.cannonTest i x
      = if (s.geometry.putCannon i (some x)).allCovered then none else some .covers := by
  have hn : ¬ (s.cannonLive i && !(match s.geometry.cannons.get i with
      | some old => old.samePlan x
      | none => true)) = true := by
    intro ht
    rw [Bool.and_eq_true, Bool.not_eq_true'] at ht
    obtain ⟨hl, hs⟩ := ht
    cases ho : s.geometry.cannons.get i with
    | none => simp [ho] at hs
    | some old => exact h ⟨hl, old, ho, by simpa [ho] using hs⟩
  rw [State.cannonTest, if_neg (Nat.not_lt.2 he)]
  refine (if_neg hn).trans ?_
  cases (s.geometry.putCannon i (some x)).allCovered <;> rfl

/-! ## The cannon installed (01 R12) -/

/-- The cannon's flag as its COMMIT judges it. -/
def State.flagAtCommit (s : State) (i : Fin 24) (x : Cannon) : Bool :=
  driftFlag ((s.geometry.cannons.get i).isNone || s.engine.blocked.get i) x.driftLimit s.engine.gustLine
    s.engine.gust

/-- The state with the cannon and its flag, before the live passes follow. -/
def State.flagged (s : State) (i : Fin 24) (x : Cannon) : State :=
  { s with
    geometry := s.geometry.putCannon i (some x)
    engine := { s.engine with
      blocked := s.engine.blocked.put i (s.flagAtCommit i x)
      asked := if s.engine.blocked.get i = true ∧ s.flagAtCommit i x = false then Table.fill 4 true
        else s.engine.asked } }

/-- An order that names the cannon falsely loses the name (05 R98). -/
def State.cannonNameKept (s : State) (i : Fin 24) (o : Order) : Order :=
  if decide (o.named = some i) && s.nameFalse o then { o with named := none } else o

theorem State.flagged_eq (s : State) (i : Fin 24) (x : Cannon) :
    ({ s with geometry := s.geometry.putCannon i (some x) } : State).setFlags
      (s.engine.blocked.put i (s.flagAtCommit i x)) = s.flagged i x := by
  have hk : (∃ k, s.engine.blocked.get k = true ∧ (s.engine.blocked.put i (s.flagAtCommit i x)).get k = false)
      ↔ s.engine.blocked.get i = true ∧ s.flagAtCommit i x = false := by
    constructor
    · rintro ⟨k, hk, hf⟩
      rw [Table.get_put] at hf
      split at hf
      · next h => subst h; exact ⟨hk, hf⟩
      · rw [hk] at hf; cases hf
    · exact fun ⟨h, hf⟩ => ⟨i, h, by rw [Table.get_put, if_pos rfl, hf]⟩
  rw [State.setFlags_eq, State.flagged]
  simp only [hk]

theorem State.installCannon_eq {w : State}
    (hw : w = (s.flagged i x).followFlags fun p => decide (p.cannon = i)) :
    s.installCannon i x = { w with
      queue := w.queue.map (w.cannonNameKept i)
      engine := { w.engine with asked := Table.fill 4 true } } := by
  have h : s.installCannon i x = (((({ s with geometry := s.geometry.putCannon i (some x) } : State).setFlags
      (s.engine.blocked.put i (s.flagAtCommit i x))).followFlags fun p => decide (p.cannon = i)).clearNames
        (fun o => decide (o.named = some i) && State.nameFalse
          ((({ s with geometry := s.geometry.putCannon i (some x) } : State).setFlags
            (s.engine.blocked.put i (s.flagAtCommit i x))).followFlags fun p => decide (p.cannon = i)) o)).askAll :=
    rfl
  rw [h, State.flagged_eq, ← hw]
  rfl

/-- The names that stand false once the cannon is `x` (05 R98). -/
theorem State.cannonNameKept_eq {f : Order → Order} {w : State} (hc : w.geometry.cannons.get i = some x)
    (hp : w.geometry.piles = s.geometry.piles)
    (h1 : ∀ o p, o.named = some i → s.geometry.piles.get o.pile = some p → x.coversPile p = true → f o = o)
    (h2 : ∀ o, o.named = some i → (∀ p, s.geometry.piles.get o.pile = some p → x.coversPile p = false) →
      f o = { o with named := none })
    (h3 : ∀ o, o.named ≠ some i → f o = o) : w.cannonNameKept i = f := by
  funext o
  unfold State.cannonNameKept State.nameFalse
  by_cases hi : o.named = some i
  · cases hk : s.geometry.piles.get o.pile with
    | none => simp [hi, hc, hp, hk, h2 o hi (by simp [hk])]
    | some p =>
      cases hv : x.coversPile p with
      | true => simp [hi, hc, hp, hk, hv, h1 o p hi hk hv]
      | false => simp [hi, hc, hp, hk, hv, h2 o hi (by simp [hk, hv])]
  · simp [hi, h3 o hi]

theorem State.flagged_frame (s : State) (i : Fin 24) (x : Cannon) : (s.flagged i x).frame = { s.frame with
    geometry := { s.geometry with cannons := s.geometry.cannons.put i (some x) }
    blocked := s.engine.blocked.put i (s.flagAtCommit i x) } := rfl

theorem State.commitCannon_of_refused {r : Result} {v : List Nat}
    (hx : x = cannonFrom v (nextRevision ((s.geometry.cannons.get i).map (·.revision))))
    (h : s.cannonTest i x = some r) : s.commitCannon i v = .inl r := by
  subst hx
  rw [State.commitCannon, h]

theorem State.commitCannon_of_accepted {v : List Nat}
    (hx : x = cannonFrom v (nextRevision ((s.geometry.cannons.get i).map (·.revision))))
    (h : s.cannonTest i x = none) : s.commitCannon i v = .inr (s.installCannon i x) := by
  subst hx
  rw [State.commitCannon, h]

end

section

variable {s : State} {i : Fin 24} {x : Cannon} {w : State}

/-- What the live passes on the cannon come to, context by context (06 R121, R122). -/
theorem State.installCannon_passes {b : Bool} (hb : s.flagAtCommit i x = b)
    (hw : w = (s.flagged i x).followFlags fun p => decide (p.cannon = i)) :
    (∀ c, s.engine.contexts.get c = none → w.engine.contexts.get c = none)
    ∧ ∀ c p, s.engine.contexts.get c = some p →
      (p.cannon ≠ i → w.engine.contexts.get c = some p)
      ∧ (p.cannon = i → p.state = .suspended → w.engine.contexts.get c = some { p with wind := b })
      ∧ (p.cannon = i → p.state ≠ .suspended → b = false → w.engine.contexts.get c = some p)
      ∧ (p.cannon = i → p.state ≠ .suspended → b = true →
        ∃ q, w.engine.contexts.get c = some q
          ∧ q = { p with
              state := .suspended, wind := true
              machine := match s.geometry.piles.get p.pile with
                | some y => (s.field.lines.machine.get y.bed).filtered
                | none => false
              since := some ⟨s.clock.day, s.clock.second⟩, suspension := q.suspension
              deducted := p.delivered, primeTimer := none, dwellTimer := none
              limitTimer := some (60 * s.watch.model.suspensionLimit) }
          ∧ ((∀ d r, s.engine.contexts.get d = some r → r.main = p.main → r.state ≠ .suspended → d = c) →
            w.engine.mains.get p.main = { s.engine.mains.get p.main with
              state := .opened, openSource := some p.source, context := none })) := by
  have hbl : (s.flagged i x).engine.blocked.get i = b := by
    rw [← hb]
    exact (Table.get_put _ _ _ _).trans (if_pos rfl)
  have hctx : ∀ c o, s.engine.contexts.get c = o → (s.flagged i x).engine.contexts.get c = o := fun _ _ h => h
  rw [State.followFlags_eq_walk] at hw
  rw [hw]
  refine ⟨fun c hc => State.followWalk_of_free (hctx c _ hc), fun c p hp => ⟨fun hi => ?_, fun hi hs => ?_,
    fun hi hs hf => ?_, fun hi hs hf => ?_⟩⟩
  · exact State.followWalk_of_leaves (hctx c _ hp) (flagFollow_of_other (by simp [hi]))
  · have hk := flagFollow_of_suspended (blocked := (s.flagged i x).engine.blocked)
      (concerned := fun p => decide (p.cannon = i)) (by simp [hi]) hs
    rw [State.followWalk_of_sets (hctx c _ hp) hk, hi, hbl]
  · exact State.followWalk_of_leaves (hctx c _ hp) (flagFollow_of_free (by simp [hi]) hs (by rw [hi, hbl, hf]))
  · have hk := flagFollow_of_blocked (blocked := (s.flagged i x).engine.blocked)
      (concerned := fun p => decide (p.cannon = i)) (by simp [hi]) hs (by rw [hi, hbl, hf])
    obtain ⟨q, hq, hqe⟩ := State.followWalk_of_suspends (hctx c _ hp) hk
    refine ⟨q, hq, ?_, fun halone => ?_⟩
    · rw [State.suspended_eq, hi, hbl, hf] at hqe
      rw [hi]
      exact hqe
    · exact State.followWalk_main_of_suspends (hctx c _ hp) hk fun d r hr hm hkr =>
        halone d r hr hm (flagFollow_suspends_iff.1 hkr).2.1

end

/-- Settles O15: the tests of a CANNON COMMIT in their order, and what an accepted one leaves. -/
theorem commitCannon : Obligations.CommitCannon := by
  intro s buffer k b i x h hb hk hc hx hl hr hxd extent changed covers hext hch hcov
  have hr' : b.base = s.liveRevision b.cls b.index := by
    rw [hr, hc, hx]
    simp [State.liveRevision]
  have hi : s.installRecord b = s.commitCannon i b.values := by
    simp only [State.installRecord, hc, hx, Fin.ofNat_val_eq_self]
  have hxe : x = cannonFrom b.values (nextRevision ((s.geometry.cannons.get i).map (·.revision))) := by
    rw [hxd, nextRevision_map]
    cases s.geometry.cannons.get i <;> rfl
  have hch' : s.CannonChanged i x ↔ changed := by
    rw [hch, State.CannonChanged, State.cannonLive_iff]
    simp only [Cannon.samePlan_iff]
  have hcov' : (s.geometry.putCannon i (some x)).allCovered = true ↔ covers := by
    rw [hcov, Geometry.allCovered_iff]
    rfl
  have refused : ∀ r, s.cannonTest i x = some r → exec (.commit buffer) s
      = .next (s.commandEnd Code.commit (some (r, BitVec.ofNat 8 i.val))) := fun r ht => by
    rw [← hx]
    exact exec_commit_of_refused h hb hk hl hr' (hi.trans (State.commitCannon_of_refused hxe ht))
  refine ⟨fun he => refused _ (State.cannonTest_of_extent (mt hext.2 he)),
    fun he hc => refused _ (State.cannonTest_of_changed (hext.1 he) (hch'.2 hc)),
    fun he hc hv => refused _ ?_, fun he hc hv => ?_⟩
  · rw [State.cannonTest_of_same (hext.1 he) (mt hch'.1 hc), if_neg (mt hcov'.1 hv)]
  · have ht : s.cannonTest i x = none := by
      rw [State.cannonTest_of_same (hext.1 he) (mt hch'.1 hc), if_pos (hcov'.2 hv)]
    refine ⟨_, exec_commit_of_installed h hb hk hl hr' (hi.trans (State.commitCannon_of_accepted hxe ht)), ?_⟩
    generalize hw : (s.flagged i x).followFlags (fun p => decide (p.cannon = i)) = w
    rw [State.installCannon_eq hw.symm]
    generalize hI : ({ w with
      queue := w.queue.map (w.cannonNameKept i)
      engine := { w.engine with asked := Table.fill 4 true } } : State) = I
    generalize ht : (I.setBuffer k none).commandEnd Code.commit (some (.done, BitVec.ofNat 8 b.index)) = t
    obtain ⟨hport, hframe⟩ := State.commitEnd_frame _ k _ ht.symm
    have hwf : w.frame = (s.flagged i x).frame := hw ▸ State.followFlags_frame _ _
    rw [State.flagged_frame] at hwf
    have hIf : I.frame = w.frame := by rw [← hI]; rfl
    rw [hIf.trans hwf] at hframe
    have hpo : I.port = s.port := congrArg Frame.port (hIf.trans hwf)
    have hst : I.staging = s.staging := congrArg Frame.staging (hIf.trans hwf)
    rw [hst] at hframe
    have hbl : t.engine.blocked = s.engine.blocked.put i (s.flagAtCommit i x) := congrArg Frame.blocked hframe
    have hbi : t.engine.blocked.get i = s.flagAtCommit i x := by rw [hbl]; exact (Table.get_put _ _ _ _).trans (if_pos rfl)
    have hwatch : w.watch = s.watch := by
      rw [← hw, State.followFlags_eq_walk, State.followWalk_watch]
      rfl
    have hqueue : w.queue = s.queue := by
      rw [← hw, State.followFlags_eq_walk, State.followWalk_queue]
      rfl
    have hgeo : w.geometry = { s.geometry with cannons := s.geometry.cannons.put i (some x) } :=
      congrArg Frame.geometry hwf
    obtain ⟨hfree, hlive⟩ := State.installCannon_passes rfl hw.symm
    refine ⟨by rw [hport, hpo, hx], hframe, I.setBuffer k none, by rw [← ht, hx], ?_, ?_,
      fun next v w' hnone hother hlive hheld hv hw' => ?_, fun f h1 h2 h3 => ?_, ?_, ?_⟩
    · rw [← hI]
      exact hwatch
    · rw [← hI]
      rfl
    · have hvf : v = s.flagged i x := by
        rw [hv, hbi, hbl]
        rfl
      have hww : w' = w := by
        rw [hw', ← hw, hvf]
        refine (State.followFlags_eq _ hnone (fun t c q hq hp => hother t c q hq (by simpa using hp))
          (fun t c q hq hp hs => ?_) (fun t c q hq hp hs => ?_)).symm
        · have hqi : q.cannon = i := by simpa using hp
          rw [hlive t c q hq hqi hs, hqi]
        · have hqi : q.cannon = i := by simpa using hp
          rw [State.setWind_eq t hs, hheld t c q hq hqi hs, hqi]
      rw [hww, ← hI]
      have hws : w.staging = s.staging := congrArg Frame.staging hwf
      rw [← hws]
      rfl
    · have hf : w.cannonNameKept i = f := State.cannonNameKept_eq (s := s) (x := x)
        (by rw [hgeo]; exact (Table.get_put _ _ _ _).trans (if_pos rfl)) (by rw [hgeo]) h1 h2 h3
      rw [← hI, ← hqueue, ← hf]
      rfl
    · rw [← hI]
      exact hfree
    · rw [← hI, hbi]
      exact hlive

end Sys2Proof.Machine

/-! PROOFS. A drift re-evaluation (O27). -/

namespace Sys2Proof.Machine

section

variable {s t v : State} {c : Fin 8} {p q : Pass}

/-! ## Notices that a suspension leaves alone -/

theorem NoticeKind.place_ne {k : NoticeKind} (h : k ≠ .waterLow) : NoticeKind.waterLow.place ≠ k.place := by
  revert h
  cases k <;> decide

/-- A source is the fresh supply or a basin. -/
theorem source_cases (x : Fin 6) : x = 5 ∨ ∃ b : Fin 5, x.val = b.val := by
  by_cases h : x.val < 5
  · exact .inr ⟨⟨x.val, h⟩, rfl⟩
  · exact .inl (Fin.ext (show x.val = 5 by omega))

/-- A kind of notice stands as it stood. -/
def Notices.SameKind (y z : Notices) (k : NoticeKind) : Prop :=
  y.pending.get k.place = z.pending.get k.place ∧ y.subjects.get k.place = z.subjects.get k.place

theorem Notices.marked_sameKind {y : Notices} {j k : NoticeKind} (h : j.place ≠ k.place) (n : Nat) :
    (y.marked j n).SameKind y k := by
  simp only [Notices.SameKind, Notices.marked, Table.get_put, if_neg h, and_self]

theorem State.suspendPass_sameKind {k : NoticeKind} (hk : k ≠ .waterLow) (s : State) (c : Fin 8) (p : Pass) :
    (s.suspendPass c p).notices.SameKind s.notices k := by
  rcases source_cases p.source with h | ⟨b, h⟩
  · rw [(State.suspendPass_fresh h).1]
    exact ⟨rfl, rfl⟩
  · rw [(State.suspendPass_basin h rfl rfl).2]
    split
    · exact Notices.marked_sameKind (NoticeKind.place_ne hk) _
    · exact ⟨rfl, rfl⟩

theorem State.followWalk_sameKind {k : NoticeKind} (hk : k ≠ .waterLow) (s : State) (f : Pass → Follow) :
    (s.followWalk f).notices.SameKind s.notices k := by
  have hstep : ∀ (t : State) (c : Fin 8), (t.followStep f c).notices.SameKind t.notices k := by
    intro t c
    rcases State.followStep_cases f t c with ⟨h, -⟩ | ⟨p, -, -, h⟩ | ⟨p, q, asks, -, -, h⟩ <;> rw [h]
    · exact ⟨rfl, rfl⟩
    · exact t.suspendPass_sameKind hk c p
    · exact ⟨rfl, rfl⟩
  have hp := s.forEach_keeps (fun u => u.notices.pending.get k.place) allContexts (State.followStep f)
    fun t c => (hstep t c).1
  have hs := s.forEach_keeps (fun u => u.notices.subjects.get k.place) allContexts (State.followStep f)
    fun t c => (hstep t c).2
  rw [State.followWalk]
  exact ⟨hp, hs⟩

/-! ## The judging (02 R39 to R41) -/

/-- The state with the figure handed and every flag judged, before the live passes follow. -/
def State.judged (s : State) : State := s.handGust.setFlags s.handGust.judgedFlags

theorem State.driftReevaluate_eq (s : State) :
    s.driftReevaluate = s.judged.followWalk (flagFollow s.handGust.judgedFlags fun _ => true) := by
  have hb : s.judged.engine.blocked = s.handGust.judgedFlags := by
    rw [State.judged, State.setFlags_eq]
  rw [← hb, ← State.followFlags_eq_walk]
  rfl

/-- The figure handed, written out. -/
theorem State.handGust_eq (s : State) : s.handGust = { s with
    notices := if s.gustFigure = none then s.notices.marked .windBlind 0 else s.notices
    engine := { s.engine with gust := s.gustFigure, gustLine := s.field.lines.gust.filtered } } := by
  unfold State.handGust
  dsimp only
  cases s.gustFigure <;> rfl

/-- The judged state, written out. -/
theorem State.judged_eq (s : State) {flags : Table 24 Bool} (hf : s.handGust.judgedFlags = flags) :
    s.judged = { s with
      notices := if s.gustFigure = none then s.notices.marked .windBlind 0 else s.notices
      engine := { s.engine with
        gust := s.gustFigure, gustLine := s.field.lines.gust.filtered, blocked := flags
        asked := if ∃ k, s.engine.blocked.get k = true ∧ flags.get k = false then Table.fill 4 true
          else s.engine.asked } } := by
  rw [State.judged, hf, State.setFlags_eq, State.handGust_eq]

/-- The flag of a cannon as a drift re-evaluation judges it. -/
theorem State.judgedFlags_handGust (s : State) (k : Fin 24) : s.handGust.judgedFlags.get k =
    match s.geometry.cannons.get k with
    | some c => driftFlag (s.engine.blocked.get k) c.driftLimit s.field.lines.gust.filtered s.gustFigure
    | none => false := by
  rw [State.handGust_eq]
  exact Table.get_tab _ k

theorem State.gustFigure_eq (s : State) : s.gustFigure = match s.horizon.observation with
    | some o => if o.fresh then some o.gust else (s.horizon.slotFor s.clock.hour).map (·.gust)
    | none => (s.horizon.slotFor s.clock.hour).map (·.gust) := by
  unfold State.gustFigure Horizon.freshObservation
  cases s.horizon.observation with
  | none => rfl
  | some o => cases h : o.fresh <;> simp [h]

theorem driftFlag_of_line {old : Bool} {limit : Nat} {figure : Option Nat} :
    driftFlag old limit true figure = true := rfl

theorem driftFlag_of_unknown {old : Bool} {limit : Nat} : driftFlag old limit false none = true := rfl

theorem driftFlag_of_figure {old : Bool} {limit g : Nat} :
    (limit < g → driftFlag old limit false (some g) = true)
      ∧ (g ≤ limit - 15 → driftFlag old limit false (some g) = false)
      ∧ (limit - 15 < g → g ≤ limit → driftFlag old limit false (some g) = old) := by
  unfold driftFlag
  refine ⟨fun h => ?_, fun h => ?_, fun h1 h2 => ?_⟩
  · simp [h]
  · simp [h, show ¬ limit < g by omega]
  · simp [show ¬ limit < g by omega, show ¬ g ≤ limit - 15 by omega]

end

section

variable {s t : State}

/-- The flags, the frame and the notice of a drift re-evaluation. -/
theorem State.driftReevaluate_flags {figure : Option Nat} {line : Bool} (ht : t = s.driftReevaluate)
    (hf : s.gustFigure = figure) (hl : s.field.lines.gust.filtered = line) :
    (figure = none → t.notices.pending.get NoticeKind.windBlind.place = true
        ∧ t.notices.subjects.get NoticeKind.windBlind.place = 0)
    ∧ t.engine.blocked = s.handGust.judgedFlags
    ∧ t.frame = { s.frame with blocked := t.engine.blocked, gust := figure, gustLine := line }
    ∧ t.watch = s.watch ∧ t.queue = s.queue := by
  have hfr := s.driftReevaluate_frame
  rw [← ht, hf, hl] at hfr
  have hb : t.engine.blocked = s.handGust.judgedFlags := congrArg Frame.blocked hfr
  have hj := s.judged_eq rfl
  refine ⟨fun hn => ?_, hb, hb ▸ hfr, ?_, ?_⟩
  · obtain ⟨hp, hs⟩ := s.judged.followWalk_sameKind (k := .windBlind) (by simp)
      (flagFollow s.handGust.judgedFlags fun _ => true)
    rw [ht, State.driftReevaluate_eq, hp, hs, hj, hf, if_pos hn]
    exact ⟨(Table.get_put _ _ _ _).trans (if_pos rfl), (Table.get_put _ _ _ _).trans (if_pos rfl)⟩
  · rw [ht, State.driftReevaluate_eq, State.followWalk_watch, hj]
  · rw [ht, State.driftReevaluate_eq, State.followWalk_queue, hj]

/-- What the live passes come to, context by context (06 R121, R122). -/
theorem State.driftReevaluate_passes (ht : t = s.driftReevaluate) (hb : t.engine.blocked = s.handGust.judgedFlags) :
    (∀ c, s.engine.contexts.get c = none → t.engine.contexts.get c = none)
    ∧ ∀ c p, s.engine.contexts.get c = some p →
      (p.state ≠ .suspended → t.engine.blocked.get p.cannon = true →
        (∃ q, t.engine.contexts.get c = some q
          ∧ q = { p with
              state := .suspended, wind := true
              machine := match s.geometry.piles.get p.pile with
                | some x => (s.field.lines.machine.get x.bed).filtered
                | none => false
              since := some ⟨s.clock.day, s.clock.second⟩, suspension := q.suspension
              deducted := p.delivered, primeTimer := none, dwellTimer := none
              limitTimer := some (60 * s.watch.model.suspensionLimit) })
          ∧ ((∀ d r, s.engine.contexts.get d = some r → r.main = p.main → r.state ≠ .suspended → d = c) →
            t.engine.mains.get p.main = { s.engine.mains.get p.main with
              state := .opened, openSource := some p.source, context := none }))
      ∧ (p.state ≠ .suspended → t.engine.blocked.get p.cannon = false → t.engine.contexts.get c = some p)
      ∧ (p.state = .suspended →
        t.engine.contexts.get c = some { p with wind := t.engine.blocked.get p.cannon }) := by
  generalize hfl : s.handGust.judgedFlags = flags at hb
  have hj := s.judged_eq hfl
  have hctx : ∀ c o, s.engine.contexts.get c = o → s.judged.engine.contexts.get c = o := fun c o h => by
    rw [hj]; exact h
  have hmain : s.judged.engine.mains = s.engine.mains := by rw [hj]
  rw [State.driftReevaluate_eq, hfl] at ht
  rw [hb, ht]
  refine ⟨fun c hc => State.followWalk_of_free (hctx c _ hc), fun c p hp => ⟨fun hs hbl => ?_, fun hs hbl => ?_,
    fun hs => State.followWalk_of_sets (hctx c _ hp) (flagFollow_of_suspended rfl hs)⟩⟩
  · have hk := flagFollow_of_blocked (concerned := fun _ => true) rfl hs hbl
    refine ⟨?_, fun halone => ?_⟩
    · obtain ⟨q, hq, hqe⟩ := State.followWalk_of_suspends (hctx c _ hp) hk
      refine ⟨q, hq, ?_⟩
      rw [State.suspended_eq, hj] at hqe
      rw [← hbl]
      exact hqe
    · rw [State.followWalk_main_of_suspends (hctx c _ hp) hk fun d r hr hm hkr => halone d r (by rw [hj] at hr; exact hr) hm
        (flagFollow_suspends_iff.1 hkr).2.1, hmain]
  · exact State.followWalk_of_leaves (hctx c _ hp) (flagFollow_of_free rfl hs hbl)

/-- The mains that no suspended pass had, and the attempts asked for (06 R110). -/
theorem State.driftReevaluate_mains (ht : t = s.driftReevaluate) (hb : t.engine.blocked = s.handGust.judgedFlags)
    (m : Fin 4) :
    ((∀ c p, s.engine.contexts.get c = some p → p.main = m →
        ¬ (p.state ≠ .suspended ∧ t.engine.blocked.get p.cannon = true)) →
      t.engine.mains.get m = s.engine.mains.get m)
    ∧ (t.engine.asked.get m = true ↔ s.engine.asked.get m = true
      ∨ (∃ k, s.engine.blocked.get k = true ∧ t.engine.blocked.get k = false)
      ∨ ∃ c p, s.engine.contexts.get c = some p ∧ p.main = m
        ∧ ((p.state ≠ .suspended ∧ t.engine.blocked.get p.cannon = true)
          ∨ p.state = .suspended ∧ p.wind = true ∧ p.machine = false ∧ t.engine.blocked.get p.cannon = false)) := by
  generalize hfl : s.handGust.judgedFlags = flags at hb
  have hj := s.judged_eq hfl
  have hctx : s.judged.engine.contexts = s.engine.contexts := by rw [hj]
  have hmain : s.judged.engine.mains = s.engine.mains := by rw [hj]
  have hask : s.judged.engine.asked.get m = true ↔ s.engine.asked.get m = true
      ∨ ∃ k, s.engine.blocked.get k = true ∧ flags.get k = false := by
    rw [hj]
    dsimp only
    split
    · next h => simp [h]
    · next h => simp [h]
  rw [State.driftReevaluate_eq, hfl] at ht
  rw [hb, ht]
  refine ⟨fun hm => ?_, ?_⟩
  · rw [State.followWalk_main fun c p hp hpm hk => hm c p (hctx ▸ hp) hpm (flagFollow_suspends_iff.1 hk).2, hmain]
  · rw [State.followWalk_asked, hctx, hask, or_assoc]
    simp only [flagFollow_suspends_iff, flagFollow_sets_iff, true_and]

/-- A drift re-evaluation as a walk of its own steps. -/
theorem State.driftReevaluate_walk {next : State → Fin 8 → State} {v : State} (ht : t = s.driftReevaluate)
    (hb : t.engine.blocked = s.handGust.judgedFlags)
    (hnone : ∀ w c, w.engine.contexts.get c = none → next w c = w)
    (hlive : ∀ w c p, w.engine.contexts.get c = some p → p.state ≠ .suspended →
      next w c = if w.engine.blocked.get p.cannon then w.suspendPass c p else w)
    (hheld : ∀ w c p, w.engine.contexts.get c = some p → p.state = .suspended →
      next w c = { w with
        engine := { w.engine with
          contexts := w.engine.contexts.put c (some { p with wind := w.engine.blocked.get p.cannon })
          asked := if p.wind = true ∧ p.machine = false ∧ w.engine.blocked.get p.cannon = false then
            w.engine.asked.put p.main true else w.engine.asked } })
    (hv : v = { s with
      notices := if s.gustFigure = none then s.notices.marked .windBlind 0 else s.notices
      engine := { s.engine with
        gust := s.gustFigure, gustLine := s.field.lines.gust.filtered, blocked := t.engine.blocked
        asked := if ∃ k, s.engine.blocked.get k = true ∧ t.engine.blocked.get k = false then Table.fill 4 true
          else s.engine.asked } }) :
    t = (List.finRange 8).foldl next v := by
  rw [hb, ← s.judged_eq rfl] at hv
  rw [ht, hv]
  refine State.followFlags_eq _ hnone (fun _ _ _ _ hp => absurd hp (by simp))
    (fun w c q hq _ hs => hlive w c q hq hs) (fun w c q hq _ hs => ?_)
  rw [State.setWind_eq w hs, hheld w c q hq hs]

end

/-- Settles O27: the flags of a drift re-evaluation, what the live passes come to, and a suspension written out. -/
theorem driftReevaluation : Obligations.DriftReevaluation := by
  refine ⟨fun s t figure line ht hf hl => ?_, fun s t next v clears ht hcl hnone hlive hheld hv hn1 hn2 ha1 ha2 => ?_,
    fun s t c p drawn ht hd => ?_⟩
  · replace hf : figure = s.gustFigure := hf.trans s.gustFigure_eq.symm
    obtain ⟨hblind, hb, hfr, hw, hq⟩ := State.driftReevaluate_flags ht hf.symm hl.symm
    obtain ⟨hfree, hpass⟩ := State.driftReevaluate_passes ht hb
    have hflag := s.judgedFlags_handGust
    rw [← hb, ← hf, ← hl] at hflag
    refine ⟨congrArg Frame.gust hfr, congrArg Frame.gustLine hfr, hblind, fun k hk => by rw [hflag, hk],
      fun k c hk => ?_, hfr, hw, hq, hfree, fun suspends hsu => ⟨fun c p hp => ?_, fun m => ?_⟩⟩
    · have hfk := hflag k
      rw [hk] at hfk
      dsimp only at hfk
      rw [hfk]
      refine ⟨?_, ?_, fun g h1 h2 => ?_⟩
      · rintro rfl
        exact driftFlag_of_line
      · rintro rfl rfl
        exact driftFlag_of_unknown
      · subst h1 h2
        exact driftFlag_of_figure
    · obtain ⟨hsus, hstay, hset⟩ := hpass c p hp
      rw [hsu]
      refine ⟨fun ⟨h1, h2⟩ => ?_, fun h1 h2 => hstay h1 (by simpa [h1] using h2), hset⟩
      obtain ⟨⟨q, hq, hqe⟩, hmain⟩ := hsus h1 h2
      exact ⟨q, hq, hqe, hmain⟩
    · simp only [hsu]
      exact State.driftReevaluate_mains ht hb m
  · obtain ⟨-, hb, hfr, -⟩ := State.driftReevaluate_flags ht rfl rfl
    have hg : t.engine.gust = s.gustFigure := congrArg Frame.gust hfr
    have hgl : t.engine.gustLine = s.field.lines.gust.filtered := congrArg Frame.gustLine hfr
    have hnot : v.notices = if s.gustFigure = none then s.notices.marked .windBlind 0 else s.notices := by
      rw [hg] at hn1 hn2
      split
      · next h => exact hn2 h
      · next h => exact hn1 h
    have hask : v.engine.asked = if ∃ k, s.engine.blocked.get k = true ∧ t.engine.blocked.get k = false
        then Table.fill 4 true else s.engine.asked := by
      split
      · next h => exact ha1 (hcl.2 h)
      · next h => exact ha2 (mt hcl.1 h)
    rw [hnot, hask, hg, hgl] at hv
    exact State.driftReevaluate_walk ht hb hnone hlive hheld hv
  · subst hd
    obtain ⟨hw, hq⟩ := s.suspendPass_watch_queue c p
    rw [ht]
    refine ⟨s.suspendPass_frame c p, hw, hq, ?_, fun h5 => State.suspendPass_fresh h5,
      fun b x y enters hb hx hy hlow0 hlow henters => ?_⟩
    · rw [State.suspendPass_engine, State.suspendedEngine, State.suspended_eq] <;> rfl
    · subst hx
      obtain ⟨hwat, hnot⟩ := State.suspendPass_basin (s := s) (c := c) hb rfl rfl
      generalize hx : (s.water.basins.get b).drawn (p.delivered - p.deducted) = x at hwat hnot
      have hlx : x.low = (s.water.basins.get b).low := by rw [← hx]; rfl
      have hyx : y = { x with low := y.low } := by rw [← hx]; exact hy
      have hye : y = if 0 < p.delivered - p.deducted then { x with low := x.lowAfter } else x := by
        split
        · next h =>
          have hyl : y.low = x.lowAfter := by
            rw [Bool.eq_iff_iff, hlow h, Basin.lowAfter_iff, ← hlx, hyx]
          rw [hyx, hyl]
        · next h => rw [hyx, hlow0 (by omega), ← hlx]
      have hent : enters ↔ 0 < p.delivered - p.deducted ∧ x.low = false ∧ x.lowAfter = true := by
        rw [henters, ← hlx, hye]
        split
        · next h => simp [h]
        · next h => simp [h]
      refine ⟨hwat.trans (by rw [← hye]), fun he => ?_, fun he => ?_⟩
      · rw [hnot, if_pos (hent.1 he)]
        exact ⟨(Table.get_put _ _ _ _).trans (if_pos rfl), (Table.get_put _ _ _ _).trans (if_pos rfl)⟩
      · rw [hnot, if_neg (mt hent.2 he)]

end Sys2Proof.Machine

/-! PROOFS. COMMIT of an exclusion, and its trims (O16). -/

namespace Sys2Proof.Machine

section

variable {s t : State} {c : Fin 8} {p q : Pass} {start length : Nat}

/-! ## A release (04 R72) -/

theorem State.mapReserved_state (s : State) (x : Fin 6) (f : Nat → Nat) :
    (s.mapReserved x f).water.state x = s.water.state x := by
  unfold State.mapReserved Water.state
  cases h : asBasin x with
  | none => rfl
  | some b =>
    show ((s.water.basins.modify b _).get b).state = _
    rw [Table.get_modify, if_pos rfl]
    rfl

theorem State.mapReserved_keeps (s : State) (x : Fin 6) (f : Nat → Nat) :
    (s.mapReserved x f).engine = s.engine ∧ (s.mapReserved x f).notices = s.notices
      ∧ (s.mapReserved x f).frame = s.frame := by
  unfold State.mapReserved
  cases asBasin x <;> exact ⟨rfl, rfl, rfl⟩

theorem State.release_engine (s : State) (x : Fin 6) (v : Nat) : (s.release x v).engine = { s.engine with
    asked := if 0 < v ∧ s.water.state x = .ready then Table.fill 4 true else s.engine.asked } := by
  obtain ⟨he, -⟩ := s.mapReserved_keeps x (· - v)
  have hs : (decide (0 < v) && (s.mapReserved x (· - v)).water.serves x) = true
      ↔ 0 < v ∧ s.water.state x = .ready := by
    rw [Bool.and_eq_true, Water.serves, State.mapReserved_state, decide_eq_true_eq, decide_eq_true_eq]
  unfold State.release
  dsimp only
  by_cases h : 0 < v ∧ s.water.state x = .ready
  · rw [hs.2 h, if_pos h, ← he]
    rfl
  · rw [Bool.eq_false_iff.2 (mt hs.1 h), if_neg h]
    exact he

/-- What a release leaves as it is. -/
theorem State.release_keeps (s : State) (x : Fin 6) (v : Nat) :
    (s.release x v).frame = s.frame ∧ (s.release x v).watch = s.watch ∧ (s.release x v).queue = s.queue
      ∧ (s.release x v).notices = s.notices ∧ (s.release x v).control = s.control
      ∧ (s.release x v).field = s.field := by
  obtain ⟨-, hn, hf⟩ := s.mapReserved_keeps x (· - v)
  obtain ⟨-, -, hw, hq, hc, hfi⟩ := State.beyondWater_fields (s.release_beyondWater x v)
  refine ⟨?_, hw, hq, ?_, hc, hfi⟩
  · exact (State.askAllIf_frame _ _).trans hf
  · unfold State.release State.askAllIf
    dsimp only
    split
    · exact hn
    · exact hn

theorem State.askAllIf_water (s : State) (b : Bool) : (s.askAllIf b).water = s.water := by
  cases b <;> rfl

theorem State.release_water_fresh (s : State) (v : Nat) : (s.release 5 v).water = { s.water with
    fresh := { s.water.fresh with reserved := s.water.fresh.reserved - v } } :=
  State.askAllIf_water _ _

theorem State.release_water_basin (s : State) {x : Fin 6} {b : Fin 5} (h : x.val = b.val) (v : Nat) :
    (s.release x v).water = { s.water with
      basins := s.water.basins.put b { s.water.basins.get b with
        reserved := (s.water.basins.get b).reserved - v } } := by
  refine (State.askAllIf_water _ _).trans ?_
  simp only [State.mapReserved, asBasin_of_val h]
  rfl

/-! ## The plan trimmed (06 R130) -/

/-- The bays and the cursor of a trimmed pass, before its accounts. -/
def Pass.trimWalk (p : Pass) (start length : Nat) : Pass :=
  if (p.rest.filter fun b => !inWindow start length b).isEmpty then
    if (p.bays.filter fun b => !inWindow start length b).isEmpty then
      { p with bays := p.bays.filter fun b => !inWindow start length b, rest := [], cursorSeconds := 0 }
    else ({ p with bays := p.bays.filter fun b => !inWindow start length b } : Pass).moveCursor []
  else { p with
    bays := p.bays.filter fun b => !inWindow start length b
    rest := p.rest.filter fun b => !inWindow start length b
    cursorSeconds := if (match p.rest with | b :: _ => inWindow start length b | [] => false) then 0
      else p.cursorSeconds }

/-- Bays outside the window. -/
theorem not_inWindow_eq (start length : Nat) :
    (fun b => !inWindow start length b) = fun b => decide (b < start ∨ start + length ≤ b) := by
  funext b
  rw [Bool.eq_iff_iff, Bool.not_eq_true', ← Bool.not_eq_true, inWindow_iff, decide_eq_true_eq]
  omega

theorem Pass.trimmed_eq (p : Pass) (start length : Nat) {w : Pass} (hw : w = p.trimWalk start length) :
    p.trimmed start length = { w with
      baysPlanned := p.baysDone + (if w.rest.isEmpty then 0 else w.remaining)
      planned := max (planVolume (p.baysDone + (if w.rest.isEmpty then 0 else w.remaining)) p.dwell p.flow)
        p.delivered
      dwellTimer :=
        if p.state = .running ∧ (match p.rest with | b :: _ => inWindow start length b | [] => false) = true
        then (if w.rest.isEmpty then none else some p.dwell)
        else p.dwellTimer } := by
  subst hw
  rfl

/-- A trim's walk moves the bays and the cursor alone. -/
theorem Pass.trimWalk_eq (p : Pass) (start length : Nat) : p.trimWalk start length = { p with
    bays := p.bays.filter fun b => !inWindow start length b
    cursorRepeat := (p.trimWalk start length).cursorRepeat
    rest := (p.trimWalk start length).rest
    cursorSeconds := (p.trimWalk start length).cursorSeconds } := by
  unfold Pass.trimWalk Pass.moveCursor
  split
  · split
    · rfl
    · split <;> rfl
  · rfl

variable {kept rest : List Nat}

theorem Pass.trimWalk_of_rest {bay : Nat} {walk : List Nat} (hp : p.rest = bay :: walk)
    (hr : (p.rest.filter fun b => !inWindow start length b) = rest) (h : rest ≠ []) :
    (p.trimWalk start length).rest = rest ∧ (p.trimWalk start length).cursorRepeat = p.cursorRepeat
      ∧ (p.trimWalk start length).cursorSeconds = if inWindow start length bay then 0 else p.cursorSeconds := by
  subst hr
  unfold Pass.trimWalk
  rw [if_neg (by simpa using h), hp]
  exact ⟨rfl, rfl, rfl⟩

theorem Pass.trimWalk_of_next (hr : (p.rest.filter fun b => !inWindow start length b) = [])
    (hk : (p.bays.filter fun b => !inWindow start length b) = kept) (hn : p.cursorRepeat + 1 < p.repeats)
    (h : kept ≠ []) :
    (p.trimWalk start length).cursorSeconds = 0 ∧ (p.trimWalk start length).cursorRepeat = p.cursorRepeat + 1
      ∧ (p.trimWalk start length).rest
        = if p.alternate = true ∧ (p.cursorRepeat + 1) % 2 = 1 then kept.reverse else kept := by
  subst hk
  unfold Pass.trimWalk Pass.moveCursor
  rw [hr, if_pos (show ([] : List Nat).isEmpty = true from rfl), if_neg (by simpa using h)]
  simp only [List.isEmpty_nil, Bool.true_and, decide_eq_true_eq, if_pos hn, Pass.walk, Bool.and_eq_true,
    beq_iff_eq, and_self]

theorem Pass.trimWalk_of_end (hr : (p.rest.filter fun b => !inWindow start length b) = [])
    (h : p.repeats ≤ p.cursorRepeat + 1 ∨ (p.bays.filter fun b => !inWindow start length b) = []) :
    (p.trimWalk start length).rest = [] := by
  unfold Pass.trimWalk Pass.moveCursor
  rw [hr, if_pos (show ([] : List Nat).isEmpty = true from rfl)]
  split
  · rfl
  · next hk =>
    rw [if_neg]
    rcases h with h | h
    · simpa using h
    · exact absurd (by simp [h]) hk

/-- What a trim leaves of a pass, case by case. -/
theorem Pass.trimmed_cases {bay : Nat} {walk : List Nat} {outside : Nat → Bool}
    (ho : outside = fun b => decide (b < start ∨ start + length ≤ b)) (hp : p.rest = bay :: walk)
    (hq : q = p.trimmed start length) (hk : kept = p.bays.filter outside) (hr : rest = p.rest.filter outside) :
    q = { p with
        bays := kept, cursorRepeat := q.cursorRepeat, rest := q.rest, cursorSeconds := q.cursorSeconds,
        baysPlanned := q.baysPlanned, planned := q.planned, dwellTimer := q.dwellTimer }
    ∧ (rest ≠ [] → q.rest = rest ∧ q.cursorRepeat = p.cursorRepeat
        ∧ q.cursorSeconds = (if outside bay then p.cursorSeconds else 0))
    ∧ (rest = [] → p.cursorRepeat + 1 < p.repeats → kept ≠ [] → q.cursorSeconds = 0
        ∧ q.cursorRepeat = p.cursorRepeat + 1
        ∧ q.rest = (if p.alternate = true ∧ (p.cursorRepeat + 1) % 2 = 1 then kept.reverse else kept))
    ∧ (rest = [] → (p.repeats ≤ p.cursorRepeat + 1 ∨ kept = []) → q.rest = [])
    ∧ q.baysPlanned = p.baysDone + (if q.rest = [] then 0
        else q.rest.length + (p.repeats - 1 - q.cursorRepeat) * kept.length)
    ∧ q.planned = max ((q.baysPlanned * p.dwell * p.flow + 59) / 60) p.delivered
    ∧ ((outside bay = true ∨ p.state ≠ .running) → q.dwellTimer = p.dwellTimer)
    ∧ (outside bay = false → p.state = .running → q.rest ≠ [] → q.dwellTimer = some p.dwell) := by
  rw [← not_inWindow_eq] at ho
  have hob : outside bay = !inWindow start length bay := congrFun ho bay
  rw [ho] at hk hr
  have hw := p.trimWalk_eq start length
  generalize hwe : p.trimWalk start length = w at hw
  have hqe := p.trimmed_eq start length hwe.symm
  rw [← hq, hp] at hqe
  dsimp only at hqe
  have hbays : w.bays = kept := by rw [hk, hw]
  have hreps : w.repeats = p.repeats := by rw [hw]
  have hqr : q.rest = w.rest := by rw [hqe]
  have hqc : q.cursorRepeat = w.cursorRepeat := by rw [hqe]
  have hqs : q.cursorSeconds = w.cursorSeconds := by rw [hqe]
  have hqb : q.baysPlanned = p.baysDone + (if w.rest.isEmpty then 0 else w.remaining) := by rw [hqe]
  have hqp : q.planned = max (planVolume q.baysPlanned p.dwell p.flow) p.delivered := by rw [hqb, hqe]
  have hqd : q.dwellTimer = if p.state = .running ∧ inWindow start length bay = true
      then (if w.rest.isEmpty then none else some p.dwell) else p.dwellTimer := by rw [hqe]
  refine ⟨?_, fun h => ?_, fun h1 h2 h3 => ?_, fun h1 h2 => ?_, ?_, hqp, fun h => ?_, fun h1 h2 h3 => ?_⟩
  · rw [hqr, hqc, hqs, hqd, hqp, hqb, hk, hqe]
    generalize w.remaining = left
    conv_lhs => rw [hw]
  · obtain ⟨h1, h2, h3⟩ := Pass.trimWalk_of_rest hp hr.symm h
    rw [hqr, hqc, hqs, ← hwe, h1, h2, h3, hob]
    refine ⟨rfl, rfl, ?_⟩
    cases inWindow start length bay <;> rfl
  · obtain ⟨h1, h2, h3⟩ := Pass.trimWalk_of_next (hr.symm.trans h1) hk.symm h2 h3
    rw [hqr, hqc, hqs, ← hwe]
    exact ⟨h1, h2, h3⟩
  · rw [hqr, ← hwe]
    exact Pass.trimWalk_of_end (hr.symm.trans h1) (h2.imp_right fun h => hk.symm.trans h)
  · rw [hqb, hqr, hqc, Pass.remaining, hbays, hreps]
    simp only [List.isEmpty_iff]
  · rw [hqd, if_neg]
    rintro ⟨h1, h2⟩
    rw [hob, h2] at h
    exact h.elim (by simp) fun h => h h1
  · rw [hqd, if_pos ⟨h2, by simpa [hob] using h1⟩, if_neg]
    rw [List.isEmpty_iff, ← hqr]
    exact h3

/-! ## A trim (06 R130) -/

/-- A pass trimmed, with what it no longer needs released, before its end. -/
def State.cutPass (s : State) (c : Fin 8) (p : Pass) (start length : Nat) : State :=
  (s.setContext c (some (p.trimmed start length))).release p.source (p.planned - (p.trimmed start length).planned)

theorem State.trimPass_of_bays (h : (p.trimmed start length).rest ≠ []) (s : State) (c : Fin 8) :
    s.trimPass c p start length = s.cutPass c p start length := by
  have : (p.trimmed start length).rest.isEmpty = false := by simpa using h
  simp only [State.trimPass, this]
  rfl

theorem State.trimPass_of_no_bays (h : (p.trimmed start length).rest = []) (s : State) (c : Fin 8) :
    s.trimPass c p start length
      = ((s.cutPass c p start length).endPass none c (.cutShort .excluded) true).runAttempts none := by
  simp only [State.trimPass, h]
  rfl

theorem State.cutPass_engine (s : State) (c : Fin 8) (p : Pass) (start length : Nat) :
    (s.cutPass c p start length).engine = { s.engine with
      contexts := s.engine.contexts.put c (some (p.trimmed start length))
      asked := if (p.trimmed start length).planned < p.planned ∧ s.water.state p.source = .ready
        then Table.fill 4 true else s.engine.asked } := by
  rw [State.cutPass, State.release_engine]
  simp only [Nat.sub_pos_iff_lt]
  rfl

/-! ## After the walk no pass keeps a bay of the window -/

/-- A bay of the window on its bed. -/
def windowBay (bed : Fin 8) (start length : Nat) (bed' : Fin 8) (b : Nat) : Prop :=
  bed' = bed ∧ inWindow start length b = true

/-- The passes of the contexts that a walk of trims has visited keep no bay of the window. -/
def State.Clearing (g : Geometry) (bed : Fin 8) (start length : Nat) (V : Fin 8 → Prop) (s : State) : Prop :=
  s.geometry = g ∧ s.EachPass fun c p => V c → p.Avoids g.bedOf (windowBay bed start length)

section

variable {g : Geometry} {bed : Fin 8} {V : Fin 8 → Prop}

theorem State.clearing_attempts (hg : ∀ bed' b, windowBay bed start length bed' b → g.Bad bed' b)
    (V : Fin 8 → Prop) : KeptByAttempts none (State.Clearing g bed start length V) := by
  refine State.eachPass_attempts none g _ (fun c p q h hp hc => (hp hc).of_plan h) ?_
  intro c i y kn k m src cl hy _ _ _
  exact (newPass_avoids { State.reset with geometry := g } hy kn k m src cl).mono (fun _ => id) hg

theorem Pass.trimmed_avoids (bedOf : Fin 48 → Option (Fin 8)) (p : Pass) (start length : Nat) :
    (p.trimmed start length).Avoids bedOf (windowBay bed start length) := by
  obtain ⟨-, h2, h3, -⟩ := p.trimmed_spec start length
  exact fun _ _ => ⟨fun b hb ⟨_, hw⟩ => by simp [(h3 b hb).1] at hw,
    fun _ b hb ⟨_, hw⟩ => by simp [(h2 b hb).2] at hw⟩

/-- A pass that needs no trim has no bay of the window left. -/
theorem Pass.avoids_of_untrimmed {bedOf : Fin 48 → Option (Fin 8)}
    (h : ¬ (bedOf p.pile = some bed ∧ p.meetsWindow start length = true)) :
    p.Avoids bedOf (windowBay bed start length) := by
  intro bed' hb
  have hm : bed' = bed → p.meetsWindow start length = false := by
    rintro rfl
    simpa using fun hw => h ⟨hb, hw⟩
  simp only [Pass.meetsWindow, Bool.or_eq_false_iff, Bool.and_eq_false_imp, decide_eq_true_eq,
    List.any_eq_false] at hm
  exact ⟨fun b hr ⟨he, hw⟩ => (hm he).1 b hr hw, fun hc b hr ⟨he, hw⟩ => (hm he).2 hc b hr hw⟩

theorem State.Clearing.step (hg : ∀ bed' b, windowBay bed start length bed' b → g.Bad bed' b)
    (hs : State.Clearing g bed start length V s) (c : Fin 8) :
    State.Clearing g bed start length (fun d => V d ∨ d = c) (State.trimStep bed start length s c) := by
  obtain ⟨hsg, hsp⟩ := hs
  have K := State.clearing_attempts hg fun d => V d ∨ d = c
  unfold State.trimStep
  split
  · next p hp =>
    split
    · have hcut : State.Clearing g bed start length (fun d => V d ∨ d = c) (s.cutPass c p start length) := by
        refine ⟨(congrArg Frame.geometry (State.release_keeps _ _ _).1).trans hsg, ?_⟩
        intro d r hr hd
        rw [State.cutPass_engine, Table.get_put] at hr
        split at hr
        · obtain rfl := Option.some.inj hr
          exact p.trimmed_avoids _ start length
        · next hne => exact hsp d r hr (hd.resolve_right (Ne.symm hne))
      by_cases hr : (p.trimmed start length).rest = []
      · rw [State.trimPass_of_no_bays hr]
        exact K.runAttempts (K.endPass _ _ _ (by simp) hcut)
      · rw [State.trimPass_of_bays hr]
        exact hcut
    · next hn =>
      refine ⟨hsg, fun d r hr hd => ?_⟩
      rcases hd with hd | rfl
      · exact hsp d r hr hd
      · obtain rfl : p = r := Option.some.inj (hp.symm.trans hr)
        rw [State.bedOf_eq, hsg] at hn
        exact Pass.avoids_of_untrimmed hn
  · next hn =>
    refine ⟨hsg, fun d r hr hd => ?_⟩
    rcases hd with hd | rfl
    · exact hsp d r hr hd
    · simp [hn] at hr

theorem State.Clearing.forEach (hg : ∀ bed' b, windowBay bed start length bed' b → g.Bad bed' b)
    (l : List (Fin 8)) (hs : State.Clearing g bed start length V s) :
    State.Clearing g bed start length (fun d => V d ∨ d ∈ l) (s.forEach l (State.trimStep bed start length)) := by
  unfold State.forEach
  induction l generalizing s V with
  | nil => exact ⟨hs.1, fun d p hp hd => hs.2 d p hp (by simpa using hd)⟩
  | cons c l ih =>
    rw [List.foldl_cons]
    obtain ⟨hg', hp⟩ := ih (hs.step hg c)
    exact ⟨hg', fun d p hd h => hp d p hd (by simpa [or_assoc] using h)⟩

/-- The trims of a present exclusion leave no pass a bay of its window. -/
theorem State.trimPasses_clear (hsg : s.geometry = g)
    (hg : ∀ bed' b, windowBay bed start length bed' b → g.Bad bed' b) :
    State.Clearing g bed start length (fun _ => True) (s.trimPasses bed start length) := by
  have h0 : State.Clearing g bed start length (fun _ => False) s := ⟨hsg, fun _ _ _ h => h.elim⟩
  obtain ⟨h1, h2⟩ := h0.forEach hg allContexts
  rw [State.trimPasses_eq_forEach]
  exact ⟨h1, fun c p hp _ => h2 c p hp (.inr (mem_allContexts c))⟩

end

/-! ## The tests of an EXCLUSION COMMIT (01 R15) -/

variable {i : Fin 16} {x : Exclusion} {v : List Nat}

theorem State.exclusionTest_of_fixed (h : s.geometry.isFixed i = true) : s.exclusionTest i x = some .fixed :=
  if_pos h

theorem State.exclusionTest_of_range (hf : s.geometry.isFixed i = false)
    (h : x.length = 0 ∨ (s.geometry.beds.get x.bed).length < x.start + x.length) :
    s.exclusionTest i x = some .range := by
  rw [State.exclusionTest, hf]
  by_cases h0 : x.length < 1
  · simp [h0]
  · simp [h0, h.resolve_left (by omega)]

theorem State.exclusionTest_of_accepted (hf : s.geometry.isFixed i = false) (h1 : 1 ≤ x.length)
    (h2 : x.start + x.length ≤ (s.geometry.beds.get x.bed).length) : s.exclusionTest i x = none := by
  rw [State.exclusionTest, hf, if_neg Bool.false_ne_true, if_neg (by omega), if_neg (by omega)]

theorem State.commitExclusion_of_refused {r : Result}
    (hx : x = exclusionFrom v (nextRevision ((s.geometry.exclusions.get i).map (·.revision))))
    (h : s.exclusionTest i x = some r) : s.commitExclusion i v = .inl r := by
  subst hx
  rw [State.commitExclusion, h]

theorem State.commitExclusion_of_accepted
    (hx : x = exclusionFrom v (nextRevision ((s.geometry.exclusions.get i).map (·.revision))))
    (h : s.exclusionTest i x = none) :
    s.commitExclusion i v = .inr ((s.setExclusion i (some x)).trimPasses x.bed x.start x.length) := by
  subst hx
  rw [State.commitExclusion, h]

/-- What the end of a command leaves in the contexts is kept by attempts. -/
theorem KeptByAttempts.commandEnd {P : State → Prop} (K : KeptByAttempts none P)
    (hP : ∀ s t : State, t.geometry = s.geometry → t.engine = s.engine → t.watch = s.watch → t.queue = s.queue →
      P s → P t) (hs : P s) (code : Byte) (a : Answer) : P (s.commandEnd code a) := by
  have he := s.commandEnd_eq code a rfl
  refine hP (s.runAttempts none) _ ?_ ?_ ?_ ?_ (K.runAttempts hs) <;> rw [he]

end

/-- A trim, its pass and its state written out. -/
theorem trimOfAPass (s : State) (c : Fin 8) (p q : Pass) (start length : Nat) (hq : q = p.trimmed start length) :
    ∃ u : State, u.frame = s.frame ∧ u.watch = s.watch ∧ u.queue = s.queue ∧ u.notices = s.notices
      ∧ u.control = s.control ∧ u.field = s.field
      ∧ u.engine = { s.engine with
          contexts := s.engine.contexts.put c (some q), asked := u.engine.asked }
      ∧ (p.source = 5 → u.water = { s.water with
          fresh := { s.water.fresh with
            reserved := s.water.fresh.reserved - (p.planned - q.planned) } })
      ∧ (∀ b : Fin 5, p.source.val = b.val → u.water = { s.water with
          basins := s.water.basins.put b { s.water.basins.get b with
            reserved := (s.water.basins.get b).reserved - (p.planned - q.planned) } })
      ∧ u.engine.asked = (if q.planned < p.planned ∧ s.water.state p.source = .ready then Table.fill 4 true
          else s.engine.asked)
      ∧ (q.rest ≠ [] → s.trimPass c p start length = u)
      ∧ (q.rest = [] → s.trimPass c p start length
          = (u.endPass none c (.cutShort .excluded) true).runAttempts none) := by
  subst hq
  obtain ⟨hf, hw, hqu, hn, hc, hfi⟩ := (s.setContext c (some (p.trimmed start length))).release_keeps p.source
    (p.planned - (p.trimmed start length).planned)
  have he := s.cutPass_engine c p start length
  refine ⟨s.cutPass c p start length, hf, hw, hqu, hn, hc, hfi, ?_, fun h5 => ?_, fun b hb => ?_, ?_,
    fun h => State.trimPass_of_bays h s c, fun h => State.trimPass_of_no_bays h s c⟩
  · rw [he]
  · rw [State.cutPass, h5]
    exact State.release_water_fresh _ _
  · exact State.release_water_basin _ hb _
  · rw [he]

/-- Settles O16: the tests of an EXCLUSION COMMIT, the walk of its trims, and a trim case by case. -/
theorem commitExclusion : Obligations.CommitExclusion := by
  refine ⟨fun s buffer k b i x h hb hk hc hx hl hr hxd => ?_,
    fun s c p q start length bay walk kept rest outside ho hp hq hk hr => ?_⟩
  · have hr' : b.base = s.liveRevision b.cls b.index := by
      rw [hr, hc, hx]
      simp [State.liveRevision]
    have hi : s.installRecord b = s.commitExclusion i b.values := by
      simp only [State.installRecord, hc, hx, Fin.ofNat_val_eq_self]
    have hxe : x = exclusionFrom b.values (nextRevision ((s.geometry.exclusions.get i).map (·.revision))) := by
      rw [hxd, nextRevision_map]
      cases s.geometry.exclusions.get i <;> rfl
    have refused : ∀ r, s.exclusionTest i x = some r → exec (.commit buffer) s
        = .next (s.commandEnd Code.commit (some (r, BitVec.ofNat 8 i.val))) := fun r ht => by
      rw [← hx]
      exact exec_commit_of_refused h hb hk hl hr' (hi.trans (State.commitExclusion_of_refused hxe ht))
    refine ⟨fun hf => refused _ (State.exclusionTest_of_fixed hf),
      fun hf hn => refused _ (State.exclusionTest_of_range hf hn), fun hf h1 h2 => ?_⟩
    refine ⟨_, exec_commit_of_installed h hb hk hl hr' (hi.trans (State.commitExclusion_of_accepted hxe
      (State.exclusionTest_of_accepted hf h1 h2))), ?_⟩
    generalize he : s.setExclusion i (some x) = e
    have hef : e.frame = { s.frame with
        geometry := { s.geometry with exclusions := s.geometry.exclusions.put i (some x) } } := by rw [← he]; rfl
    have hbad : ∀ bed' b, windowBay x.bed x.start x.length bed' b → e.geometry.Bad bed' b := by
      rintro _ b ⟨rfl, hw⟩
      rw [inWindow_iff] at hw
      refine Geometry.excluded_iff.2 ⟨i, x, ?_, rfl, hw⟩
      rw [← he]
      exact (Table.get_put _ _ _ _).trans (if_pos rfl)
    have hcl := State.trimPasses_clear (s := e) rfl hbad
    have htf := (e.trimPasses_frame x.bed x.start x.length).trans hef
    generalize hI : e.trimPasses x.bed x.start x.length = I at hcl htf
    generalize ht : (I.setBuffer k none).commandEnd Code.commit (some (.done, BitVec.ofNat 8 b.index)) = t
    obtain ⟨hport, hframe⟩ := State.commitEnd_frame _ k _ ht.symm
    have hpo : I.port = s.port := congrArg Frame.port htf
    have hst : I.staging = s.staging := congrArg Frame.staging htf
    rw [htf, hst] at hframe
    refine ⟨by rw [hport, hpo, hx], hframe, ?_, fun next meets u hmeets hnone htrim hother hu => ?_⟩
    · have htc : State.Clearing e.geometry x.bed x.start x.length (fun _ => True) t := by
        have hclb : State.Clearing e.geometry x.bed x.start x.length (fun _ => True) (I.setBuffer k none) := hcl
        rw [← ht]
        refine (State.clearing_attempts hbad _).commandEnd (fun s t hg he _ _ hs => ?_) hclb Code.commit _
        exact ⟨hg.trans hs.1, hs.2.of_contexts (congrArg Engine.contexts he)⟩
      obtain ⟨htg, htp⟩ := htc
      intro c q p hq hp hbed
      have hav := htp c q hq trivial x.bed (by rw [← htg, Geometry.bedOf, hp]; exact congrArg some hbed)
      have hout : ∀ bay, ¬ windowBay x.bed x.start x.length x.bed bay →
          bay < x.start ∨ x.start + x.length ≤ bay := by
        intro bay hn
        simp only [windowBay, true_and, inWindow_iff] at hn
        omega
      exact ⟨fun bay hb => hout bay (hav.1 bay hb), fun hc bay hb => hout bay (hav.2 hc bay hb)⟩
    · have hm : ∀ v p, meets v p ↔ v.bedOf p.pile = some x.bed ∧ p.meetsWindow x.start x.length = true := by
        intro v p
        rw [hmeets]
        refine and_congr ?_ ?_
        · rw [State.bedOf_eq, Geometry.bedOf, Option.map_eq_some_iff]
        · simp only [Pass.meetsWindow, Bool.or_eq_true, Bool.and_eq_true, decide_eq_true_eq, List.any_eq_true,
            inWindow_iff]
      have hui : u = I := by
        rw [hu, ← hI]
        refine ((State.trimPasses_eq e hnone (fun t c q hq h1 h2 => htrim t c q hq ((hm t q).2 ⟨h1, h2⟩))
          fun t c q hq hn => hother t c q hq (mt (hm t q).1 hn)).trans ?_).symm
        rw [← he]
        rfl
      rw [hui, ← ht, ← hst, hx]
      rfl
  · obtain ⟨h1, h2, h3, h4, h5, h6, h7, h8⟩ := Pass.trimmed_cases ho hp hq hk hr
    exact ⟨h1, h2, h3, h4, h5, h6, h7, h8, trimOfAPass s c p q start length hq⟩

end Sys2Proof.Machine

/-! PROOFS. COMMIT of a main (O17), of a source (O18), and of a grade or the model (O19). -/

namespace Sys2Proof.Machine

section

variable {s : State} {v : List Nat}

/-! ## MAIN (06 R108) -/

theorem State.mainServes_iff {m : Fin 4} :
    s.mainServes m = true ↔ ∃ c p, s.engine.contexts.get c = some p ∧ p.main = m := by
  simp only [State.mainServes, Table.any_eq_true]
  refine exists_congr fun c => ?_
  cases s.engine.contexts.get c <;> simp

theorem Main.closeUnmasked_of_closes {x : Main} (h : x.state = .opened ∧ ∃ y, x.openSource = some y
    ∧ x.sourceMask.get y = false) :
    x.closeUnmasked = { x with state := .closed, openSource := none, context := none } := by
  obtain ⟨hs, y, hy, hm⟩ := h
  simp only [Main.closeUnmasked, hy, hs, hm, and_self, if_true, Main.shut]

theorem Main.closeUnmasked_of_not {x : Main} (h : ¬ (x.state = .opened ∧ ∃ y, x.openSource = some y
    ∧ x.sourceMask.get y = false)) : x.closeUnmasked = x := by
  unfold Main.closeUnmasked
  cases hy : x.openSource with
  | none => rfl
  | some y => exact if_neg fun hn => h ⟨hn.1, y, hy, hn.2⟩

/-- The main with the fields of a COMMIT, before its source is closed. -/
def Main.committed (x : Main) (v : List Nat) : Main := { x.install v with revision := x.revision + 1 }

theorem State.commitMain_of_engaged {m : Fin 4} (hs : s.mainServes m = true)
    (hm : flagsOf 6 (fieldValue v 1) ≠ (s.engine.mains.get m).sourceMask) :
    s.commitMain m v = .inl .engaged := by
  rw [State.commitMain, hs, decide_eq_true hm]
  rfl

theorem State.commitMain_of_accepted {m : Fin 4}
    (h : ¬ s.mainServes m = true ∨ flagsOf 6 (fieldValue v 1) = (s.engine.mains.get m).sourceMask) :
    s.commitMain m v = .inr ((s.mapMain m fun x => (x.committed v).closeUnmasked).follow.ask m) := by
  unfold State.commitMain
  refine if_neg ?_
  rw [Bool.and_eq_true, decide_eq_true_eq]
  rintro ⟨hs, hm⟩
  exact h.elim (fun h => h hs) fun h => hm h

/-! ## SOURCE (04 R87) -/

theorem Basin.commitTest_of_range {b : Basin} (h : fieldValue v 1 < b.level ∨ fieldValue v 1 < fieldValue v 2
    ∨ (0 < b.reserved ∧ b.level < fieldValue v 2 + b.reserved)) : b.commitTest v = some .range := by
  rw [Basin.commitTest]
  by_cases h1 : fieldValue v 1 < b.level
  · exact if_pos h1
  · rw [if_neg h1]
    by_cases h2 : fieldValue v 1 < fieldValue v 2
    · exact if_pos h2
    · rw [if_neg h2, if_pos ((h.resolve_left h1).resolve_left h2)]

theorem Basin.commitTest_of_accepted {b : Basin} (h1 : b.level ≤ fieldValue v 1)
    (h2 : fieldValue v 2 ≤ fieldValue v 1) (h3 : b.reserved = 0 ∨ fieldValue v 2 + b.reserved ≤ b.level) :
    b.commitTest v = none := by
  rw [Basin.commitTest, if_neg (by omega), if_neg (by omega), if_neg (by omega)]

/-- The basin with the fields of a COMMIT, before its low test. -/
def Basin.committed (b : Basin) (v : List Nat) : Basin := { b.install v with revision := b.revision + 1 }

theorem State.commitBasin_of_refused {i : Fin 5} {r : Result}
    (h : (s.water.basins.get i).commitTest v = some r) : s.commitBasin i v = .inl r := by
  simp only [State.commitBasin, h]

/-- A basin that has risen is reported to every main (04 R78). -/
theorem State.reportRise_eq {i : Fin 5} {before x : Basin} (hx : s.water.basins.get i = x) :
    s.reportRise i before = { s with
      engine := { s.engine with
        asked := if x.state = .ready ∧ (before.state ≠ .ready ∨ before.available < x.available)
          then Table.fill 4 true else s.engine.asked } } := by
  have hc : (decide (x.state = .ready) && (decide (before.state ≠ .ready) || decide (before.available < x.available)))
      = true ↔ x.state = .ready ∧ (before.state ≠ .ready ∨ before.available < x.available) := by
    rw [Bool.and_eq_true, Bool.or_eq_true, decide_eq_true_eq, decide_eq_true_eq, decide_eq_true_eq]
  subst hx
  unfold State.reportRise
  dsimp only
  split
  · next h => rw [hc.2 h]; rfl
  · next h => rw [Bool.eq_false_iff.2 (mt hc.1 h)]; rfl

/-- A basin's COMMIT installed, its low test made, and its rise reported. -/
theorem State.commitBasin_of_accepted {i : Fin 5} {y new : Basin} (h : (s.water.basins.get i).commitTest v = none)
    (hy : (s.water.basins.get i).committed v = y) (hn : { y with low := y.lowAfter } = new) :
    s.commitBasin i v = .inr { s with
      water := { s.water with basins := s.water.basins.put i new }
      notices := if y.low = false ∧ y.lowAfter = true then s.notices.marked .waterLow i.val else s.notices
      engine := { s.engine with
        asked := if new.state = .ready ∧ ((s.water.basins.get i).state ≠ .ready
            ∨ (s.water.basins.get i).available < new.available)
          then Table.fill 4 true else s.engine.asked } } := by
  have he : s.commitBasin i v = .inr (((s.mapBasin i fun b => b.committed v).lowTest i).reportRise i
      (s.water.basins.get i)) := by
    simp only [State.commitBasin, h]
    rfl
  have hm : (s.mapBasin i fun b => b.committed v)
      = { s with water := { s.water with basins := s.water.basins.put i y } } := by
    rw [← hy]
    rfl
  have hl : (s.mapBasin i fun b => b.committed v).lowTest i = { s with
      water := { s.water with basins := s.water.basins.put i new }
      notices := if y.low = false ∧ y.lowAfter = true then s.notices.marked .waterLow i.val else s.notices } := by
    rw [hm, State.lowTest_eq]
    simp only [Table.get_put, if_true, Table.put_put, hn]
  rw [he, hl, State.reportRise_eq (x := new)]
  exact (Table.get_put _ _ _ _).trans (if_pos rfl)

theorem State.commitSource_basin {x : Fin 6} {i : Fin 5} (h : x.val = i.val) :
    s.commitSource x v = s.commitBasin i v := by
  simp only [State.commitSource, asBasin_of_val h]

theorem State.commitSource_fresh : s.commitSource 5 v = .inr (s.mapFresh fun f =>
    { f with allowance := fieldValue v 1, revision := f.revision + 1 }) := rfl

/-! ## GRADE and MODEL (03 R46, 02 R37) -/

theorem State.commitGrade_of_refused {i : Fin 8} (h : ¬ (fieldValue v 1 < fieldValue v 2
    ∧ fieldValue v 2 < fieldValue v 3 ∧ fieldValue v 3 ≤ 140)) : s.commitGrade i v = .inl .range := if_neg h

/-- The state with a grade installed, before the re-evaluations of its piles. -/
def State.graded (s : State) (i : Fin 8) (v : List Nat) : State :=
  { s with
    watch := { s.watch with
      grades := s.watch.grades.put i (gradeFrom v ((s.watch.grades.get i).revision + 1)) } }

theorem State.commitGrade_of_accepted {i : Fin 8} (h : fieldValue v 1 < fieldValue v 2
    ∧ fieldValue v 2 < fieldValue v 3 ∧ fieldValue v 3 ≤ 140) :
    s.commitGrade i v = .inr ((s.graded i v).reevaluateWhere fun p => decide (p.grade = i)) := if_pos h

/-- The piles that `p` finds are re-evaluated in ascending index (03 R47, R60). -/
theorem State.reevaluateWhere_eq {p : Pile → Bool} {next : State → Fin 48 → State}
    (absent : ∀ t i, t.geometry.piles.get i = none → next t i = t)
    (other : ∀ t i x, t.geometry.piles.get i = some x → p x = false → next t i = t)
    (found : ∀ t i x, t.geometry.piles.get i = some x → p x = true → next t i = t.reevaluate i true) :
    s.reevaluateWhere p = (List.finRange 48).foldl next s := by
  refine foldl_of_step (fun t i => ?_) _ s
  cases h : t.geometry.piles.get i with
  | none => simp [absent t i h]
  | some x =>
    cases hp : p x with
    | true => simp [hp, found t i x h hp]
    | false => simp [hp, other t i x h hp]

theorem ascending_iff {t : Table 3 Nat} : ascending t = true ↔ t.get 0 < t.get 1 ∧ t.get 1 < t.get 2 := by
  simp [ascending]

theorem State.modelTest_iff (s : State) (v : List Nat) :
    (ascending (modelFrom v (s.watch.model.revision + 1)).speed
      && ascending (modelFrom v (s.watch.model.revision + 1)).humidity) = true ↔
    fieldValue v 1 < fieldValue v 2 ∧ fieldValue v 2 < fieldValue v 3 ∧ fieldValue v 4 < fieldValue v 5
      ∧ fieldValue v 5 < fieldValue v 6 := by
  rw [Bool.and_eq_true, ascending_iff, ascending_iff]
  simp [modelFrom, and_assoc]

theorem State.commitModel_of_refused (h : ¬ (fieldValue v 1 < fieldValue v 2 ∧ fieldValue v 2 < fieldValue v 3
    ∧ fieldValue v 4 < fieldValue v 5 ∧ fieldValue v 5 < fieldValue v 6)) : s.commitModel v = .inl .range :=
  if_neg (mt (s.modelTest_iff v).1 h)

theorem State.commitModel_of_accepted (h : fieldValue v 1 < fieldValue v 2 ∧ fieldValue v 2 < fieldValue v 3
    ∧ fieldValue v 4 < fieldValue v 5 ∧ fieldValue v 5 < fieldValue v 6) : s.commitModel v
      = .inr { s with watch := { s.watch with model := modelFrom v (s.watch.model.revision + 1) } } :=
  if_pos ((s.modelTest_iff v).2 h)

end

/-- Settles O17: the test of a MAIN COMMIT, the install, and the source that the mask no longer holds. -/
theorem commitMain : Obligations.CommitMain := by
  intro s buffer k b i x h hb hk hc hx hl hr hxd serves hserves
  have hr' : b.base = s.liveRevision b.cls b.index := by
    rw [hr, hc, hx]
    simp [State.liveRevision]
  have hi : s.installRecord b = s.commitMain i b.values := by
    simp only [State.installRecord, hc, hx, Fin.ofNat_val_eq_self]
  have hsm : x.sourceMask = flagsOf 6 (fieldValue b.values 1) := by rw [hxd]
  have hxc : x = (s.engine.mains.get i).committed b.values := hxd
  rw [← State.mainServes_iff] at hserves
  rw [← hx]
  refine ⟨fun hs hm => ?_, fun hn closes hcl => ?_⟩
  · exact exec_commit_of_refused h hb hk hl hr' (hi.trans (State.commitMain_of_engaged (hserves.1 hs) (hsm ▸ hm)))
  · refine ⟨x.closeUnmasked, _, ?_, rfl, fun hc => Main.closeUnmasked_of_closes (hcl.1 hc),
      fun hc => Main.closeUnmasked_of_not (mt hcl.2 hc)⟩
    rw [exec_commit_of_installed h hb hk hl hr' (hi.trans (State.commitMain_of_accepted
      (hn.imp (fun hs => mt hserves.2 hs) fun hm => hsm.symm.trans hm))), hxc]
    rfl

/-- Settles O18: the tests of a SOURCE COMMIT of a basin, what it installs, and that of the fresh supply. -/
theorem commitSource : Obligations.CommitSource := by
  intro s buffer k b h hb hk hc hl
  refine ⟨fun i hx hr old ho capacity floor hcap hfl => ?_, fun hx hr => ?_⟩
  · have hv : (Fin.ofNat 6 b.index).val = i.val := by
      rw [hx]
      exact Nat.mod_eq_of_lt (by omega)
    have hr' : b.base = s.liveRevision b.cls b.index := by
      rw [hr, hc]
      simp only [State.liveRevision, asBasin_of_val hv]
    have hi : s.installRecord b = s.commitBasin i b.values := by
      simp only [State.installRecord, hc, State.commitSource_basin hv]
    subst ho hcap hfl
    rw [← hx]
    refine ⟨fun ht => ?_, fun h1 h2 h3 => ?_⟩
    · exact exec_commit_of_refused h hb hk hl hr' (hi.trans (State.commitBasin_of_refused (Basin.commitTest_of_range ht)))
    · generalize hy : (s.water.basins.get i).committed b.values = y
      generalize hn : ({ y with low := y.lowAfter } : Basin) = new
      refine ⟨_, new, exec_commit_of_installed h hb hk hl hr' (hi.trans (State.commitBasin_of_accepted
        (Basin.commitTest_of_accepted h1 h2 h3) hy hn)), ?_, ?_, ?_, fun hlo hne => ?_, fun hlo => ?_, fun m => ?_⟩
      · rfl
      · rw [← hn, ← hy]
        rfl
      · have hnl : new.low = y.lowAfter := by rw [← hn]
        rw [hnl, Basin.lowAfter_iff, ← hy]
        rfl
      · have hyl : y.low = false := by rw [← hy]; exact hlo
        have hya : y.lowAfter = true := by rw [← hne, ← hn]
        rw [hx]
        exact if_pos ⟨hyl, hya⟩
      · refine if_neg fun hn' => ?_
        obtain ⟨hyl, hya⟩ := hn'
        rw [← hy] at hyl
        rw [← hn] at hlo
        rcases hlo with hlo | hlo
        · exact absurd (hlo.symm.trans hyl) (by simp)
        · exact absurd (hya.symm.trans hlo) (by simp)
      · show (ite _ _ _ : Table 4 Bool).get m = true ↔ _
        split
        · next hc => simp [hc]
        · next hc => simp [hc]
  · have hr' : b.base = s.liveRevision b.cls b.index := by
      rw [hr, hc, hx]
      rfl
    have hi : s.installRecord b = .inr (s.mapFresh fun f =>
        { f with allowance := fieldValue b.values 1, revision := f.revision + 1 }) := by
      simp only [State.installRecord, hc, hx]
      exact State.commitSource_fresh
    rw [exec_commit_of_installed h hb hk hl hr' hi, hx]
    rfl

/-- Settles O19: the tests of GRADE and MODEL, the re-evaluations of the piles of a grade, and the model installed. -/
theorem commitGradeAndModel : Obligations.CommitGradeAndModel := by
  intro s buffer k b h hb hk hl
  refine ⟨fun i hc hx hr ok hok => ?_, fun hc hx hr ok hok => ?_⟩
  · have hr' : b.base = s.liveRevision b.cls b.index := by
      rw [hr, hc, hx]
      simp [State.liveRevision]
    have hi : s.installRecord b = s.commitGrade i b.values := by
      simp only [State.installRecord, hc, hx, Fin.ofNat_val_eq_self]
    rw [hok, ← hx]
    refine ⟨fun hn => ?_, fun ha => ?_⟩
    · exact exec_commit_of_refused h hb hk hl hr' (hi.trans (State.commitGrade_of_refused hn))
    · refine ⟨_, exec_commit_of_installed h hb hk hl hr' (hi.trans (State.commitGrade_of_accepted ha)), ?_⟩
      generalize hI : (s.graded i b.values).reevaluateWhere (fun p => decide (p.grade = i)) = I
      have hIf : I.frame = (s.graded i b.values).frame := hI ▸ State.reevaluateWhere_frame _ _
      generalize ht : (I.setBuffer k none).commandEnd Code.commit (some (.done, BitVec.ofNat 8 b.index)) = t
      obtain ⟨hport, hframe⟩ := State.commitEnd_frame _ k _ ht.symm
      have hpo : I.port = s.port := congrArg Frame.port hIf
      have hst : I.staging = s.staging := congrArg Frame.staging hIf
      rw [hIf, hst] at hframe
      refine ⟨by rw [hport, hpo], hframe, fun next hnone hother hfound u hu => ?_⟩
      have huI : u = I := by
        rw [hu, ← hI]
        exact (State.reevaluateWhere_eq hnone (fun t j p hp hg => hother t j p hp (by simpa using hg))
          fun t j p hp hg => hfound t j p hp (by simpa using hg)).symm
      rw [huI, ← ht, ← hst]
      rfl
  · have hr' : b.base = s.liveRevision b.cls b.index := by
      rw [hr, hc]
      rfl
    have hi : s.installRecord b = s.commitModel b.values := by
      simp only [State.installRecord, hc]
    rw [hok]
    refine ⟨fun hn => ?_, fun ha => ?_⟩
    · have he := exec_commit_of_refused h hb hk hl hr' (hi.trans (State.commitModel_of_refused hn))
      rw [hx] at he
      exact he
    · have he := exec_commit_of_installed h hb hk hl hr' (hi.trans (State.commitModel_of_accepted ha))
      rw [hx] at he
      exact he

end Sys2Proof.Machine

/-! PROOFS. COMMIT of the yard record (O20). -/

namespace Sys2Proof.Machine

section

variable {s t : State} {i j : Line} {x : InputLine}

/-! ## The input lines -/

theorem Lines.get_put (l : Lines) (i j : Line) (x : InputLine) :
    (l.put i x).get j = if i = j then x else l.get j := by
  cases i <;> cases j <;> simp [Lines.put, Lines.get, Table.get_put]

theorem Lines.get_put_self (l : Lines) (i : Line) (x : InputLine) : (l.put i x).get i = x := by
  rw [Lines.get_put, if_pos rfl]

/-! ## A delivery (07 R135) -/

/-- Of the frame, only what a delivery may set has changed: the gust figure, the flags and the mode. -/
def Handed (s t : State) : Prop :=
  t.frame = { s.frame with
    blocked := t.engine.blocked, gust := t.engine.gust, gustLine := t.engine.gustLine, mode := t.control.mode }

theorem Handed.of_frame {f : Frame} (h : t.frame = f)
    (hf : f = { s.frame with blocked := f.blocked, gust := f.gust, gustLine := f.gustLine, mode := f.mode }) :
    Handed s t := by
  subst h
  exact hf

theorem Handed.of_frame_eq (h : t.frame = s.frame) : Handed s t := .of_frame h rfl

theorem Handed.trans_frame {u : State} (h : Handed s t) (hu : u.frame = t.frame) : Handed s u := by
  refine .of_frame (hu.trans h) rfl

theorem State.driftReevaluate_handed (s : State) : Handed s s.driftReevaluate :=
  .of_frame s.driftReevaluate_frame rfl

theorem State.frostHold_handed (s : State) : Handed s s.frostHold := by
  unfold State.frostHold
  split
  · exact .of_frame ((State.raise_frame _ _ _).trans s.holdYard_frame) rfl
  · exact .of_frame_eq rfl

/-- The owner of a line takes its change. -/
def State.handTo (s : State) (active : Bool) : Line → State
  | .machine b => s.machineChanged b active
  | .gust => s.driftReevaluate
  | .rain => s
  | .frost => if active then s.frostHold else s
  | .flow m => if active then s.confirmFlow m else s.loseFlow m

theorem State.handTo_handed (s : State) (active : Bool) (i : Line) : Handed s (s.handTo active i) := by
  cases i with
  | machine b => exact .of_frame_eq (s.machineChanged_frame b active)
  | gust => exact s.driftReevaluate_handed
  | rain => exact .of_frame_eq rfl
  | frost =>
    cases active with
    | false => exact .of_frame_eq rfl
    | true => exact s.frostHold_handed
  | flow m =>
    cases active with
    | false => exact .of_frame_eq (s.loseFlow_frame m)
    | true => exact .of_frame_eq (s.confirmFlow_frame m)

/-- A delivery as the line set, its owner's work, and the attempts. -/
theorem State.deliver_eq {m : State} (s : State) (i : Line) (active : Bool)
    (hm : m = s.mapLine i fun l => { l with filtered := active }) :
    s.deliver i active = (m.handTo active i).runAttempts none := by
  subst hm
  cases i <;> rfl

/-- What a delivery leaves of the frame: the line, and the gust figure, the flags and the mode that it may set. -/
theorem State.deliver_frame (s : State) (i : Line) (active : Bool) (ht : t = s.deliver i active) :
    t.frame = { s.frame with
      lines := s.field.lines.put i { s.field.lines.get i with filtered := active }
      blocked := t.engine.blocked, gust := t.engine.gust, gustLine := t.engine.gustLine
      mode := t.control.mode } := by
  generalize hm : (s.mapLine i fun l => { l with filtered := active }) = m
  have hmf : m.frame = { s.frame with
      lines := s.field.lines.put i { s.field.lines.get i with filtered := active } } := by rw [← hm]; rfl
  have hd : Handed m t := by
    rw [ht, State.deliver_eq s i active hm.symm]
    exact (m.handTo_handed active i).trans_frame (State.runAttempts_frame _ _)
  unfold Handed at hd
  rw [hmf] at hd
  exact hd

/-! ## A line's settings changed (07 R137) -/

/-- A line after its settings are given. -/
def InputLine.given (x : InputLine) (high : Bool) (filter : FilterTime) : InputLine :=
  if x.activeHigh = high ∧ x.filter = filter then x
  else { x with
    activeHigh := high, filter, qualify := none
    retake := if filter = .zero then none else some filter.units
    filtered := if filter = .zero then (x.raw == high) else x.filtered }

variable {high : Bool} {filter : FilterTime}

theorem InputLine.given_of_same (h : x.activeHigh = high ∧ x.filter = filter) : x.given high filter = x := if_pos h

theorem InputLine.given_of_filter (h : x.activeHigh ≠ high ∨ x.filter ≠ filter) (hf : filter ≠ .zero) :
    x.given high filter
      = { x with activeHigh := high, filter, qualify := none, retake := some filter.units } := by
  rw [InputLine.given, if_neg (not_and_or.2 h), if_neg hf, if_neg hf]

theorem InputLine.given_of_zero (h : x.activeHigh ≠ high ∨ x.filter ≠ filter) (hf : filter = .zero) :
    x.given high filter
      = { x with activeHigh := high, filter, qualify := none, retake := none, filtered := (x.raw == high) } := by
  rw [InputLine.given, if_neg (not_and_or.2 h), if_pos hf, if_pos hf]

/-- The line's new settings stand, with its timers stopped or begun. -/
def State.withSettings (s : State) (i : Line) (high : Bool) (filter : FilterTime) (retake : Option Nat) : State :=
  { s with
    field := { s.field with
      lines := s.field.lines.put i { s.field.lines.get i with
        activeHigh := high, filter, qualify := none, retake } } }

theorem State.changeSettings_of_same (h : (s.field.lines.get i).activeHigh = high ∧ (s.field.lines.get i).filter = filter) :
    s.changeSettings i high filter = s := if_pos h

theorem State.changeSettings_of_filter
    (h : (s.field.lines.get i).activeHigh ≠ high ∨ (s.field.lines.get i).filter ≠ filter) (hf : filter ≠ .zero) :
    s.changeSettings i high filter = s.withSettings i high filter (some filter.units) := by
  unfold State.changeSettings
  dsimp only
  rw [if_neg (not_and_or.2 h), if_neg hf, if_neg hf]
  rfl

/-- A re-take of filter time 0 takes the state that the line reads at once (07 R137). -/
theorem State.changeSettings_of_zero {u : State} {reads : Bool}
    (h : (s.field.lines.get i).activeHigh ≠ high ∨ (s.field.lines.get i).filter ≠ filter) (hf : filter = .zero)
    (hu : u = s.withSettings i high filter none) (hr : reads = ((s.field.lines.get i).raw == high)) :
    (reads = (s.field.lines.get i).filtered → s.changeSettings i high filter = u)
      ∧ (reads ≠ (s.field.lines.get i).filtered → s.changeSettings i high filter = u.deliver i reads) := by
  have he : s.changeSettings i high filter = u.takeLine i := by
    rw [hu]
    unfold State.changeSettings
    dsimp only
    rw [if_neg (not_and_or.2 h), if_pos hf, if_pos hf]
    rfl
  have hl : u.field.lines.get i = { s.field.lines.get i with
      activeHigh := high, filter, qualify := none, retake := none } := by
    rw [hu]
    exact Lines.get_put_self _ _ _
  have hrd : (u.field.lines.get i).reads = reads := by rw [hl, hr]; rfl
  have hfl : (u.field.lines.get i).filtered = (s.field.lines.get i).filtered := by rw [hl]
  rw [he, State.takeLine]
  rw [hrd, hfl]
  exact ⟨fun h => if_pos h, fun h => if_neg h⟩

/-- What the install of the yard's settings leaves of the frame: the lines, and what a delivery may set. -/
def SettingsFrame (s t : State) : Prop :=
  t.frame = { s.frame with
    lines := t.field.lines, blocked := t.engine.blocked, gust := t.engine.gust, gustLine := t.engine.gustLine
    mode := t.control.mode }

theorem SettingsFrame.refl (s : State) : SettingsFrame s s := rfl

theorem SettingsFrame.trans {u : State} (h : SettingsFrame s t) (h' : SettingsFrame t u) : SettingsFrame s u := by
  unfold SettingsFrame at h h' ⊢
  rw [h', h]

/-- A change of settings writes its own line, and through a delivery alone more of the frame. -/
theorem State.changeSettings_line (s : State) (i : Line) (high : Bool) (filter : FilterTime) :
    (∀ j, (s.changeSettings i high filter).field.lines.get j
      = if i = j then (s.field.lines.get i).given high filter else s.field.lines.get j)
    ∧ SettingsFrame s (s.changeSettings i high filter) := by
  by_cases h : (s.field.lines.get i).activeHigh = high ∧ (s.field.lines.get i).filter = filter
  · rw [State.changeSettings_of_same h, InputLine.given_of_same h]
    refine ⟨fun j => ?_, .refl s⟩
    split
    · next hj => rw [hj]
    · rfl
  · rw [not_and_or] at h
    by_cases hf : filter = .zero
    · obtain ⟨hs, hd⟩ := State.changeSettings_of_zero h hf rfl rfl
      have hg := InputLine.given_of_zero h hf
      by_cases hr : ((s.field.lines.get i).raw == high) = (s.field.lines.get i).filtered
      · rw [hs hr, hg, hr]
        exact ⟨fun j => Lines.get_put _ _ _ _, rfl⟩
      · rw [hd hr, hg]
        have hfr := State.deliver_frame (s.withSettings i high filter none) i ((s.field.lines.get i).raw == high) rfl
        generalize (s.withSettings i high filter none).deliver i ((s.field.lines.get i).raw == high) = t at hfr
        have hl : t.field.lines = _ := congrArg Frame.lines hfr
        have hw : (s.withSettings i high filter none).field.lines = s.field.lines.put i { s.field.lines.get i with
          activeHigh := high, filter, qualify := none, retake := none } := rfl
        refine ⟨fun j => ?_, ?_⟩
        · rw [hl, hw, Lines.get_put_self, Lines.get_put, Lines.get_put]
          split <;> rfl
        · unfold SettingsFrame
          rw [hl]
          exact hfr
    · rw [State.changeSettings_of_filter h hf, InputLine.given_of_filter h hf]
      exact ⟨fun j => Lines.get_put _ _ _ _, rfl⟩

/-- A walk over lines, each of whose steps writes its own line. -/
theorem State.forEach_lines {α : Type} (key : α → Line) {f : State → α → State} {g : α → InputLine → InputLine}
    (hf : ∀ t a j, (f t a).field.lines.get j
      = if key a = j then g a (t.field.lines.get (key a)) else t.field.lines.get j)
    {l : List α} (hl : (l.map key).Nodup) (s : State) :
    (∀ j, j ∉ l.map key → (s.forEach l f).field.lines.get j = s.field.lines.get j)
    ∧ ∀ a ∈ l, (s.forEach l f).field.lines.get (key a) = g a (s.field.lines.get (key a)) := by
  unfold State.forEach
  induction l generalizing s with
  | nil => simp
  | cons b l ih =>
    rw [List.map_cons, List.nodup_cons] at hl
    obtain ⟨hout, hin⟩ := ih hl.2 (f s b)
    refine ⟨fun j hj => ?_, fun a ha => ?_⟩
    · rw [List.map_cons, List.mem_cons, not_or] at hj
      rw [List.foldl_cons, hout j hj.2, hf, if_neg (Ne.symm hj.1)]
    · rw [List.foldl_cons]
      rcases List.mem_cons.1 ha with rfl | ha
      · rw [hout _ hl.1, hf, if_pos rfl]
      · rw [hin a ha, hf, if_neg]
        exact fun h => hl.1 (h ▸ List.mem_map_of_mem ha)

/-! ## The settings of the yard record (07 R136) -/

/-- The lines of the record with their places. -/
theorem allLines_zipIdx : allLines.zipIdx = (List.finRange 15).map fun n => (allLines.getD n.val .gust, n.val) := by
  decide

theorem allLines_nodup : ((List.finRange 15).map fun n => allLines.getD n.val .gust).Nodup := by decide

/-- One line of the record settled. -/
def State.settleLine (v : List Nat) (t : State) (n : Fin 15) : State :=
  t.changeSettings (allLines.getD n.val .gust) (lineSettings v n.val).1 (lineSettings v n.val).2

theorem State.settleLines_eq (s : State) (v : List Nat) :
    s.settleLines v = s.forEach (List.finRange 15) (State.settleLine v) := by
  unfold State.settleLines State.forEach
  rw [allLines_zipIdx, List.foldl_map]
  rfl

theorem State.settleLines_line (s : State) (v : List Nat) {n : Fin 15} (hn : allLines[n.val]? = some i) :
    (s.settleLines v).field.lines.get i
      = (s.field.lines.get i).given (lineSettings v n.val).1 (lineSettings v n.val).2 := by
  have hi : allLines.getD n.val .gust = i := by rw [List.getD_eq_getElem?_getD, hn, Option.getD_some]
  have h := (State.forEach_lines (fun n : Fin 15 => allLines.getD n.val .gust) (f := State.settleLine v)
    (g := fun n x => x.given (lineSettings v n.val).1 (lineSettings v n.val).2)
    (fun t n j => (t.changeSettings_line _ _ _).1 j) allLines_nodup s).2 n (List.mem_finRange n)
  rw [hi] at h
  rw [State.settleLines_eq, h]

theorem State.settleLines_frame (s : State) (v : List Nat) : SettingsFrame s (s.settleLines v) := by
  rw [State.settleLines_eq]
  exact s.forEach_inv (SettingsFrame s) _ _ (fun t n _ ht => ht.trans (t.changeSettings_line _ _ _).2) (.refl s)

theorem State.installYard_frame (s : State) (v : List Nat) : (s.installYard v).frame = { s.frame with
    enables := flagsOf 9 (fieldValue v 5)
    urgentMode := if fieldValue v 6 = 0 then .each else .count
    urgentThreshold := fieldValue v 7
    yardRevision := s.control.revision + 1 } := rfl

end

/-- Settles O20: what an accepted YARD leaves, line by line, and the walk of its re-takes. -/
theorem commitYard : Obligations.CommitYard := by
  intro s buffer k b h hb hk hc hx hl hr
  have hr' : b.base = s.liveRevision b.cls b.index := by
    rw [hr, hc]
    rfl
  have hi : s.installRecord b = .inr ((s.installYard b.values).follow.settleLines b.values) := by
    simp only [State.installRecord, hc, State.commitYard_eq]
  refine ⟨_, exec_commit_of_installed h hb hk hl hr' hi, ?_⟩
  have hz : BitVec.ofNat 8 b.index = 0 := by rw [hx]; rfl
  generalize hy : (s.installYard b.values).follow = y
  have hyf : y.frame = (s.installYard b.values).frame := hy ▸ State.follow_frame _
  rw [State.installYard_frame] at hyf
  have hset := y.settleLines_frame b.values
  have hline := fun (n : Fin 15) (i : Line) (hn : allLines[n.val]? = some i) => y.settleLines_line b.values hn
  have hwalk := y.settleLines_eq b.values
  generalize y.settleLines b.values = I at hset hline hwalk
  unfold SettingsFrame at hset
  rw [hyf] at hset
  generalize ht : (I.setBuffer k none).commandEnd Code.commit (some (.done, BitVec.ofNat 8 b.index)) = t
  obtain ⟨hport, hframe⟩ := State.commitEnd_frame _ k _ ht.symm
  rw [hset] at hframe
  have hpo : I.port = s.port := congrArg Frame.port hset
  have hst : I.staging = s.staging := congrArg Frame.staging hset
  have hyl : y.field.lines = s.field.lines := congrArg Frame.lines hyf
  have htl : t.field.lines = I.field.lines := congrArg Frame.lines hframe
  have hen : t.notices.enables = flagsOf 9 (fieldValue b.values 5) := congrArg Frame.enables hframe
  have hum : t.notices.urgentMode = if fieldValue b.values 6 = 0 then .each else .count :=
    congrArg Frame.urgentMode hframe
  have hut : t.notices.urgentThreshold = fieldValue b.values 7 := congrArg Frame.urgentThreshold hframe
  refine ⟨by rw [hport, hpo, hz], ?_, congrArg Frame.yardRevision hframe, fun n => ?_, hum, hut,
    fun n i x z level filter hn hxe hze hle hfe => ?_⟩
  · rw [← hst]
    exact congrArg Frame.staging hframe
  · rw [hen]
    exact Table.get_tab _ _
  · rw [htl, hline n i hn, hyl, ← hxe] at hze
    subst hle hfe
    rw [hze]
    refine ⟨fun hs => InputLine.given_of_same hs, fun hs hf => InputLine.given_of_filter hs hf,
      fun hs hf => InputLine.given_of_zero hs hf, fun next level filter v hle hfe hnext hv => ?_⟩
    have hvi : v = s.installYard b.values := by
      rw [hv, hen, hum, hut]
      rfl
    have hstep : ∀ t n, State.settleLine b.values t n = next t n := by
      intro w n
      have hn : allLines[n.val]? = some (allLines.getD n.val .gust) := by
        rw [List.getD_eq_getElem?_getD]
        obtain ⟨i, hi⟩ := Option.isSome_iff_exists.1
          (show allLines[n.val]?.isSome = true from by simp [allLines])
        rw [hi, Option.getD_some]
      obtain ⟨hsame, hfilter, hzero⟩ := hnext w n _ _ hn rfl
      have hlevel : (lineSettings b.values n.val).1 = level n := (hle n).symm
      have hfil : (lineSettings b.values n.val).2 = filter n := (hfe n).symm
      unfold State.settleLine
      rw [hlevel, hfil]
      generalize allLines.getD n.val .gust = i at hsame hfilter hzero ⊢
      by_cases hs : (w.field.lines.get i).activeHigh = level n ∧ (w.field.lines.get i).filter = filter n
      · rw [hsame hs, State.changeSettings_of_same hs]
      · rw [not_and_or] at hs
        by_cases hf : filter n = .zero
        · obtain ⟨h1, h2⟩ := State.changeSettings_of_zero hs hf rfl rfl
          obtain ⟨h3, h4⟩ := hzero hs hf _ rfl
          by_cases hrd : ((w.field.lines.get i).raw == level n) = (w.field.lines.get i).filtered
          · rw [h1 hrd, h3 hrd]
            rfl
          · rw [h2 hrd, h4 hrd]
            rfl
        · rw [hfilter hs hf, State.changeSettings_of_filter hs hf]
          rfl
    have hI : (List.finRange 15).foldl next { v with
        field := { v.field with
          pins := v.pinsFollowed, made := v.field.made ++ pinChanges v.field.pins v.pinsFollowed } } = I := by
      rw [hwalk, ← hy, hvi]
      exact (foldl_of_step hstep _ _).symm
    rw [hI, ← ht, hz, ← hst]
    rfl

end Sys2Proof.Machine

/-! PROOFS. RETIRE of a pile, a cannon or an exclusion (O21). -/

namespace Sys2Proof.Machine

section

variable {s t : State} {i j : Fin 48}

theorem State.geometry_of_frame (h : t.frame = s.frame) : t.geometry = s.geometry := congrArg Frame.geometry h

/-- The frame after a command that answers. -/
theorem State.commandEnd_frame_eq {code : Byte} {r : Result} {x : Byte} (ht : t = s.commandEnd code (some (r, x))) :
    t.frame = { s.frame with
      port := { s.port with
        command := code, result := r, index := x, dataOut := [], transaction := .idle, selectLeft := 30 }
      log := t.field.log } := by
  have hport := s.commandEnd_port_eq code r x
  have hframe := s.commandEnd_frame code (some (r, x))
  rw [← ht] at hport hframe
  have hq : t.port = _ := congrArg Frame.port hframe
  rw [hframe, ← hport, hq]

/-! ## A pile that is gone stays gone through ends and attempts -/

/-- A pile has no order and a blank living part. -/
def State.Bare (i : Fin 48) (s : State) : Prop := s.hasOrder i = false ∧ s.watch.living.get i = Living.blank

theorem State.Bare.of_yard (hs : s.Bare i) (h : t.yard = s.yard) : t.Bare i := by
  have hq : t.queue = s.queue := congrArg Yard.queue h
  have hl : t.watch.living = s.watch.living := congrArg Yard.living h
  unfold State.Bare State.hasOrder at *
  rw [hq, hl]
  exact hs

theorem State.Bare.of_orders (hs : s.Bare i) (h : s.OrdersOnly j t) (hj : j ≠ i)
    (hl : t.watch.living.get i = s.watch.living.get i) : t.Bare i := by
  refine ⟨?_, hl.trans hs.2⟩
  by_contra hn
  rcases h.order i (by simpa using hn) with h | h
  · exact absurd (h.symm.trans hs.1) (by simp)
  · exact hj h.symm

theorem State.mapLiving_living_of_ne (f : Living → Living) (hj : j ≠ i) :
    (s.mapLiving j f).watch.living.get i = s.watch.living.get i := by
  rw [State.mapLiving_watch_living, Table.get_modify, if_neg hj]

theorem State.Bare.mapLiving (hs : s.Bare i) (f : Living → Living) (hj : j ≠ i) : (s.mapLiving j f).Bare i :=
  ⟨hs.1, (State.mapLiving_living_of_ne f hj).trans hs.2⟩

theorem State.Bare.dropOrder (hs : s.Bare i) (hj : j ≠ i) : (s.dropOrder j).Bare i :=
  hs.of_orders (State.dropOrder_ordersOnly j) hj (State.mapLiving_living_of_ne (s := s.setQueue _) _ hj)

theorem State.Bare.updateOrder (hs : s.Bare i) (o : Order) (f : Order → Order) (hj : j ≠ i) :
    (s.updateOrder o f).Bare i := by
  refine hs.of_orders (j := j) (State.updateOrder_ordersOnly o f) hj ?_
  unfold State.updateOrder State.askAllIf
  split <;> rfl

theorem State.Bare.appendOrder (hs : s.Bare i) {o : Order} (hj : o.pile ≠ i) : (s.appendOrder o).Bare i :=
  hs.of_orders (State.appendOrder_ordersOnly o) hj (State.mapLiving_living_of_ne (s := s.setQueue _) _ hj)

/-- The order that makes room is of a pile that has one. -/
theorem State.Bare.join (hs : s.Bare i) {o : Order} (hj : o.pile ≠ i) (h : s.join o = some t) : t.Bare i := by
  unfold State.join at h
  split at h
  · rw [← Option.some.inj h]
    exact hs.appendOrder hj
  · split at h
    · next d hd =>
      have hne : d.pile ≠ i := by
        intro he
        have ho : s.hasOrder i = true := State.hasOrder_iff.2 ⟨d, (State.displaceable_spec hd).1, he⟩
        exact absurd (ho.symm.trans hs.1) (by simp)
      rw [← Option.some.inj h]
      exact ((hs.dropOrder hne).mapLiving _ hne).appendOrder hj
    · exact absurd h (by simp)

theorem State.Bare.offer (hs : s.Bare i) (hj : j ≠ i) (u : Urgency) : (s.offer j u).Bare i := by
  unfold State.offer
  split
  · exact hs.updateOrder _ _ hj
  · split
    · exact hs
    · split
      · exact hs.dropOrder hj
      · exact hs.updateOrder _ _ hj
  · exact hs
  · split
    · next h => exact hs.join (o := s.newOrder j _ none none) hj h
    · exact hs.mapLiving _ hj

theorem State.Bare.offerRule (hs : s.Bare i) (hj : j ≠ i) : (s.offerRule j).Bare i := by
  unfold State.offerRule
  split
  · exact hs
  · split
    · exact hs.offer hj _
    · exact hs.offer hj _
    · exact hs
    · exact hs

theorem State.Bare.evaluate (hs : s.Bare i) (hj : j ≠ i) (w : WindBasis) (counts offers : Bool) :
    (s.evaluate j w counts offers).Bare i := by
  cases hp : s.geometry.piles.get j with
  | none => rwa [State.evaluate_of_absent hp]
  | some p =>
    have he : (s.evaluatedAt j p w counts).Bare i := by
      refine ⟨?_, ?_⟩
      · have hq := s.evaluatedAt_queue j p w counts
        unfold State.hasOrder
        rw [hq]
        exact hs.1
      · unfold State.evaluatedAt
        rw [State.countMust_living, State.reportGap_watch, State.mapLiving_living_of_ne _ hj]
        exact hs.2
    rw [State.evaluate_of_present hp]
    cases offers
    · exact he
    · exact he.offerRule hj

theorem State.Bare.sweepTest (hs : s.Bare i) (hi : s.geometry.piles.get i = none) (bed : Fin 8) (k : Fin 48) :
    (s.sweepTest bed k).Bare i := by
  have h : (s.sweepTest bed k).geometry = s.geometry ∧ (s.sweepTest bed k).Bare i := by
    refine s.forEach_inv (fun t => t.geometry = s.geometry ∧ t.Bare i) _ _ (fun t j _ ht => ?_) ⟨rfl, hs⟩
    split
    · next p hp =>
      have hj : j ≠ i := by
        rintro rfl
        rw [ht.1, hi] at hp
        exact absurd hp (by simp)
      split
      · refine ⟨(congrArg Frame.geometry (State.markSweepDue_frame t j)).trans ht.1, ?_⟩
        exact (ht.2.mapLiving _ hj).offerRule hj
      · exact ht
    · exact ht
  exact h.2

/-- The report of a pass end on an absent pile is dropped, and any other leaves the pile alone. -/
theorem State.Bare.takeEndReport (hs : s.Bare i) (hi : s.geometry.piles.get i = none) (r : EndReport)
    (offers : Bool) : (s.takeEndReport r offers).Bare i := by
  unfold State.takeEndReport
  split
  · exact hs
  · next p hp =>
    have hj : r.pile ≠ i := by
      intro he
      rw [he, hi] at hp
      exact absurd hp (by simp)
    dsimp only
    have hm := hs.mapLiving (fun l => { l with wetting := some (s.wettingOf r), engaged := false }) hj
    split
    · have hc : (State.creditPass (s.mapLiving r.pile fun l =>
          { l with wetting := some (s.wettingOf r), engaged := false }) r p.bed).Bare i :=
        hm.mapLiving _ hj
      exact (hc.sweepTest hi _ _).evaluate hj _ _ _
    · exact hm.evaluate hj _ _ _

/-- The pile is absent, with no order and a blank living part. -/
def State.Gone (i : Fin 48) (s : State) : Prop := s.geometry.piles.get i = none ∧ s.Bare i

theorem State.Gone.of_yard (hs : s.Gone i) (h : t.yard = s.yard) : t.Gone i := by
  refine ⟨?_, hs.2.of_yard h⟩
  rw [show t.geometry.piles = s.geometry.piles from congrArg Yard.piles h]
  exact hs.1

theorem State.Gone.endPass (hs : s.Gone i) (x : Option (Fin 5)) (c : Fin 8) (e : PassEnd) (offers : Bool) :
    (s.endPass x c e offers).Gone i := by
  refine ⟨?_, ?_⟩
  · rw [State.geometry_of_frame (s.endPass_frame x c e offers)]
    exact hs.1
  · cases h : s.engine.contexts.get c with
    | none => rw [State.endPass_of_free h]; exact hs.2
    | some p =>
      rw [State.endPass_of_live h]
      have ht : (((s.settle x p (p.finalDelivered e)).mainAfterEnd p e).setContext c none).Gone i :=
        hs.of_yard (by simp)
      exact (ht.2.takeEndReport ht.1 (p.report e (p.finalDelivered e)) offers).of_yard (by simp)

theorem State.Gone.prime (hs : s.Gone i) (x : Option (Fin 5)) (c : Fin 8) (p : Pass) : (s.prime x c p).Gone i := by
  cases h : s.flowActive p.main with
  | true =>
    rw [State.prime_of_flow h]
    exact State.Gone.endPass (hs.of_yard (by simp)) x c _ true
  | false =>
    rw [State.prime_of_quiet h]
    exact hs.of_yard (by simp)

/-- A request takes the order of a present pile. -/
theorem State.Gone.requestAndStart (hs : s.Gone i) (x : Option (Fin 5)) (m : Fin 4) (c : Fin 8) :
    (s.requestAndStart x m c).Gone i := by
  have hr : (s.recordReasons m).Gone i := by
    refine ⟨?_, ?_, ?_⟩
    · rw [State.geometry_of_frame (s.recordReasons_frame m)]
      exact hs.1
    · rw [State.recordReasons_hasOrder]
      exact hs.2.1
    · rw [State.recordReasons_living]
      exact hs.2.2
  obtain h | ⟨k, y, a, -, -, hy, -, h⟩ := s.requestAndStart_spec x m c
  · rw [h]
    exact hr
  · have hne : k.order.pile ≠ i := by
      intro he
      rw [he, hs.1] at hy
      exact absurd hy (by simp)
    have ht : ((s.recordReasons m).takeOrder k.order.pile).Gone i := by
      refine ⟨?_, (hr.2.dropOrder hne).mapLiving _ hne⟩
      rw [State.geometry_of_frame (State.takeOrder_frame _ _)]
      exact hr.1
    rw [h]
    exact State.Gone.prime (ht.of_yard (by simp)) x c _

theorem State.gone_attempts (x : Option (Fin 5)) (i : Fin 48) : KeptByAttempts x (State.Gone i) where
  core s := ⟨fun h => State.Gone.of_yard (s := s.core) h rfl, fun h => State.Gone.of_yard (s := s) h rfl⟩
  endPass _ c e _ hs := hs.endPass x c e true
  resume _ c _ _ _ _ hs := hs.prime x c _
  request _ m c _ _ hs := hs.requestAndStart x m c

/-! ## The tests of RETIRE (08 R160) -/

variable {cls index : Byte}

theorem classOf_pile : classOf 2 = some .pile := rfl

theorem classOf_cannon : classOf 5 = some .cannon := rfl

theorem classOf_exclusion : classOf 6 = some .exclusion := rfl

theorem RecordClass.retirable_iff (k : RecordClass) :
    k.retirable = true ↔ k ∈ [RecordClass.pile, .cannon, .exclusion, .slot, .observation] := by
  cases k <;> simp [RecordClass.retirable]

theorem State.retire_of_other (index : Byte)
    (h : ∀ k, classOf cls = some k → k ∉ [RecordClass.pile, .cannon, .exclusion, .slot, .observation]) :
    s.retire cls index = (s, some (.range, 0)) := by
  cases hk : classOf cls with
  | none => rw [State.retire, hk]
  | some k =>
    refine s.retire_of_not_retirable index hk ?_
    rw [← Bool.not_eq_true, k.retirable_iff]
    exact h k hk

theorem State.retireRecord_pile (hp : index.toNat = i.val) : s.retireRecord .pile index.toNat =
    if (s.geometry.piles.get i).isSome then .inr (s.retirePile i) else .inl .noSuch := by
  rw [hp, State.retireRecord, Fin.ofNat_val_eq_self]

theorem State.retireRecord_cannon {i : Fin 24} (hp : index.toNat = i.val) : s.retireRecord .cannon index.toNat =
    if (s.geometry.cannons.get i).isSome then s.retireCannon i else .inl .noSuch := by
  rw [hp, State.retireRecord, Fin.ofNat_val_eq_self]

theorem State.retireRecord_exclusion {i : Fin 16} (hp : index.toNat = i.val) :
    s.retireRecord .exclusion index.toNat =
      if (s.geometry.exclusions.get i).isSome then s.retireExclusion i else .inl .noSuch := by
  rw [hp, State.retireRecord, Fin.ofNat_val_eq_self]

/-- RETIRE of a record that its class refuses. -/
theorem exec_retire_of_refused {k : RecordClass} {n : Nat} {r : Result} (h : s.Accepts) (hc : classOf cls = some k)
    (hk : k.retirable = true) (hi : index.toNat = n) (hn : n < k.size)
    (hr : s.retireRecord k index.toNat = .inl r) :
    exec (.retire cls index) s = .next (s.commandEnd Code.retire (some (r, index))) :=
  exec_retire_eq h (State.retire_of_refused hc hk (hi ▸ hn) hr)

/-- RETIRE of a record that its class retires. -/
theorem exec_retire_of_retired {k : RecordClass} {n : Nat} (h : s.Accepts) (hc : classOf cls = some k)
    (hk : k.retirable = true) (hi : index.toNat = n) (hn : n < k.size)
    (hr : s.retireRecord k index.toNat = .inr t) :
    exec (.retire cls index) s = .next (t.commandEnd Code.retire (some (.done, index))) :=
  exec_retire_eq h (State.retire_of_retired hc hk (hi ▸ hn) hr)

/-! ## The pile retired (01 R9) -/

/-- The buffers staged from a record that leaves are Base lost (08 R160). -/
def State.lostBases (s : State) (cls : RecordClass) (i : Nat) : Table 2 (Option Staged) :=
  Table.tab fun k => (s.staging.get k).map fun b =>
    if b.cls = cls ∧ b.index = i ∧ b.base.isSome = true then { b with lost := true } else b

/-- The state without the pile's order, part and position, from the state after its pass has ended. -/
def State.cleared (u : State) (i : Fin 48) : State :=
  { u with
    staging := u.lostBases .pile i.val
    geometry := { u.geometry with piles := u.geometry.piles.put i none, index := u.geometry.unindexed i }
    queue := u.queue.filter fun o => o.pile != i
    watch := { u.watch with
      living := u.watch.living.put i Living.blank
      mustCount := if (u.watch.living.get i).urgency = .must then u.watch.mustCount - 1 else u.watch.mustCount } }

theorem State.removeOrder_eq (s : State) (i : Fin 48) : s.removeOrder i = { s with
    queue := s.queue.filter fun o => o.pile != i
    watch := { s.watch with
      living := if s.hasOrder i then s.watch.living.put i { s.watch.living.get i with carried := false }
        else s.watch.living } } := by
  unfold State.removeOrder
  cases h : s.hasOrder i with
  | true => rfl
  | false =>
    have hq : s.queue.filter (fun o => o.pile != i) = s.queue := by
      refine List.filter_eq_self.2 fun o ho => ?_
      have hne : o.pile ≠ i := fun he => by
        have := State.hasOrder_iff.2 ⟨o, ho, he⟩
        exact absurd (this.symm.trans h) (by simp)
      simpa using hne
    simp [hq]

/-- The MUST count without a pile (03 R56). -/
theorem State.discardMust_eq (s : State) (i : Fin 48) : s.discardMust i = { s with
    watch := { s.watch with
      mustCount := if (s.watch.living.get i).urgency = .must then s.watch.mustCount - 1
        else s.watch.mustCount } } := by
  unfold State.discardMust State.countMust
  rw [if_neg (by simp)]
  by_cases h : (s.watch.living.get i).urgency = .must
  · rw [if_pos ⟨h, by simp⟩, if_pos h]
  · rw [if_neg (fun hn => h hn.1), if_neg h]

theorem State.retirePile_cleared (s : State) (i : Fin 48) : s.retirePile i = (s.endPile i).cleared i := by
  rw [State.retirePile_eq, State.clearPile_eq]
  generalize s.endPile i = u
  rw [State.removeOrder_eq, State.discardMust_eq]
  have hput : ∀ x : Living, (u.watch.living.put i x).put i Living.blank = u.watch.living.put i Living.blank := fun x =>
    Table.put_put _ _ _ _
  have hu : (Table.get (if u.hasOrder i then u.watch.living.put i { u.watch.living.get i with carried := false }
      else u.watch.living) i).urgency = (u.watch.living.get i).urgency := by
    split
    · rw [Table.get_put, if_pos rfl]
    · rfl
  have hl : (if u.hasOrder i then u.watch.living.put i { u.watch.living.get i with carried := false }
      else u.watch.living).put i Living.blank = u.watch.living.put i Living.blank := by
    split
    · exact hput _
    · rfl
  simp only [State.removePile, State.mapLiving, Table.modify, State.loseBases, State.cleared, State.lostBases, hu, hl]

/-- The first context with a pass on the pile is the one whose pass ends. -/
theorem State.endPile_of_first {c : Fin 8} {q : Pass} (hc : s.engine.contexts.get c = some q) (hq : q.pile = i)
    (hf : ∀ d r, d < c → s.engine.contexts.get d = some r → r.pile ≠ i) :
    s.endPile i = s.endPass none c (.cutShort .retired) false := by
  have hp : s.passOn c = some i := State.passOn_eq_some.2 ⟨q, hc, hq⟩
  have hx : s.contextOf i = some c := by
    have hfind : (List.finRange 8).find? (fun d => decide (s.passOn d = some i)) = some c := by
      rw [List.find?_eq_some_iff_getElem]
      refine ⟨by simpa using hp, c.val, by simp, by simp, fun j hj => ?_⟩
      have hj8 : j < (List.finRange 8).length := by simp; omega
      have hlt : (List.finRange 8)[j] < c := by
        simp only [List.getElem_finRange]
        exact hj
      have hne : s.passOn (List.finRange 8)[j] ≠ some i := by
        intro he
        obtain ⟨r, hr, hri⟩ := State.passOn_eq_some.1 he
        exact hf _ r hlt hr hri
      simpa using hne
    rw [← hfind, State.contextOf]
    congr 1
    funext d
    unfold State.passOn
    cases s.engine.contexts.get d <;> simp
  rw [State.endPile, hx]

theorem State.endPile_of_none (h : ∀ c q, s.engine.contexts.get c = some q → q.pile ≠ i) : s.endPile i = s := by
  have hx : s.contextOf i = none := by
    by_contra hne
    obtain ⟨c, hc⟩ := Option.ne_none_iff_exists'.1 hne
    obtain ⟨q, hq, hqi⟩ := State.passOn_eq_some.1 (State.contextOf_spec hc)
    exact h c q hq hqi
  rw [State.endPile, hx]

/-- The cleared pile is gone. -/
theorem State.cleared_gone (u : State) (i : Fin 48) : (u.cleared i).Gone i := by
  refine ⟨(Table.get_put _ _ _ _).trans (if_pos rfl), ?_, (Table.get_put _ _ _ _).trans (if_pos rfl)⟩
  by_contra hn
  obtain ⟨o, ho, he⟩ := State.hasOrder_iff.1 (by simpa using hn)
  have := (List.mem_filter.1 (show o ∈ u.queue.filter (fun o => o.pile != i) from ho)).2
  simp [he] at this

/-! ## The cannon and the exclusion retired (01 R13, R17) -/

theorem State.retireCannon_of_engaged {i : Fin 24} (h : ∃ x p, s.engine.contexts.get x = some p ∧ p.cannon = i) :
    s.retireCannon i = .inl .engaged := if_pos (State.cannonLive_iff.2 h)

theorem State.not_cannonLive {i : Fin 24} (h : ∀ x q, s.engine.contexts.get x = some q → q.cannon ≠ i) :
    ¬ s.cannonLive i = true := by
  rw [State.cannonLive_iff]
  rintro ⟨x, q, hq, hi⟩
  exact h x q hq hi

theorem State.retireCannon_of_covers {i : Fin 24} {p : Pile}
    (h : ∀ x q, s.engine.contexts.get x = some q → q.cannon ≠ i) (hp : s.geometry.piles.get j = some p)
    (hd : ∀ n d, n ≠ i → s.geometry.cannons.get n = some d → d.coversPile p = false) :
    s.retireCannon i = .inl .covers := by
  have hn : ¬ (s.geometry.putCannon i none).allCovered = true := by
    rw [Geometry.allCovered_iff]
    intro hall
    obtain ⟨n, d, hnd, hcov⟩ := hall j p hp
    have hput : (s.geometry.cannons.put i none).get n = some d := hnd
    rw [Table.get_put] at hput
    split at hput
    · exact absurd hput (by simp)
    · next hne => exact absurd (hcov.symm.trans (hd n d (Ne.symm hne) hput)) (by simp)
  rw [State.retireCannon, if_neg (State.not_cannonLive h), if_pos (by simpa using hn)]

theorem State.retireCannon_of_free {i : Fin 24}
    (h : ∀ x q, s.engine.contexts.get x = some q → q.cannon ≠ i)
    (hd : ∀ j p, s.geometry.piles.get j = some p →
      ∃ n d, n ≠ i ∧ s.geometry.cannons.get n = some d ∧ d.coversPile p = true) :
    s.retireCannon i = .inr { s with
      staging := s.lostBases .cannon i.val
      geometry := { s.geometry with cannons := s.geometry.cannons.put i none }
      queue := s.queue.map fun o => if o.named = some i then { o with named := none } else o
      engine := { s.engine with
        blocked := s.engine.blocked.put i false
        asked := Table.fill 4 true } } := by
  have hall : (s.geometry.putCannon i none).allCovered = true := by
    rw [Geometry.allCovered_iff]
    intro j p hp
    obtain ⟨n, d, hne, hn, hcov⟩ := hd j p hp
    refine ⟨n, d, ?_, hcov⟩
    show (s.geometry.cannons.put i none).get n = some d
    rw [Table.get_put, if_neg (Ne.symm hne), hn]
  have hmap : ∀ q : List Order, (q.map fun o => if decide (o.named = some i) then { o with named := none } else o)
      = q.map fun o => if o.named = some i then { o with named := none } else o := fun q => by simp
  rw [State.retireCannon, if_neg (State.not_cannonLive h), hall, if_neg (by simp), ← hmap]
  rfl

/-- A present exclusion that is not fixed is taken away. -/
theorem State.retireExclusion_of_free {i : Fin 16} (h : s.geometry.isFixed i = false) :
    s.retireExclusion i = .inr { s with
      staging := s.lostBases .exclusion i.val
      geometry := { s.geometry with exclusions := s.geometry.exclusions.put i none }
      engine := { s.engine with asked := Table.fill 4 true } } := by
  rw [State.retireExclusion, h]
  rfl

end

section

variable {s : State} {cls index : Byte}

/-- The record's class of the three classes of geometry, and its index. -/
theorem exec_retire_pile (h : s.Accepts) {i : Fin 48} {p : Pile} (hc : cls = 2) (hi : index.toNat = i.val)
    (hp : s.geometry.piles.get i = some p) :
    exec (.retire cls index) s
      = .next (((s.endPile i).cleared i).commandEnd Code.retire (some (.done, index))) := by
  subst hc
  refine exec_retire_of_retired h classOf_pile rfl hi i.isLt ?_
  rw [State.retireRecord_pile hi, hp, ← State.retirePile_cleared]
  rfl

/-- What RETIRE of a pile leaves. -/
theorem retirePile_spec (h : s.Accepts) {i : Fin 48} {p : Pile} (hc : cls = 2) (hi : index.toNat = i.val)
    (hp : s.geometry.piles.get i = some p) :
    ∃ t, exec (.retire cls index) s = .next t
      ∧ t.frame = { s.frame with
          port := { s.port with command := Code.retire, result := .done, index := index,
                                dataOut := [], transaction := .idle, selectLeft := 30 }
          staging := s.lostBases .pile i.val
          geometry := { s.geometry with
            piles := s.geometry.piles.put i none
            index := Table.tab fun b => (s.geometry.index.get b).filter (· != i) }
          log := t.field.log }
      ∧ t.hasOrder i = false ∧ t.watch.living.get i = Living.blank
      ∧ (s.EngagedLaw → ∀ c q, t.engine.contexts.get c = some q → q.pile ≠ i)
      ∧ ∀ u : State,
        ((∀ c q, s.engine.contexts.get c = some q → q.pile ≠ i) → u = s) →
        (∀ c q, s.engine.contexts.get c = some q → q.pile = i →
          (∀ d r, d < c → s.engine.contexts.get d = some r → r.pile ≠ i) →
          u = s.endPass none c (.cutShort .retired) false) →
        t = ({ u with
          staging := s.lostBases .pile i.val, geometry := t.geometry
          queue := u.queue.filter (fun o => o.pile != i)
          watch := { u.watch with
            living := u.watch.living.put i Living.blank
            mustCount := if (u.watch.living.get i).urgency = .must then u.watch.mustCount - 1
              else u.watch.mustCount } } : State).commandEnd Code.retire (some (.done, index)) := by
  refine ⟨_, exec_retire_pile h hc hi hp, ?_⟩
  have hef := s.endPile_frame i
  have hgone := (s.endPile i).cleared_gone i
  have heng : s.EngagedLaw → ((s.endPile i).cleared i).Engages := fun hl => by
    rw [← State.retirePile_cleared]
    exact ((State.engages_iff_engagedLaw s).2 hl).retirePile i
  have hgeo : (s.endPile i).geometry = s.geometry := congrArg Frame.geometry hef
  have hst : (s.endPile i).staging = s.staging := congrArg Frame.staging hef
  generalize hE : s.endPile i = E at hef hgone heng hgeo hst
  have hcf : (E.cleared i).frame = { s.frame with
      staging := s.lostBases .pile i.val
      geometry := { s.geometry with
        piles := s.geometry.piles.put i none
        index := Table.tab fun b => (s.geometry.index.get b).filter (· != i) } } := by
    rw [← hef, ← hgeo, State.lostBases, ← hst]
    rfl
  generalize ht : (E.cleared i).commandEnd Code.retire (some (.done, index)) = t
  have hframe := State.commandEnd_frame_eq ht.symm
  have hpo : (E.cleared i).port = s.port := congrArg Frame.port hcf
  rw [hpo, hcf] at hframe
  have hgt : t.Gone i := by
    rw [← ht]
    refine (State.gone_attempts none i).commandEnd (fun s t hg _ hw hq hs => ?_) hgone Code.retire _
    exact State.Gone.of_yard hs (by unfold State.yard; rw [hg, hw, hq])
  refine ⟨hframe, hgt.2.1, hgt.2.2, fun hl c q hq he => ?_, fun u hnone hfirst => ?_⟩
  · have hte : t.Engages := by
      rw [← ht]
      refine (State.engages_attempts none).commandEnd (fun s t hg he hw hq hs => ?_) (heng hl) Code.retire _
      exact hs.of_same (by rw [he]) (fun i => by rw [State.isEngaged, hw]; rfl) (by rw [hg]) hq
    have hsome := (((State.engages_iff_engagedLaw t).1 hte).1 c q hq).1
    rw [he, hgt.1] at hsome
    exact absurd hsome (by simp)
  · have hu : u = E := by
      rw [← hE]
      cases hx : s.contextOf i with
      | none =>
        have hn : ∀ c q, s.engine.contexts.get c = some q → q.pile ≠ i := fun c q hq he =>
          State.contextOf_eq_none hx c (State.passOn_eq_some.2 ⟨q, hq, he⟩)
        rw [hnone hn, State.endPile_of_none hn]
      | some c₀ =>
        obtain ⟨c, hc, hmin⟩ := WellFounded.has_min (wellFounded_lt (α := Fin 8)) {c | s.passOn c = some i}
          ⟨c₀, State.contextOf_spec hx⟩
        obtain ⟨q, hq, hqi⟩ := State.passOn_eq_some.1 hc
        have hlow : ∀ d r, d < c → s.engine.contexts.get d = some r → r.pile ≠ i := fun d r hd hr he =>
          hmin d (State.passOn_eq_some.2 ⟨r, hr, he⟩) hd
        rw [hfirst c q hq hqi hlow, State.endPile_of_first hq hqi hlow]
    have htg : t.geometry = { E.geometry with
        piles := E.geometry.piles.put i none, index := E.geometry.unindexed i } := by
      rw [hgeo]
      exact congrArg Frame.geometry hframe
    rw [hu, htg, ← ht, State.lostBases, ← hst]
    rfl

end

/-- Settles O21: what RETIRE refuses, and what a retired pile, cannon or exclusion leaves. -/
theorem retireOfGeometry : Obligations.RetireOfGeometry := by
  refine ⟨fun s cls index h => ⟨fun hc => ?_, fun k hc hk hn => ?_, fun i hc hi hp => ?_,
    fun i hc hi => ⟨fun hp => ?_, fun c hp hlive => ?_, fun c j p hp hfree hj hd => ?_⟩,
    fun i hc hi => ⟨fun hp => ?_, fun hf => ?_⟩⟩,
    fun s cls index h lost hlost => ?_⟩
  · exact exec_retire_eq h (State.retire_of_other index hc)
  · exact exec_retire_eq h (State.retire_of_size_le hc (k.retirable_iff.2 hk) hn)
  · subst hc
    refine exec_retire_of_refused h classOf_pile rfl hi i.isLt ?_
    rw [State.retireRecord_pile hi, hp]
    rfl
  · subst hc
    refine exec_retire_of_refused h classOf_cannon rfl hi i.isLt ?_
    rw [State.retireRecord_cannon hi, hp]
    rfl
  · subst hc
    refine exec_retire_of_refused h classOf_cannon rfl hi i.isLt ?_
    rw [State.retireRecord_cannon hi, hp]
    exact State.retireCannon_of_engaged hlive
  · subst hc
    refine exec_retire_of_refused h classOf_cannon rfl hi i.isLt ?_
    rw [State.retireRecord_cannon hi, hp]
    exact State.retireCannon_of_covers hfree hj hd
  · subst hc
    refine exec_retire_of_refused h classOf_exclusion rfl hi i.isLt ?_
    rw [State.retireRecord_exclusion hi, hp]
    rfl
  · subst hc
    refine exec_retire_of_refused h classOf_exclusion rfl hi i.isLt ?_
    have hp : (s.geometry.exclusions.get i).isSome = true := by
      unfold Geometry.isFixed at hf
      cases he : s.geometry.exclusions.get i with
      | none => simp [he] at hf
      | some e => rfl
    rw [State.retireRecord_exclusion hi, hp, if_pos rfl, State.retireExclusion, hf, if_pos rfl]
  · have hl : lost = s.lostBases := hlost
    subst hl
    refine ⟨fun i p hc hi hp => retirePile_spec h hc hi hp, fun i c hc hi hp hfree hd => ?_,
      fun i e hc hi hp hf => ?_⟩
    · subst hc
      refine exec_retire_of_retired h classOf_cannon rfl hi i.isLt ?_
      rw [State.retireRecord_cannon hi, hp]
      exact State.retireCannon_of_free hfree hd
    · subst hc
      refine exec_retire_of_retired h classOf_exclusion rfl hi i.isLt ?_
      have hff : s.geometry.isFixed i = false := by
        unfold Geometry.isFixed
        rw [hp]
        exact hf
      rw [State.retireRecord_exclusion hi, hp]
      exact State.retireExclusion_of_free hff

end Sys2Proof.Machine

/-! PROOFS. The Yard Clock, the Forecast Horizon and the observation: the clock's commands (O22) and events (O23),
FORECAST (O24), and OBSERVE with the life of an observation (O25). -/

namespace Sys2Proof.Machine

section

variable {s t : State} {c : Instr} {code i : Byte} {a : Answer}

/-! ## Commands and events as they end -/

/-- A command whose work leaves `t` with the answer `a` ends with `t` and `a`. -/
theorem exec_of_command {act : State → State × Answer} (hx : exec c s = .next (s.hostCommand code i act))
    (h : s.Accepts) (ht : act s = (t, a)) : exec c s = .next (t.commandEnd code a) := by
  rw [hx, State.hostCommand_of_accepts h, ht]

/-- An event whose work leaves `t` ends with `t`. -/
theorem exec_of_event {act : State → State} (hx : exec c s = .next (s.event act)) (h : s.live = true)
    (ht : act s = t) : exec c s = .next t.eventEnd := by
  rw [hx, State.event_of_live h, ht]

theorem exec_clockHold (s : State) : exec .clockHold s = .next (s.hostCommand Code.clock 0 State.clockHold) := rfl

theorem exec_clockSet (s : State) (day : Word16) (second : Word24) : exec (.clockSet day second) s
    = .next (s.hostCommand Code.clock 0 fun t => t.clockSet day second) := rfl

theorem exec_clockRun (s : State) : exec .clockRun s = .next (s.hostCommand Code.clock 0 State.clockRun) := rfl

theorem exec_observe (s : State) (speed gust : Word16) (sector humidity : Byte) :
    exec (.observe speed gust sector humidity) s = .next (s.hostCommand Code.observe 0 fun t =>
      t.observe speed.toNat gust.toNat sector.toNat humidity.toNat) := rfl

theorem State.commandEnd_mode (s : State) (code : Byte) (a : Answer) :
    (s.commandEnd code a).control.mode = s.control.mode := congrArg Frame.mode (s.commandEnd_frame code a)

/-! ## CLOCK (02 R24 to R26) -/

theorem State.clockHold_of_running (h : s.clock.state = .running) : s.clockHold = ({ s with
    clock := { s.clock with state := .held, heldFrom := some s.clock.day, advanceDue := false } },
    some (.done, 0)) := by
  rw [State.clockHold, h]
  rfl

theorem State.clockHold_of_held (h : s.clock.state = .held) : s.clockHold = (s, some (.done, 0)) := by
  rw [State.clockHold, h]

theorem State.clockHold_of_unset (h : s.clock.state = .unset) : s.clockHold = (s, some (.state, 0)) := by
  rw [State.clockHold, h]

variable {day : Word16} {second : Word24}

theorem State.clockSet_of_running (h : s.clock.state = .running) :
    s.clockSet day second = (s, some (.state, 0)) := if_pos h

theorem State.clockSet_of_range (h : s.clock.state ≠ .running) (hs : 86399 < second.toNat) :
    s.clockSet day second = (s, some (.range, 0)) := by
  rw [State.clockSet, if_neg h, if_pos hs]

theorem State.clockSet_of_accepted (h : s.clock.state ≠ .running) (hs : second.toNat ≤ 86399) :
    s.clockSet day second = (s.setTime day.toNat second.toNat, some (.done, 0)) := by
  rw [State.clockSet, if_neg h, if_neg (Nat.not_lt.2 hs)]

/-- The slots of the horizon of an hour (02 R31, R32). -/
def Horizon.aligned (z : Horizon) (hour : Nat) : Table 36 (Option Slot) :=
  Table.tab fun k =>
    match z.slots.get k with
    | some x => if hour ≤ x.hour ∧ x.hour ≤ hour + 35 then some x else none
    | none => none

theorem Horizon.aligned_iff {z : Horizon} {hour : Nat} {k : Fin 36} {x : Slot} :
    (z.aligned hour).get k = some x ↔ z.slots.get k = some x ∧ hour ≤ x.hour ∧ x.hour ≤ hour + 35 := by
  rw [Horizon.aligned, Table.get_tab]
  cases z.slots.get k with
  | none => simp
  | some y =>
    dsimp only
    split
    · next h =>
      refine ⟨fun he => ?_, fun he => he.1⟩
      obtain rfl := Option.some.inj he
      exact ⟨rfl, h⟩
    · next h =>
      refine ⟨fun he => absurd he (by simp), fun he => ?_⟩
      obtain rfl := Option.some.inj he.1
      exact absurd he.2 h

theorem State.setTime_eq (s : State) (d n : Nat) : s.setTime d n = ({ s with
    clock := { s.clock with state := .held, day := d, second := n }
    horizon := { s.horizon with slots := s.horizon.aligned (d * 24 + n / 3600) } } : State).driftReevaluate := rfl

theorem State.clockRun_of_running (h : s.clock.state = .running) : s.clockRun = (s, some (.done, 0)) := by
  rw [State.clockRun, h]

theorem State.clockRun_of_unset (h : s.clock.state = .unset) : s.clockRun = (s, some (.clock, 0)) := by
  rw [State.clockRun, h]

/-- A RUN of a clock set to another day than it was held from makes a day rollover (02 R26). -/
theorem State.clockRun_of_held (h : s.clock.state = .held)
    (ht : t = { s with clock := { s.clock with state := .running, heldFrom := none, fraction := 0 } }) :
    s.clockRun = (if s.clock.heldFrom = some s.clock.day then t else t.rolloverDay, some (.done, 0)) := by
  subst ht
  rw [State.clockRun, h]
  rfl

end

/-- Settles O22: CLOCK HOLD, CLOCK SET and CLOCK RUN in each clock state. -/
theorem clockCommands : Obligations.ClockCommands := by
  refine ⟨fun s h => ⟨fun hc => ?_, fun hc => ?_, fun hc => ?_, fun t ht => ?_⟩,
    fun s day second h => ⟨fun hc => ?_, fun hc hs => ?_, fun hc hs => ?_⟩,
    fun s h => ⟨fun hc t ht => ⟨fun hf => ?_, fun hf => ?_⟩, fun hc => ?_, fun hc => ?_⟩⟩
  · exact exec_of_command (exec_clockHold s) h (State.clockHold_of_running hc)
  · exact exec_of_command (exec_clockHold s) h (State.clockHold_of_held hc)
  · exact exec_of_command (exec_clockHold s) h (State.clockHold_of_unset hc)
  · have hm : ∀ u a, s.clockHold = (u, a) → u.control.mode = s.control.mode → t.control.mode = s.control.mode := by
      intro u a hu hum
      have he := exec_of_command (exec_clockHold s) h hu
      rw [ht] at he
      rw [Host.Outcome.next.inj he, State.commandEnd_mode, hum]
    cases hc : s.clock.state with
    | running => exact hm _ _ (State.clockHold_of_running hc) rfl
    | held => exact hm _ _ (State.clockHold_of_held hc) rfl
    | unset => exact hm _ _ (State.clockHold_of_unset hc) rfl
  · exact exec_of_command (exec_clockSet s day second) h (State.clockSet_of_running hc)
  · exact exec_of_command (exec_clockSet s day second) h (State.clockSet_of_range hc hs)
  · refine ⟨s.horizon.aligned (day.toNat * 24 + second.toNat / 3600), fun k x => Horizon.aligned_iff, ?_⟩
    rw [← State.setTime_eq]
    exact exec_of_command (exec_clockSet s day second) h (State.clockSet_of_accepted hc hs)
  · have he := State.clockRun_of_held hc ht
    rw [if_pos hf] at he
    exact exec_of_command (exec_clockRun s) h he
  · have he := State.clockRun_of_held hc ht
    rw [if_neg hf] at he
    exact exec_of_command (exec_clockRun s) h he
  · exact exec_of_command (exec_clockRun s) h (State.clockRun_of_running hc)
  · exact exec_of_command (exec_clockRun s) h (State.clockRun_of_unset hc)

section

variable {s t : State}

/-! ## The clock's events (02 R23, R31; 04 R88) -/

theorem exec_yardClockAdvance (s : State) : exec .yardClockAdvance s = .next (s.event fun t =>
    if t.clock.state = .running ∧ t.clock.advanceDue = true then t.setClock t.clock.advanced else t) := rfl

theorem exec_hourRollover (s : State) : exec .hourRollover s = .next (s.event fun t =>
    if t.clock.hourRaised then (t.setClock { t.clock with hourRaised := false }).rolloverHour else t) := rfl

theorem exec_dayRollover (s : State) : exec .dayRollover s = .next (s.event fun t =>
    if t.clock.dayRaised then (t.setClock { t.clock with dayRaised := false }).rolloverDay else t) := rfl

theorem exec_observationLifeExpiry (s : State) : exec .observationLifeExpiry s
    = .next (s.event fun t => if t.horizon.life = some 0 then t.expireObservation else t) := rfl

/-- A clock within its day, one second on (02 R23). -/
theorem Clock.advanced_eq {c : Clock} {day second : Nat} (h : c.second < 86400)
    (hs : second = (c.second + 1) % 86400) (hd : day = if second = 0 then (c.day + 1) % 65536 else c.day) :
    c.advanced = { c with
      day, second, advanceDue := false
      assessmentRaised := if second % 900 = 0 then some ⟨day, second⟩ else c.assessmentRaised
      hourRaised := c.hourRaised || decide (second % 3600 = 0)
      dayRaised := c.dayRaised || decide (second = 0) } := by
  by_cases hw : 86399 ≤ c.second
  · have h0 : second = 0 := by omega
    rw [if_pos h0] at hd
    subst hd
    rw [h0]
    unfold Clock.advanced
    simp only [decide_eq_true hw, if_true]
  · have hs' : c.second + 1 = second := by omega
    rw [if_neg (by omega)] at hd
    subst hd
    unfold Clock.advanced
    simp only [decide_eq_false hw, Bool.false_eq_true, if_false, hs']

theorem State.rolloverHour_eq (s : State) : s.rolloverHour = ({ s with
    horizon := { s.horizon with slots := s.horizon.aligned s.clock.hour } } : State).driftReevaluate := rfl

/-- The day rollover at the fresh supply, written out (04 R88). -/
theorem State.rolloverDay_eq {old new : Fresh} (ho : old = s.water.fresh) (hn : new = { old with
    used := 0, today := if old.allowance < old.reserved then old.reserved else old.allowance }) :
    s.rolloverDay = { s with
      water := { s.water with fresh := new }
      engine := { s.engine with
        asked := if old.today - old.used - old.reserved < new.today - new.reserved ∧ old.isolated = false
          then Table.fill 4 true else s.engine.asked } } := by
  have hr : s.water.fresh.rollover = new := by
    have hm : max s.water.fresh.allowance s.water.fresh.reserved = if s.water.fresh.allowance < s.water.fresh.reserved
        then s.water.fresh.reserved else s.water.fresh.allowance := by split <;> omega
    rw [hn, ho, Fresh.rollover, hm]
  have hc : (decide (s.water.fresh.available < new.available) && !s.water.fresh.isolated) = true
      ↔ old.today - old.used - old.reserved < new.today - new.reserved ∧ old.isolated = false := by
    have hu : new.used = 0 := by rw [hn]
    rw [Bool.and_eq_true, decide_eq_true_eq, Bool.not_eq_true', ho]
    simp only [Fresh.available, hu, Nat.sub_zero]
  have hm : s.mapFresh Fresh.rollover = { s with water := { s.water with fresh := new } } := by
    rw [← hr]
    rfl
  unfold State.rolloverDay
  dsimp only
  rw [hr, hm]
  split
  · next h => rw [hc.2 h]; rfl
  · next h => rw [Bool.eq_false_iff.2 (mt hc.1 h)]; rfl

end

/-- Settles O23: an advance of the clock, an hour rollover and a day rollover. -/
theorem clockEvents : Obligations.ClockEvents := by
  refine ⟨fun s h hsec => ⟨fun hr hd day second hs hday => ?_, fun hn => ?_⟩,
    fun s h => ⟨fun hh => ?_, fun hh => ?_⟩, fun s old new h ho hn rises hri => ⟨fun hd => ⟨fun hr => ?_, fun hr => ?_⟩,
      fun hd => ?_⟩⟩
  · refine exec_of_event (exec_yardClockAdvance s) h ((if_pos ⟨hr, hd⟩).trans ?_)
    rw [State.setClock, Clock.advanced_eq hsec hs hday]
  · refine exec_of_event (exec_yardClockAdvance s) h (if_neg ?_)
    rintro ⟨h1, h2⟩
    exact hn.elim (fun h => h h1) fun h => absurd (h.symm.trans h2) (by simp)
  · exact ⟨s.horizon.aligned s.clock.hour, fun k x => Horizon.aligned_iff,
      exec_of_event (exec_hourRollover s) h (if_pos hh)⟩
  · exact exec_of_event (exec_hourRollover s) h (if_neg (by simp [hh]))
  · refine exec_of_event (exec_dayRollover s) h ((if_pos hd).trans ?_)
    rw [State.rolloverDay_eq (s := s.setClock { s.clock with dayRaised := false }) ho hn, if_pos (hri.1 hr)]
    rfl
  · refine exec_of_event (exec_dayRollover s) h ((if_pos hd).trans ?_)
    rw [State.rolloverDay_eq (s := s.setClock { s.clock with dayRaised := false }) ho hn, if_neg (mt hri.2 hr)]
    rfl
  · exact exec_of_event (exec_dayRollover s) h (if_neg (by simp [hd]))

section

variable {s : State} {x : Slot} {sector : Nat} {k : Fin 36}

/-! ## FORECAST (02 R29) -/

theorem Horizon.slotFor_eq_some {z : Horizon} (hk : k.val = x.hour % 36) {y : Slot} :
    z.slotFor x.hour = some y ↔ z.slots.get k = some y ∧ y.hour = x.hour := by
  have hke : Fin.ofNat 36 x.hour = k := Fin.ext hk.symm
  rw [Horizon.slotFor, hke]
  cases z.slots.get k with
  | none => simp
  | some w =>
    dsimp only
    split
    · next h =>
      refine ⟨fun he => ?_, fun he => he.1⟩
      obtain rfl := Option.some.inj he
      exact ⟨rfl, h⟩
    · next h =>
      refine ⟨fun he => absurd he (by simp), fun he => ?_⟩
      obtain rfl := Option.some.inj he.1
      exact absurd he.2 h

theorem slotInRange_iff : slotInRange x sector = true ↔ sector ≤ 15 ∧ x.meanSpeed ≤ 600 ∧ x.gust ≤ 600
    ∧ x.humidity ≤ 100 ∧ -40 ≤ x.temperature ∧ x.temperature ≤ 60 ∧ x.rainClass ≤ 3 := by
  simp only [slotInRange, Bool.and_eq_true, decide_eq_true_eq, and_assoc]

theorem State.forecastTest_of_past (h : x.hour < s.clock.hour) : s.forecastTest x sector = some .past := if_pos h

theorem State.forecastTest_of_beyond (h : s.clock.hour ≤ x.hour)
    (hb : s.clock.hour + 35 < x.hour ∨ 1572863 < x.hour) : s.forecastTest x sector = some .beyond := by
  rw [State.forecastTest, if_neg (Nat.not_lt.2 h), if_pos hb]

theorem State.forecastTest_of_stale (h : s.clock.hour ≤ x.hour) (h1 : x.hour ≤ s.clock.hour + 35)
    (h2 : x.hour ≤ 1572863) {y : Slot} (hy : s.horizon.slotFor x.hour = some y) (hi : x.issue ≤ y.issue) :
    s.forecastTest x sector = some .stale := by
  rw [State.forecastTest, if_neg (Nat.not_lt.2 h), if_neg (by omega), hy]
  exact if_pos hi

theorem State.forecastTest_of_fresh (h : s.clock.hour ≤ x.hour) (h1 : x.hour ≤ s.clock.hour + 35)
    (h2 : x.hour ≤ 1572863) (hn : ∀ y, s.horizon.slotFor x.hour = some y → ¬ x.issue ≤ y.issue) :
    s.forecastTest x sector = if slotInRange x sector then none else some .range := by
  rw [State.forecastTest, if_neg (Nat.not_lt.2 h), if_neg (by omega)]
  cases hy : s.horizon.slotFor x.hour with
  | none => rfl
  | some y => exact if_neg (hn y hy)

theorem State.forecast_of_unset (h : s.clock.state = .unset) : s.forecast x sector = (s, some (.clock, 0)) :=
  if_pos h

theorem State.forecast_of_refused {r : Result} (h : s.clock.state ≠ .unset)
    (ht : s.forecastTest x sector = some r) : s.forecast x sector = (s, some (r, shownPosition x.hour)) := by
  rw [State.forecast, if_neg h, ht]

theorem State.forecast_of_accepted (h : s.clock.state ≠ .unset) (ht : s.forecastTest x sector = none) :
    s.forecast x sector = (s.installSlot x, some (.done, shownPosition x.hour)) := by
  rw [State.forecast, if_neg h, ht]

/-- The slot that a FORECAST gives. -/
def slotGiven (hour : Word24) (issue : Word16) (sector : Byte) (mean gust : Word16)
    (humidity temperature rain : Byte) : Slot :=
  { hour := hour.toNat, issue := issue.toNat, sector := Fin.ofNat 16 sector.toNat, meanSpeed := mean.toNat
    gust := gust.toNat, humidity := humidity.toNat, temperature := temperature.toInt, rainClass := rain.toNat }

theorem exec_forecast (s : State) (hour : Word24) (issue : Word16) (sector : Byte) (mean gust : Word16)
    (humidity temperature rain : Byte) : exec (.forecast hour issue sector mean gust humidity temperature rain) s
      = .next (s.hostCommand Code.forecast (shownPosition hour.toNat) fun t =>
        t.forecast (slotGiven hour issue sector mean gust humidity temperature rain) sector.toNat) := rfl

end

/-- Settles O24: the tests of FORECAST in their order, and the slot installed. -/
theorem forecastTestsAndInstalls : Obligations.ForecastTestsAndInstalls := by
  intro s hour issue sector mean gust humidity temperature rain h c hr k index stale inRange hc hh hk hindex hst hin
  subst hc hh hindex
  generalize hx : slotGiven hour issue sector mean gust humidity temperature rain = x
  have hex := exec_forecast s hour issue sector mean gust humidity temperature rain
  rw [hx] at hex
  have hxh : x.hour = hour.toNat := by rw [← hx]; rfl
  have hpos : BitVec.ofNat 8 (hour.toNat % 36) = shownPosition x.hour := by rw [hxh]; rfl
  have hslot : ∀ y, s.horizon.slotFor x.hour = some y ↔ s.horizon.slots.get k = some y ∧ y.hour = x.hour :=
    fun y => Horizon.slotFor_eq_some (hxh ▸ hk)
  have hstale : stale ↔ ∃ y, s.horizon.slotFor x.hour = some y ∧ x.issue ≤ y.issue := by
    rw [hst]
    refine exists_congr fun y => ?_
    rw [hslot, hxh, and_assoc, ← hx]
    rfl
  have hrange : inRange ↔ slotInRange x sector.toNat = true := by
    rw [hin, slotInRange_iff, ← hx]
    rfl
  rw [← hxh, hxh, hpos]
  have hfresh : ¬ stale → s.clock.hour ≤ hour.toNat → hour.toNat ≤ s.clock.hour + 35 → hour.toNat ≤ 1572863 →
      s.forecastTest x sector.toNat = if slotInRange x sector.toNat then none else some .range := by
    intro hn h1 h2 h3
    rw [← hxh] at h1 h2 h3
    exact State.forecastTest_of_fresh h1 h2 h3 fun y hy hi => hn (hstale.2 ⟨y, hy, hi⟩)
  refine ⟨fun hu => ?_, fun hu hp => ?_, fun hu hp hb => ?_, fun hu h1 h2 h3 hs => ?_, fun hu h1 h2 h3 hs hr => ?_,
    fun hu h1 h2 h3 hs hr => ?_⟩
  · exact exec_of_command hex h (State.forecast_of_unset hu)
  · exact exec_of_command hex h (State.forecast_of_refused hu (State.forecastTest_of_past (hxh ▸ hp)))
  · exact exec_of_command hex h (State.forecast_of_refused hu (State.forecastTest_of_beyond (hxh ▸ hp) (hxh ▸ hb)))
  · obtain ⟨y, hy, hi⟩ := hstale.1 hs
    exact exec_of_command hex h (State.forecast_of_refused hu
      (State.forecastTest_of_stale (hxh ▸ h1) (hxh ▸ h2) (hxh ▸ h3) hy hi))
  · refine exec_of_command hex h (State.forecast_of_refused hu ((hfresh hs h1 h2 h3).trans ?_))
    rw [if_neg (mt hrange.2 hr)]
  · have hacc : s.forecastTest x sector.toNat = none := by
      rw [hfresh hs h1 h2 h3, if_pos (hrange.1 hr)]
    have he := exec_of_command hex h (State.forecast_of_accepted hu hacc)
    have hsec : sector.toNat ≤ 15 := (hin.1 hr).1
    have hp : slotPosition x.hour = k := by rw [hxh]; exact Fin.ext hk.symm
    refine ⟨x, ?_, ?_, fun t ht => ?_⟩
    · rw [← hx]
      exact Nat.mod_eq_of_lt (by omega)
    · rw [← hx]
      rfl
    · rw [State.installSlot, hp, ← ht, hxh] at he
      exact ⟨fun hc => by rw [he, if_pos hc, hxh], fun hc => by rw [he, if_neg hc, hxh]⟩

section

variable {s : State} {speed gust sector humidity : Nat}

/-! ## OBSERVE (02 R34, R35) -/

theorem State.observe_of_range (h : 600 < speed ∨ 600 < gust ∨ 15 < sector ∨ 100 < humidity) :
    s.observe speed gust sector humidity = (s, some (.range, 0)) := if_pos h

theorem State.observe_of_accepted (h : ¬ (600 < speed ∨ 600 < gust ∨ 15 < sector ∨ 100 < humidity)) :
    s.observe speed gust sector humidity = (s.installObservation
      { speed, gust, sector := Fin.ofNat 16 sector, humidity, stamp := s.clock.now, fresh := true },
      some (.done, 0)) := if_neg h

end

/-- Settles O25: OBSERVE refused and accepted, and the expiry of the observation's life. -/
theorem observationAndItsLife : Obligations.ObservationAndItsLife := by
  refine ⟨fun s speed gust sector humidity h => ⟨fun hr => ?_, fun h1 h2 h3 h4 => ?_⟩, fun s h => ⟨fun hl => ?_, fun hl => ?_⟩⟩
  · exact exec_of_command (exec_observe s speed gust sector humidity) h (State.observe_of_range hr)
  · refine ⟨{ speed := speed.toNat, gust := gust.toNat, sector := Fin.ofNat 16 sector.toNat
              humidity := humidity.toNat, stamp := s.clock.now, fresh := true }, ?_, rfl, ?_⟩
    · exact Nat.mod_eq_of_lt (by omega)
    · exact exec_of_command (exec_observe s speed gust sector humidity) h (State.observe_of_accepted (by omega))
  · exact exec_of_event (exec_observationLifeExpiry s) h (if_pos hl)
  · exact exec_of_event (exec_observationLifeExpiry s) h (if_neg hl)

end Sys2Proof.Machine

/-! PROOFS. What an offer leaves alone, and an evaluation written out (O28). -/

namespace Sys2Proof.Machine

section

variable {s t : State} {i j : Fin 48}

/-! ## What an offer leaves alone (03 R57; 05 R92, R93) -/

/-- A living part but for its Carried and its Unqueued. -/
def Living.Apart (l m : Living) : Prop := m = { l with carried := m.carried, unqueued := m.unqueued }

theorem Living.Apart.refl (l : Living) : l.Apart l := rfl

theorem Living.Apart.trans {l m n : Living} (h : l.Apart m) (h' : m.Apart n) : l.Apart n := by
  unfold Living.Apart at h h' ⊢
  rw [h', h]

/-- The Carried of a pile says whether it has a queued order. -/
def State.CarriedRight (s : State) (j : Fin 48) : Prop := (s.watch.living.get j).carried = s.hasOrder j

/-- What an offer for pile `i` may do: the orders, Carried and Unqueued of any pile, and attempts asked for; a pile
but `i` whose Carried says whether it has an order is left with one that does. -/
structure State.Offered (s : State) (i : Fin 48) (t : State) : Prop where
  notices : t.notices = s.notices
  apart : ∀ j, (s.watch.living.get j).Apart (t.watch.living.get j)
  carries : ∀ j, j ≠ i → s.CarriedRight j → t.CarriedRight j

theorem State.Offered.refl (s : State) (i : Fin 48) : s.Offered i s := ⟨rfl, fun _ => .refl _, fun _ _ h => h⟩

theorem State.Offered.trans {u : State} (h : s.Offered i t) (h' : t.Offered i u) : s.Offered i u :=
  ⟨h'.notices.trans h.notices, fun j => (h.apart j).trans (h'.apart j),
    fun j hj hs => h'.carries j hj (h.carries j hj hs)⟩

theorem State.Offered.askAllIf (h : s.Offered i t) (b : Bool) : s.Offered i (t.askAllIf b) := by
  cases b
  · exact h
  · exact ⟨h.notices, h.apart, h.carries⟩

theorem State.dropOrder_living (s : State) (d j : Fin 48) : (s.dropOrder d).watch.living.get j
    = if d = j then { s.watch.living.get d with carried := false } else s.watch.living.get j :=
  Table.get_modify _ _ _ _

theorem State.dropOrder_hasOrder (s : State) (d j : Fin 48) :
    (s.dropOrder d).hasOrder j = if d = j then false else s.hasOrder j := by
  rw [Bool.eq_iff_iff, State.hasOrder_iff]
  have hm : ∀ o, o ∈ (s.dropOrder d).queue ↔ o ∈ s.queue ∧ o.pile ≠ d := fun o => by
    show o ∈ s.queue.filter (fun o => o.pile != d) ↔ _
    simp
  simp only [hm]
  split
  · next h =>
    subst h
    refine ⟨?_, fun h => absurd h (by simp)⟩
    rintro ⟨o, ⟨-, hne⟩, he⟩
    exact absurd he hne
  · next h =>
    rw [State.hasOrder_iff]
    constructor
    · rintro ⟨o, ⟨ho, -⟩, he⟩
      exact ⟨o, ho, he⟩
    · rintro ⟨o, ho, rfl⟩
      exact ⟨o, ⟨ho, Ne.symm h⟩, rfl⟩

theorem State.dropOrder_offered (s : State) (i d : Fin 48) : s.Offered i (s.dropOrder d) := by
  refine ⟨rfl, fun j => ?_, fun j _ hs => ?_⟩
  · rw [State.dropOrder_living]
    split
    · next h => subst h; rfl
    · rfl
  · unfold State.CarriedRight at hs ⊢
    rw [State.dropOrder_living, State.dropOrder_hasOrder]
    split
    · rfl
    · exact hs

theorem State.mapOrder_hasOrder (s : State) (d j : Fin 48) {f : Order → Order} (hf : ∀ o, (f o).pile = o.pile) :
    (s.mapOrder d f).hasOrder j = s.hasOrder j := by
  have hp : ∀ o : Order, (if o.pile = d then f o else o).pile = o.pile := fun o => by
    split
    · exact hf o
    · rfl
  have h : ((fun o : Order => o.pile == j) ∘ fun o => if o.pile = d then f o else o) = fun o => o.pile == j := by
    funext o
    simp only [Function.comp_apply, hp]
  show ((s.queue.map fun o => if o.pile = d then f o else o).any fun o => o.pile == j) = _
  rw [List.any_map, h]
  rfl

theorem State.updateOrder_offered (s : State) (i : Fin 48) (o : Order) (f : Order → Order) :
    s.Offered i (s.updateOrder o f) := by
  unfold State.updateOrder
  apply State.Offered.askAllIf
  refine ⟨rfl, fun _ => rfl, fun j _ hs => ?_⟩
  unfold State.CarriedRight at hs ⊢
  exact Eq.trans hs (Eq.symm (State.mapOrder_hasOrder s o.pile j (f := fun x => { f x with pile := x.pile })
    fun _ => rfl))

theorem State.mapLiving_offered (s : State) (i d : Fin 48) (b : Bool) :
    s.Offered i (s.mapLiving d fun l => { l with unqueued := b }) := by
  have hl : ∀ j, (s.mapLiving d fun l => { l with unqueued := b }).watch.living.get j
      = if d = j then { s.watch.living.get d with unqueued := b } else s.watch.living.get j := fun j =>
    Table.get_modify _ _ _ _
  refine ⟨rfl, fun j => ?_, fun j _ hs => ?_⟩
  · rw [hl]
    split
    · next h => subst h; rfl
    · rfl
  · unfold State.CarriedRight at hs ⊢
    rw [hl]
    split
    · next h => subst h; exact hs
    · exact hs

theorem State.appendOrder_offered (s : State) (o : Order) : s.Offered o.pile (s.appendOrder o) := by
  have hm : (s.setQueue (s.queue ++ [o])).Offered o.pile (s.appendOrder o) := by
    obtain ⟨h1, h2, h3⟩ := (s.setQueue (s.queue ++ [o])).mapLiving_offered o.pile o.pile false
    exact ⟨h1, h2, h3⟩
  refine State.Offered.trans (t := s.setQueue (s.queue ++ [o])) ⟨rfl, fun _ => rfl, fun j hj hs => ?_⟩ hm
  unfold State.CarriedRight at hs ⊢
  have ho : (s.setQueue (s.queue ++ [o])).hasOrder j = s.hasOrder j := by
    show (s.queue ++ [o]).any (fun x => x.pile == j) = s.queue.any fun x => x.pile == j
    have hne : (o.pile == j) = false := by simpa using Ne.symm hj
    simp [hne]
  rw [ho]
  exact hs

theorem State.join_offered {o : Order} (h : s.join o = some t) : s.Offered o.pile t := by
  unfold State.join at h
  split at h
  · rw [← Option.some.inj h]
    exact s.appendOrder_offered o
  · split at h
    · next d _ =>
      rw [← Option.some.inj h]
      exact ((s.dropOrder_offered o.pile d.pile).trans (State.mapLiving_offered _ o.pile d.pile true)).trans
        (State.appendOrder_offered _ o)
    · exact absurd h (by simp)

theorem State.offer_offered (s : State) (i : Fin 48) (u : Urgency) : s.Offered i (s.offer i u) := by
  unfold State.offer
  split
  · exact s.updateOrder_offered i _ _
  · split
    · exact .refl s i
    · split
      · exact s.dropOrder_offered i i
      · exact s.updateOrder_offered i _ _
  · exact .refl s i
  · split
    · next h => exact State.join_offered h
    · exact s.mapLiving_offered i i true

/-! ## The offer rule (03 R57) -/

theorem State.offerRule_of_none (h : (s.watch.living.get i).engaged = true ∨ s.control.mode = .draining
    ∨ s.control.mode = .drained) : s.offerRule i = s := by
  unfold State.offerRule
  rcases h with h | h | h
  · exact if_pos h
  · rw [h, ite_self]
  · rw [h, ite_self]

theorem State.offerRule_of_offer (he : (s.watch.living.get i).engaged = false)
    (hm : s.control.mode = .active ∨ s.control.mode = .held) :
    s.offerRule i = s.offer i (s.watch.living.get i).urgency := by
  unfold State.offerRule
  rw [he, if_neg Bool.false_ne_true]
  rcases hm with hm | hm <;> rw [hm]

theorem State.offerRule_offered (s : State) (i : Fin 48) : s.Offered i (s.offerRule i) := by
  unfold State.offerRule
  split
  · exact .refl s i
  · split
    · exact s.offer_offered i _
    · exact s.offer_offered i _
    · exact .refl s i
    · exact .refl s i

/-! ## An evaluation written out (03 R51 to R56) -/

/-- The pile enters MUST, and URGENT reports it (09 R166). -/
def State.ReportsMust (s : State) (before after : Urgency) : Prop :=
  (before ≠ .must ∧ after = .must) ∧ (s.notices.urgentMode = .each
    ∨ s.notices.urgentMode = .count ∧ s.watch.mustCount + 1 = s.notices.urgentThreshold)

/-- The MUST count after an evaluation. -/
def countAfter (n : Nat) (before after : Urgency) : Nat :=
  if before ≠ .must ∧ after = .must then n + 1 else if before = .must ∧ after ≠ .must then n - 1 else n

theorem State.countMust_of_report {before after : Urgency} (h : s.ReportsMust before after) (i : Fin 48) :
    s.countMust i before after = { s with
      watch := { s.watch with mustCount := countAfter s.watch.mustCount before after }
      notices := s.notices.marked .urgent i.val } := by
  obtain ⟨he, hm⟩ := h
  unfold State.countMust countAfter
  rw [if_pos he, if_pos he]
  rcases hm with hm | ⟨hm, hn⟩
  · simp only [hm]
    rfl
  · simp only [hm, hn, if_true]
    rfl

theorem State.countMust_of_no_report {before after : Urgency} (h : ¬ s.ReportsMust before after) (i : Fin 48) :
    s.countMust i before after = { s with
      watch := { s.watch with mustCount := countAfter s.watch.mustCount before after } } := by
  unfold State.countMust countAfter
  by_cases he : before ≠ .must ∧ after = .must
  · rw [if_pos he, if_pos he]
    cases hm : s.notices.urgentMode with
    | each => exact absurd ⟨he, .inl hm⟩ h
    | count =>
      have hn : ¬ s.watch.mustCount + 1 = s.notices.urgentThreshold := fun hn => h ⟨he, .inr ⟨hm, hn⟩⟩
      simp only [hn, if_false]
  · rw [if_neg he, if_neg he]
    split <;> rfl

/-- The notices with the report of a basis that is no forecast. -/
def Notices.gap (y : Notices) (i : Fin 48) (w : WindBasis) : Notices :=
  if w.kind = .forecast then y else y.marked .forecastGap i.val

theorem State.reportGap_eq (s : State) (i : Fin 48) (w : WindBasis) :
    s.reportGap i w = { s with notices := s.notices.gap i w } := by
  unfold State.reportGap Notices.gap
  split <;> rfl

theorem Notices.gap_urgent (y : Notices) (i : Fin 48) (w : WindBasis) : (y.gap i w).urgentMode = y.urgentMode
    ∧ (y.gap i w).urgentThreshold = y.urgentThreshold := by
  unfold Notices.gap
  split <;> exact ⟨rfl, rfl⟩

/-- An evaluation of a present pile but for its offer, written out. -/
theorem State.evaluatedAt_eq (s : State) (i : Fin 48) (p : Pile) (w : WindBasis) (counts : Bool) {after : Living}
    (ha : s.livingAfter i p w counts = after) :
    ∃ y : Notices, s.evaluatedAt i p w counts = { s with
        watch := { s.watch with
          living := s.watch.living.put i after
          mustCount := countAfter s.watch.mustCount (s.watch.living.get i).urgency after.urgency }
        notices := y }
      ∧ (s.ReportsMust (s.watch.living.get i).urgency after.urgency →
        y = (s.notices.gap i w).marked .urgent i.val)
      ∧ (¬ s.ReportsMust (s.watch.living.get i).urgency after.urgency → y = s.notices.gap i w) := by
  subst ha
  obtain ⟨hm, hn⟩ := s.notices.gap_urgent i w
  unfold State.evaluatedAt
  rw [State.reportGap_eq]
  generalize hv : ({ s.mapLiving i fun _ => s.livingAfter i p w counts with
    notices := (s.mapLiving i fun _ => s.livingAfter i p w counts).notices.gap i w } : State) = v
  have hve : v = { s with
      watch := { s.watch with living := s.watch.living.put i (s.livingAfter i p w counts) }
      notices := s.notices.gap i w } := by rw [← hv]; rfl
  have hr : v.ReportsMust (s.watch.living.get i).urgency (s.livingAfter i p w counts).urgency
      ↔ s.ReportsMust (s.watch.living.get i).urgency (s.livingAfter i p w counts).urgency := by
    rw [hve]
    unfold State.ReportsMust
    rw [hm, hn]
  by_cases h : s.ReportsMust (s.watch.living.get i).urgency (s.livingAfter i p w counts).urgency
  · refine ⟨(s.notices.gap i w).marked .urgent i.val, ?_, fun _ => rfl, fun hn => absurd h hn⟩
    rw [State.countMust_of_report (hr.2 h), hve]
  · refine ⟨s.notices.gap i w, ?_, fun hn => absurd hn h, fun _ => rfl⟩
    rw [State.countMust_of_no_report (mt hr.1 h), hve]

/-! ## The living part after an evaluation (03 R51 to R55) -/

/-- Urgency before the floors: what the grade gives, MAY demoted by rain. -/
theorem demote_urgency (g : Grade) (w : WindBasis) (dry : Nat) : demote w (g.urgency dry) =
    if g.must ≤ dry then .must else if g.need ≤ dry then .need
      else if g.may ≤ dry ∧ ¬ (w.kind = .forecast ∧ 2 ≤ w.rainClass.getD 0) then .may else .none := by
  unfold demote Grade.urgency
  split
  · rfl
  · split
    · rfl
    · by_cases hm : g.may ≤ dry
      · by_cases hr : w.kind = .forecast ∧ 2 ≤ w.rainClass.getD 0
        · simp [hm, hr]
        · rcases not_and_or.1 hr with hk | hk <;> simp [hm, hk]
      · simp [hm]

/-- The fields of a living part after an evaluation. -/
theorem Living.evaluated_eq (l : Living) (m : Model) (bed : Bed) (g : Grade) (w : WindBasis) (counts : Bool)
    {dry deferral : Nat} {graded : Urgency} {escalated : Bool} {urgency : Urgency}
    (hd : dry = drynessOf m bed w l.moisture) (hg : graded = demote w (g.urgency dry))
    (hf : deferral = if counts = true ∧ graded = .need ∧ l.deferral < 8 then l.deferral + 1 else l.deferral)
    (he : escalated = (l.escalated || decide (g.deferralLimit ≤ deferral)))
    (hu : urgency = floorUrgency escalated l.sweepDue graded) :
    l.evaluated m bed g w counts = { l with
      urgency, dryness := dry, basis := w.kind, deferral, escalated
      unqueued := l.unqueued && !decide (urgency = .none) } := by
  have hc : (counts && decide (graded = .need) && decide (l.deferral < 8)) = true
      ↔ counts = true ∧ graded = .need ∧ l.deferral < 8 := by
    rw [Bool.and_eq_true, Bool.and_eq_true, decide_eq_true_eq, decide_eq_true_eq, and_assoc]
  subst hu he hf hg hd
  simp only [← hc]
  rfl

theorem floorUrgency_of_escalated (sweepDue : Bool) (u : Urgency) : floorUrgency true sweepDue u = .must := rfl

theorem floorUrgency_of_sweep {u : Urgency} (h : u = .none ∨ u = .may) : floorUrgency false true u = .need := by
  rcases h with rfl | rfl <;> rfl

theorem floorUrgency_of_graded {sweepDue : Bool} {u : Urgency} (h : sweepDue = false ∨ u = .need ∨ u = .must) :
    floorUrgency false sweepDue u = u := by
  rcases h with rfl | rfl | rfl
  · rfl
  · cases sweepDue <;> rfl
  · cases sweepDue <;> rfl

end

section

variable {s : State} {i : Fin 48} {p : Pile} {w : WindBasis} {counts : Bool}

/-- An evaluation of a present pile is `evaluatedAt` and its offer. -/
theorem State.evaluate_offered (h : s.geometry.piles.get i = some p) (w : WindBasis) (counts offers : Bool) :
    (s.evaluatedAt i p w counts).Offered i (s.evaluate i w counts offers) := by
  rw [State.evaluate_of_present h]
  cases offers
  · exact .refl _ i
  · exact State.offerRule_offered _ i

theorem State.evaluatedAt_living (s : State) (i : Fin 48) (p : Pile) (w : WindBasis) (counts : Bool) (j : Fin 48) :
    (s.evaluatedAt i p w counts).watch.living.get j
      = if i = j then s.livingAfter i p w counts else s.watch.living.get j := by
  obtain ⟨y, h, -⟩ := s.evaluatedAt_eq i p w counts rfl
  rw [h]
  exact Table.get_put _ _ _ _

/-- The report of a basis that is no forecast stands after the report of a MUST. -/
theorem State.evaluatedAt_gap (s : State) (i : Fin 48) (p : Pile) (w : WindBasis) (counts : Bool) {k : Fin 9}
    (hk : k ≠ NoticeKind.urgent.place) :
    (s.evaluatedAt i p w counts).notices.pending.get k = (s.notices.gap i w).pending.get k
      ∧ (s.evaluatedAt i p w counts).notices.subjects.get k = (s.notices.gap i w).subjects.get k := by
  obtain ⟨y, h, hr, hn⟩ := s.evaluatedAt_eq i p w counts rfl
  rw [h]
  by_cases hrep : s.ReportsMust (s.watch.living.get i).urgency (s.livingAfter i p w counts).urgency
  · rw [hr hrep]
    exact ⟨(Table.get_put _ _ _ _).trans (if_neg (Ne.symm hk)), (Table.get_put _ _ _ _).trans (if_neg (Ne.symm hk))⟩
  · rw [hn hrep]
    exact ⟨rfl, rfl⟩

theorem Notices.gap_of_forecast (y : Notices) (i : Fin 48) (h : w.kind = .forecast) : y.gap i w = y := if_pos h

theorem Notices.gap_of_other (y : Notices) (i : Fin 48) (h : w.kind ≠ .forecast) :
    y.gap i w = y.marked .forecastGap i.val := if_neg h

theorem Notices.gap_of_ne (y : Notices) (i : Fin 48) (w : WindBasis) {k : Fin 9}
    (hk : k ≠ NoticeKind.forecastGap.place) :
    (y.gap i w).pending.get k = y.pending.get k ∧ (y.gap i w).subjects.get k = y.subjects.get k := by
  unfold Notices.gap
  split
  · exact ⟨rfl, rfl⟩
  · exact ⟨(Table.get_put _ _ _ _).trans (if_neg (Ne.symm hk)), (Table.get_put _ _ _ _).trans (if_neg (Ne.symm hk))⟩

theorem Notices.gap_self (y : Notices) (i : Fin 48) (w : WindBasis) {k : Fin 9} (hk : k = NoticeKind.forecastGap.place) :
    (y.gap i w).pending.get k = (if w.kind = .forecast then y.pending.get k else true)
      ∧ (y.gap i w).subjects.get k = if w.kind = .forecast then y.subjects.get k else i.val := by
  subst hk
  unfold Notices.gap
  split
  · exact ⟨rfl, rfl⟩
  · exact ⟨(Table.get_put _ _ _ _).trans (if_pos rfl), (Table.get_put _ _ _ _).trans (if_pos rfl)⟩

theorem forecastGap_ne_urgent : NoticeKind.forecastGap.place ≠ NoticeKind.urgent.place := by decide

/-- The living part that an evaluation leaves, field by field (03 R51 to R55). -/
theorem State.evaluate_living {g : Grade} {offers : Bool} {l m : Living} {dry : Nat} {graded : Urgency}
    (hp : s.geometry.piles.get i = some p) (hg : g = s.watch.grades.get p.grade) (hl : l = s.watch.living.get i)
    (hm : m = (s.evaluate i w counts offers).watch.living.get i)
    (hd : dry = drynessOf s.watch.model (s.geometry.beds.get p.bed) w l.moisture)
    (hgr : graded = demote w (g.urgency dry)) :
    m.moisture = l.moisture ∧ m.dryness = dry ∧ m.basis = w.kind ∧ m.sweepDue = l.sweepDue
      ∧ m.bedMark = l.bedMark ∧ m.engaged = l.engaged ∧ m.wetting = l.wetting
      ∧ m.deferral = (if counts = true ∧ graded = .need ∧ l.deferral < 8 then l.deferral + 1
          else l.deferral)
      ∧ m.escalated = (l.escalated || decide (g.deferralLimit ≤ m.deferral))
      ∧ m.urgency = floorUrgency m.escalated l.sweepDue graded := by
  have hla : s.livingAfter i p w counts = l.evaluated s.watch.model (s.geometry.beds.get p.bed) g w counts := by
    rw [hl, hg]
    rfl
  have hev := Living.evaluated_eq l s.watch.model (s.geometry.beds.get p.bed) g w counts hd hgr rfl rfl rfl
  have ha := (State.evaluate_offered hp w counts offers).apart i
  rw [State.evaluatedAt_living, if_pos rfl, ← hm, hla, hev] at ha
  unfold Living.Apart at ha
  generalize hde : (if counts = true ∧ graded = .need ∧ l.deferral < 8 then l.deferral + 1
    else l.deferral) = deferral at ha
  have h1 : m.deferral = deferral := by rw [ha]
  have h2 : m.escalated = (l.escalated || decide (g.deferralLimit ≤ deferral)) := by rw [ha]
  rw [h1, h2]
  rw [ha]
  exact ⟨rfl, rfl, rfl, rfl, rfl, rfl, rfl, rfl, rfl, rfl⟩

end

/-- Settles O28: the living part and the notices that an evaluation leaves, the MUST count, and the offer rule. -/
theorem evaluationGrades : Obligations.EvaluationGrades := by
  refine ⟨fun s t i p g w counts offers l m dry graded hp hg hl ht hm hd hgr => ?_,
    fun s i p w counts offers hp => ?_, fun s i => ⟨fun h => ?_, fun he hm => ?_, ?_⟩,
    fun s i w counts offers => ⟨rfl, fun h => State.evaluate_of_absent h w counts offers⟩⟩
  · subst ht
    have hd' : dry = drynessOf s.watch.model (s.geometry.beds.get p.bed) w l.moisture := hd
    rw [← demote_urgency] at hgr
    obtain ⟨h1, h2, h3, h4, h5, h6, h7, h8, h9, h10⟩ := State.evaluate_living hp hg hl hm hd' hgr
    have hn := (State.evaluate_offered hp w counts offers).notices
    obtain ⟨hgp, hgs⟩ := s.evaluatedAt_gap i p w counts forecastGap_ne_urgent
    obtain ⟨hsp, hss⟩ := s.notices.gap_self i w rfl
    refine ⟨h1, h2, h3, h4, h5, h6, h7, h8, ?_, fun he => ?_, fun he hsw hgr => ?_, fun he hgr => ?_,
      fun hk => ?_, fun hk => ?_⟩
    · rw [h9, Bool.or_eq_true, decide_eq_true_eq]
    · rw [h10, he, floorUrgency_of_escalated]
    · rw [h10, he, hsw, floorUrgency_of_sweep hgr]
    · rw [h10, he, floorUrgency_of_graded hgr]
    · rw [hn, hgp, hgs, hsp, hss, if_neg hk, if_neg hk]
      exact ⟨rfl, rfl⟩
    · rw [hn, hgp, hgs, hsp, hss, if_pos hk, if_pos hk]
      exact ⟨rfl, rfl⟩
  · obtain ⟨y, hy, hr, hnr⟩ := s.evaluatedAt_eq i p w counts rfl
    have hgap := fun k hk => s.evaluatedAt_gap i p w counts (k := k) hk
    refine ⟨s.evaluatedAt i p w counts, State.evaluate_of_present hp w counts offers, s.evaluatedAt_frame i p w counts,
      ?_, ?_, ?_, ?_, ?_, ?_, fun k hk hk' => ?_, fun k hk => ?_, fun j hj => ?_, ?_, ?_, ?_⟩
    · rw [hy]
    · rw [hy]
    · rw [hy]
    · rw [hy]
    · rw [hy]
    · have hf := s.evaluatedAt_frame i p w counts
      have h1 : (s.evaluatedAt i p w counts).notices.allFaulted = s.notices.allFaulted := by
        rw [hy]
        by_cases hrep : s.ReportsMust (s.watch.living.get i).urgency (s.livingAfter i p w counts).urgency
        · rw [hr hrep]
          unfold Notices.gap
          split <;> rfl
        · rw [hnr hrep]
          unfold Notices.gap
          split <;> rfl
      have h2 : (s.evaluatedAt i p w counts).notices.enables = s.notices.enables := congrArg Frame.enables hf
      have h3 : (s.evaluatedAt i p w counts).notices.urgentMode = s.notices.urgentMode := congrArg Frame.urgentMode hf
      have h4 : (s.evaluatedAt i p w counts).notices.urgentThreshold = s.notices.urgentThreshold :=
        congrArg Frame.urgentThreshold hf
      show _ = Notices.mk _ _ s.notices.allFaulted s.notices.enables s.notices.urgentMode s.notices.urgentThreshold
      rw [← h1, ← h2, ← h3, ← h4]
    · rw [(hgap k hk).1, (hgap k hk).2, (s.notices.gap_of_ne i w hk').1, (s.notices.gap_of_ne i w hk').2]
      exact ⟨rfl, rfl⟩
    · have hku : k ≠ NoticeKind.urgent.place := hk ▸ forecastGap_ne_urgent
      rw [(hgap k hku).1, (hgap k hku).2]
      exact s.notices.gap_self i w hk
    · rw [State.evaluatedAt_living, if_neg (Ne.symm hj)]
    · rw [State.evaluatedAt_living, if_pos rfl]
      rfl
    · rw [State.evaluatedAt_living, if_pos rfl]
      rfl
    · intro before after enters leaves hb ha hen hle
      rw [State.evaluatedAt_living, if_pos rfl] at ha
      subst hb ha
      have hmc : (s.evaluatedAt i p w counts).watch.mustCount = countAfter s.watch.mustCount
          (s.watch.living.get i).urgency (s.livingAfter i p w counts).urgency := by rw [hy]
      have hnot : (s.evaluatedAt i p w counts).notices = y := by rw [hy]
      have hex : enters → ¬ leaves := fun he hl => (hle.1 hl).2 (hen.1 he).2
      rw [hmc, hnot]
      unfold countAfter
      refine ⟨fun he => if_pos (hen.1 he), fun hl => ?_, fun he hl => ?_, fun he hm => ?_, fun h => ?_⟩
      · rw [if_neg (mt hen.2 fun he => hex he hl), if_pos (hle.1 hl)]
      · rw [if_neg (mt hen.2 he), if_neg (mt hle.2 hl)]
      · rw [hr ⟨hen.1 he, hm⟩]
        exact ⟨(Table.get_put _ _ _ _).trans (if_pos rfl), (Table.get_put _ _ _ _).trans (if_pos rfl)⟩
      · have hrep : ¬ s.ReportsMust (s.watch.living.get i).urgency (s.livingAfter i p w counts).urgency := by
          rintro ⟨he, hm⟩
          rcases h with h | ⟨hc, hne⟩
          · exact h (hen.2 he)
          · rcases hm with hm | ⟨-, hm⟩
            · rw [hc] at hm
              exact absurd hm (by simp)
            · exact hne hm
        rw [hnr hrep]
        exact s.notices.gap_of_ne i w (Ne.symm forecastGap_ne_urgent)
  · exact State.offerRule_of_none h
  · exact State.offerRule_of_offer he hm
  · exact (s.offerRule_offered i).notices

end Sys2Proof.Machine

/-! PROOFS. An assessment, pile by pile, and the wind basis of a time (O29). -/

namespace Sys2Proof.Machine

section

variable {s : State} {i j : Fin 48} {p : Pile} {w : WindBasis}

/-! ## One pile's assessment (03 R50 to R56) -/

theorem State.mapLiving_living (s : State) (i j : Fin 48) (f : Living → Living) :
    (s.mapLiving i f).watch.living.get j = if i = j then f (s.watch.living.get i) else s.watch.living.get j :=
  Table.get_modify _ _ _ _

theorem State.mapLiving_hasOrder (s : State) (i j : Fin 48) (f : Living → Living) :
    (s.mapLiving i f).hasOrder j = s.hasOrder j := rfl

theorem State.assessPile_of_absent (h : s.geometry.piles.get i = none) (w : WindBasis) (rain : Bool) :
    s.assessPile w rain i = s := if_pos (by rw [h]; rfl)

/-- The state in which a pile's evaluation begins: its moisture is the assessed one. -/
def State.dried (s : State) (w : WindBasis) (rain : Bool) (i : Fin 48) : State :=
  s.mapLiving i fun l => { l with moisture := assessedMoisture s.watch.model w rain l.moisture }

/-- A deferral is due: Carried is set and the pile has a queued order (03 R53). -/
def State.counts (s : State) (i : Fin 48) : Bool := (s.watch.living.get i).carried && s.hasOrder i

/-- Carried is set exactly where the pile has a queued order (03 R56). -/
def State.carries (s : State) (i : Fin 48) : State := s.mapLiving i fun l => { l with carried := s.hasOrder i }

theorem State.assessPile_of_present (h : s.geometry.piles.get i = some p) (w : WindBasis) (rain : Bool) :
    s.assessPile w rain i = ((s.dried w rain i).evaluate i w (s.counts i) true).carries i := by
  have hn : ¬ (s.geometry.piles.get i).isNone = true := by simp [h]
  exact if_neg hn

/-- An evaluation of a present pile leaves another pile's living part but for its Carried and Unqueued. -/
theorem State.evaluate_other (h : s.geometry.piles.get i = some p) (w : WindBasis) (counts offers : Bool)
    (hj : j ≠ i) :
    (s.watch.living.get j).Apart ((s.evaluate i w counts offers).watch.living.get j)
      ∧ (s.CarriedRight j → (s.evaluate i w counts offers).CarriedRight j) := by
  have hl := s.evaluatedAt_living i p w counts j
  rw [if_neg (Ne.symm hj)] at hl
  have hq : (s.evaluatedAt i p w counts).hasOrder j = s.hasOrder j := by
    obtain ⟨y, hy, -⟩ := s.evaluatedAt_eq i p w counts rfl
    rw [hy]
    rfl
  have ho := State.evaluate_offered h w counts offers
  refine ⟨hl ▸ ho.apart j, fun hs => ho.carries j hj ?_⟩
  unfold State.CarriedRight at hs ⊢
  rw [hl, hq, hs]

theorem State.assessPile_other (s : State) (w : WindBasis) (rain : Bool) (hj : j ≠ i) :
    (s.watch.living.get j).Apart ((s.assessPile w rain i).watch.living.get j)
      ∧ (s.CarriedRight j → (s.assessPile w rain i).CarriedRight j) := by
  cases hp : s.geometry.piles.get i with
  | none =>
    rw [State.assessPile_of_absent hp]
    exact ⟨.refl _, id⟩
  | some p =>
    rw [State.assessPile_of_present hp]
    have hd : (s.dried w rain i).watch.living.get j = s.watch.living.get j :=
      (State.mapLiving_living _ _ _ _).trans (if_neg (Ne.symm hj))
    obtain ⟨ha, hc⟩ := State.evaluate_other (s := s.dried w rain i) hp w (s.counts i) true hj
    rw [hd] at ha
    generalize (s.dried w rain i).evaluate i w (s.counts i) true = e at ha hc
    have he : (e.carries i).watch.living.get j = e.watch.living.get j :=
      (State.mapLiving_living _ _ _ _).trans (if_neg (Ne.symm hj))
    refine ⟨he ▸ ha, fun hs => ?_⟩
    have hr : (s.dried w rain i).CarriedRight j := by
      unfold State.CarriedRight at hs ⊢
      rw [hd, hs]
      rfl
    have hc := hc hr
    unfold State.CarriedRight at hc ⊢
    rw [he, hc]
    rfl

theorem State.assessPile_self (h : s.geometry.piles.get i = some p) (w : WindBasis) (rain : Bool) :
    ((s.assessPile w rain i).watch.living.get i).moisture
        = assessedMoisture s.watch.model w rain (s.watch.living.get i).moisture
      ∧ ((s.assessPile w rain i).watch.living.get i).basis = w.kind
      ∧ (s.assessPile w rain i).CarriedRight i := by
  rw [State.assessPile_of_present h]
  have hd : (s.dried w rain i).watch.living.get i = { s.watch.living.get i with
      moisture := assessedMoisture s.watch.model w rain (s.watch.living.get i).moisture } :=
    (State.mapLiving_living _ _ _ _).trans (if_pos rfl)
  obtain ⟨hm, -, hb, -⟩ := State.evaluate_living (s := s.dried w rain i) (counts := s.counts i) (offers := true)
    (w := w) h rfl rfl rfl rfl rfl
  rw [hd] at hm
  generalize (s.dried w rain i).evaluate i w (s.counts i) true = e at hm hb
  have he : (e.carries i).watch.living.get i = { e.watch.living.get i with carried := e.hasOrder i } :=
    (State.mapLiving_living _ _ _ _).trans (if_pos rfl)
  refine ⟨?_, ?_, ?_⟩
  · rw [he]
    exact hm
  · rw [he]
    exact hb
  · unfold State.CarriedRight
    rw [he]
    rfl

/-! ## The walk of an assessment (03 R49) -/

/-- The pile's living part is `l` but for its Carried and Unqueued, and the frame is that of `s`. -/
def State.Untouched (s : State) (i : Fin 48) (t : State) : Prop :=
  t.frame = s.frame ∧ (s.watch.living.get i).Apart (t.watch.living.get i)

theorem State.assess_eq (s : State) (time : Stamp) : s.assess time
    = s.forEach (List.finRange 48) fun u i => u.assessPile (s.windBasis time) s.field.lines.rain.filtered i := rfl

theorem State.Untouched.assessPile {t : State} (h : s.Untouched i t) (w : WindBasis) (rain : Bool)
    (hj : j ≠ i ∨ s.geometry.piles.get i = none) : s.Untouched i (t.assessPile w rain j) := by
  obtain ⟨hf, ha⟩ := h
  refine ⟨(t.assessPile_frame w rain j).trans hf, ?_⟩
  by_cases hji : j = i
  · subst hji
    have hp : t.geometry.piles.get j = none := by
      rw [show t.geometry = s.geometry from congrArg Frame.geometry hf]
      exact hj.resolve_left (by simp)
    rwa [State.assessPile_of_absent hp]
  · exact ha.trans (t.assessPile_other w rain (Ne.symm hji)).1

theorem State.assess_absent (time : Stamp) (h : s.geometry.piles.get i = none) : s.Untouched i (s.assess time) :=
  s.forEach_inv (s.Untouched i) _ _ (fun _ _ _ ht => ht.assessPile _ _ (.inr h)) ⟨rfl, .refl _⟩

/-- What an assessment leaves of a present pile. -/
def State.Assessed (t : State) (i : Fin 48) (moisture : Nat) (w : WindBasis) : Prop :=
  (t.watch.living.get i).moisture = moisture ∧ (t.watch.living.get i).basis = w.kind ∧ t.CarriedRight i

theorem State.Assessed.assessPile {t : State} {m : Nat} (h : t.Assessed i m w) (v : WindBasis) (rain : Bool)
    (hj : j ≠ i) : (t.assessPile v rain j).Assessed i m w := by
  obtain ⟨hm, hb, hc⟩ := h
  obtain ⟨ha, hr⟩ := t.assessPile_other v rain (Ne.symm hj)
  unfold Living.Apart at ha
  refine ⟨?_, ?_, hr hc⟩
  · rw [ha]
    exact hm
  · rw [ha]
    exact hb

theorem State.assess_present (time : Stamp) (h : s.geometry.piles.get i = some p) :
    (s.assess time).Assessed i (assessedMoisture s.watch.model (s.windBasis time) s.field.lines.rain.filtered
      (s.watch.living.get i).moisture) (s.windBasis time) := by
  obtain ⟨l₁, l₂, hl⟩ := List.append_of_mem (List.mem_finRange i)
  have hnd : (l₁ ++ i :: l₂).Nodup := hl ▸ List.nodup_finRange 48
  obtain ⟨-, hn₂, hd⟩ := List.nodup_append.1 hnd
  obtain ⟨hi₂, -⟩ := List.nodup_cons.1 hn₂
  rw [State.assess_eq, hl, State.forEach, List.foldl_append, List.foldl_cons]
  refine State.forEach_inv _ (fun t => t.Assessed i _ _) l₂ _
    (fun t j hj ht => ht.assessPile _ _ fun hji => hi₂ (hji ▸ hj)) ?_
  obtain ⟨hf, ha⟩ := s.forEach_inv (s.Untouched i) l₁
    (fun u i => u.assessPile (s.windBasis time) s.field.lines.rain.filtered i)
    (fun t j hj ht => ht.assessPile _ _ (.inl (hd j hj i (List.mem_cons_self)))) ⟨rfl, .refl _⟩
  unfold State.forEach at hf ha
  generalize l₁.foldl _ s = u at hf ha
  have hp : u.geometry.piles.get i = some p := by
    rw [show u.geometry = s.geometry from congrArg Frame.geometry hf]
    exact h
  have hm : u.watch.model = s.watch.model := congrArg Frame.model hf
  unfold Living.Apart at ha
  have hmo : (u.watch.living.get i).moisture = (s.watch.living.get i).moisture := by rw [ha]
  have hself := State.assessPile_self hp (s.windBasis time) s.field.lines.rain.filtered
  rw [hm, hmo] at hself
  exact hself

/-! ## The wind basis of a time (02 R37, R38) -/

theorem band_val (thresholds : Table 3 Nat) (v : Nat) :
    (band thresholds v).val = ((List.finRange 3).filter fun k => thresholds.get k ≤ v).length := by
  rw [show List.finRange 3 = [0, 1, 2] from rfl]
  unfold band
  simp only [List.filter_cons, List.filter_nil, decide_eq_true_eq]
  by_cases h0 : thresholds.get 0 ≤ v <;> by_cases h1 : thresholds.get 1 ≤ v <;> by_cases h2 : thresholds.get 2 ≤ v
    <;> simp [h0, h1, h2]

variable {time : Stamp} {k : Fin 36}

theorem State.windBasis_of_slot {x : Slot} (h : s.horizon.slotFor time.hour = some x) : s.windBasis time =
    { kind := .forecast, speedBand := band s.watch.model.speed x.meanSpeed,
      humidityClass := band s.watch.model.humidity x.humidity, sector := some x.sector,
      rainClass := some x.rainClass } := by
  unfold State.windBasis
  rw [h]

theorem State.windBasis_of_observation {o : Observation} (h : s.horizon.slotFor time.hour = none)
    (ho : s.horizon.freshObservation = some o) : s.windBasis time =
    { kind := .observed, speedBand := band s.watch.model.speed o.speed,
      humidityClass := band s.watch.model.humidity o.humidity, sector := some o.sector, rainClass := none } := by
  unfold State.windBasis
  rw [h, ho]

theorem State.windBasis_of_none (h : s.horizon.slotFor time.hour = none) (ho : s.horizon.freshObservation = none) :
    s.windBasis time =
      { kind := .worst, speedBand := 3, humidityClass := 0, sector := none, rainClass := none } := by
  unfold State.windBasis
  rw [h, ho]

theorem Horizon.slotFor_of_place {z : Horizon} {h : Nat} (hk : k.val = h % 36) :
    (∀ x, z.slots.get k = some x → x.hour = h → z.slotFor h = some x)
      ∧ ((∀ x, z.slots.get k = some x → x.hour ≠ h) → z.slotFor h = none) := by
  have hke : Fin.ofNat 36 h = k := Fin.ext hk.symm
  unfold Horizon.slotFor
  rw [hke]
  cases z.slots.get k with
  | none => exact ⟨fun _ he => absurd he (by simp), fun _ => rfl⟩
  | some y =>
    refine ⟨fun x hx hh => ?_, fun hh => if_neg (hh y rfl)⟩
    obtain rfl := Option.some.inj hx
    exact if_pos hh

theorem Horizon.freshObservation_of_fresh {z : Horizon} {o : Observation} (h : z.observation = some o)
    (hf : o.fresh = true) : z.freshObservation = some o := by
  unfold Horizon.freshObservation
  rw [h]
  exact if_pos hf

theorem Horizon.freshObservation_of_not_fresh {z : Horizon} (h : ∀ o, z.observation = some o → o.fresh = false) :
    z.freshObservation = none := by
  unfold Horizon.freshObservation
  cases ho : z.observation with
  | none => rfl
  | some o => exact if_neg (by rw [h o ho]; exact Bool.false_ne_true)

/-! ## ASSESSMENT -/

theorem State.beyondWatch_engine {t : State} (h : t.beyondWatch = s.beyondWatch) :
    t.engine = { s.engine with asked := t.engine.asked } :=
  congrArg (fun x : State => { x.engine with asked := t.engine.asked }) h

theorem exec_assessment_of_raised (h : s.live = true) (ha : s.clock.assessmentRaised = some time) :
    exec .assessment s
      = .next ((s.setClock { s.clock with assessmentRaised := none }).assess time).eventEnd := by
  refine exec_of_event rfl h ?_
  dsimp only
  rw [ha]

theorem exec_assessment_of_none (h : s.live = true) (ha : s.clock.assessmentRaised = none) :
    exec .assessment s = .next s.eventEnd := by
  refine exec_of_event rfl h ?_
  dsimp only
  rw [ha]

end

/-- One pile's turn in an assessment, as the statement of O29 writes it. -/
theorem State.assessPile_eq_of {next : State → Fin 48 → State} {w : WindBasis} {rain : Bool}
    (absent : ∀ v i, v.geometry.piles.get i = none → next v i = v)
    (present : ∀ (v e : State) i p (l : Living) (dried moisture : Nat) (counts : Bool),
      v.geometry.piles.get i = some p → l = v.watch.living.get i →
      dried = l.moisture - (v.watch.model.dry.get w.speedBand).get w.humidityClass →
      moisture = (if rain = true then min 100 (dried + v.watch.model.rainGain) else dried) →
      (counts = true ↔ l.carried = true ∧ ∃ o ∈ v.queue, o.pile = i) →
      e = ({ v with
        watch := { v.watch with living := v.watch.living.put i { l with moisture } } } :
          State).evaluate i w counts true →
      next v i = { e with
        watch := { e.watch with
          living := e.watch.living.put i { e.watch.living.get i with carried := e.hasOrder i } } })
    (v : State) (i : Fin 48) : next v i = v.assessPile w rain i := by
  cases hp : v.geometry.piles.get i with
  | none => rw [absent v i hp, State.assessPile_of_absent hp]
  | some p =>
    rw [State.assessPile_of_present hp]
    refine present v _ i p _ _ _ (v.counts i) hp rfl rfl rfl ?_ rfl
    rw [State.counts, Bool.and_eq_true, State.hasOrder_iff]

/-- Settles O29: an assessment pile by pile, the walk itself, the bands and the wind basis of a time. -/
theorem assessmentDriesEveryPile : Obligations.AssessmentDriesEveryPile := by
  refine ⟨fun s hlive => ⟨fun time w ha hw => ?_, fun time w ha hw next absent present => ?_,
    fun i => State.hasOrder_iff, exec_assessment_of_none hlive⟩, band_val, fun s time h hh => ⟨fun k hk x hx hxh => ?_,
      fun k hk hno => ⟨fun o ho hf => ?_, fun ho => ?_⟩⟩⟩
  · subst hw
    generalize hv : s.setClock { s.clock with assessmentRaised := none } = v
    have hex := exec_assessment_of_raised hlive ha
    rw [hv] at hex
    obtain ⟨-, -, hwat, -, -⟩ := State.beyondWatch_fields (v.assess_beyondWatch time)
    have heng := State.beyondWatch_engine (v.assess_beyondWatch time)
    have hfr := v.assess_frame time
    have habs := fun i => State.assess_absent (s := v) (i := i) time
    have hpres := fun i p => State.assess_present (s := v) (i := i) (p := p) time
    generalize v.assess time = u at *
    subst hv
    refine ⟨u, hex, hfr, heng, hwat, fun i hi => (habs i hi).2, fun i p hp dried hdr => ?_⟩
    obtain ⟨hm, hb, hc⟩ := hpres i p hp
    refine ⟨hm.trans ?_, hb, hc⟩
    rw [hdr]
    rfl
  · subst hw
    rw [exec_assessment_of_raised hlive ha, State.assess_eq]
    exact congrArg (fun u => Host.Outcome.next (State.eventEnd u))
      (foldl_of_step (State.assessPile_eq_of absent present) (List.finRange 48) _).symm
  · subst hh
    exact State.windBasis_of_slot ((Horizon.slotFor_of_place hk).1 x hx hxh)
  · subst hh
    exact State.windBasis_of_observation ((Horizon.slotFor_of_place hk).2 hno) (Horizon.freshObservation_of_fresh ho hf)
  · subst hh
    exact State.windBasis_of_none ((Horizon.slotFor_of_place hk).2 hno) (Horizon.freshObservation_of_not_fresh ho)

end Sys2Proof.Machine

/-! PROOFS. ORDER and the offers of Pile Watch: the refusals (O31), joining, displacement and merging (O32). -/

namespace Sys2Proof.Machine

section

variable {s : State} {pile priority cannon : Byte} {i : Fin 48} {p : Pile} {r : Priority}
  {named : Option (Fin 24)} {o x : Order}

/-! ## The parameters of ORDER (10, table 10.1) -/

theorem priorityOf_of_code (h : priority.toNat = r.code) : priorityOf priority = some r := by
  unfold priorityOf
  rw [h]
  cases r <;> rfl

theorem priorityOf_of_le (h : 2 ≤ priority.toNat) : priorityOf priority = none := by
  unfold priorityOf
  split
  · omega
  · omega
  · rfl

theorem exists_priorityOf (h : priority.toNat < 2) : ∃ r, priorityOf priority = some r := by
  obtain h | h : priority.toNat = Priority.normal.code ∨ priority.toNat = Priority.high.code := by
    simp only [Priority.code]
    omega
  · exact ⟨_, priorityOf_of_code h⟩
  · exact ⟨_, priorityOf_of_code h⟩

theorem cannonParameter_of_index {k : Fin 24} (h : cannon.toNat = k.val) :
    cannonParameter cannon = some (some k) := by
  have hne : cannon ≠ 0xFF := by
    rintro rfl
    have := k.isLt
    have h255 : (0xFF : Byte).toNat = 255 := rfl
    omega
  unfold cannonParameter
  rw [if_neg hne, index?_of_toNat_eq h]

theorem cannonParameter_of_toNat (h : cannon.toNat = (named.map (·.val)).getD 255) :
    cannonParameter cannon = some named := by
  cases named with
  | none => exact if_pos (BitVec.eq_of_toNat_eq h)
  | some k => exact cannonParameter_of_index h

theorem exists_cannonParameter (h : cannon.toNat < 24 ∨ cannon = 0xFF) :
    ∃ named, cannonParameter cannon = some named := by
  rcases h with h | h
  · exact ⟨_, cannonParameter_of_index (k := ⟨cannon.toNat, h⟩) rfl⟩
  · exact ⟨none, if_pos h⟩

theorem cannonParameter_of_none (h : ¬ (cannon.toNat < 24 ∨ cannon = 0xFF)) : cannonParameter cannon = none := by
  obtain ⟨h1, h2⟩ := not_or.1 h
  unfold cannonParameter
  rw [if_neg h2, index?_of_le (Nat.not_lt.1 h1)]

/-! ## The tests of ORDER (05 R94) -/

theorem exec_order_eq {t : State} {a : Answer} (h : s.Accepts) (ht : s.order pile priority cannon = (t, a)) :
    exec (.order pile priority cannon) s = .next (t.commandEnd Code.order a) :=
  exec_of_command rfl h ht

theorem State.draining_iff : s.draining = true ↔ s.control.mode = .draining ∨ s.control.mode = .drained := by
  simp [State.draining]

theorem State.order_of_draining (h : s.draining = true) :
    s.order pile priority cannon = (s, some (.held, pile)) := if_pos h

theorem State.order_of_out (hd : ¬ s.draining = true)
    (h : index? 48 pile = none ∨ priorityOf priority = none ∨ cannonParameter cannon = none) :
    s.order pile priority cannon = (s, some (.range, 0)) := by
  unfold State.order
  rw [if_neg hd]
  rcases h with h | h | h
  · rw [h]
  · cases index? 48 pile <;> rw [h]
  · cases index? 48 pile <;> cases priorityOf priority <;> rw [h]

theorem State.order_of_in (hd : ¬ s.draining = true) (hi : index? 48 pile = some i)
    (hr : priorityOf priority = some r) (hn : cannonParameter cannon = some named) {t : State} {x : Result}
    (ht : s.orderPile i r named = (t, x)) : s.order pile priority cannon = (t, some (x, pile)) := by
  unfold State.order
  rw [if_neg hd, hi, hr, hn]
  dsimp only
  rw [ht]

theorem State.orderPile_of_absent (hp : s.geometry.piles.get i = none) : s.orderPile i r named = (s, .noSuch) := by
  unfold State.orderPile
  rw [hp]

theorem State.orderPile_of_engaged (hp : s.geometry.piles.get i = some p)
    (he : (s.watch.living.get i).engaged = true) : s.orderPile i r named = (s, .engaged) := by
  unfold State.orderPile
  rw [hp]
  exact if_pos he

theorem State.orderPile_of_free (hp : s.geometry.piles.get i = some p)
    (he : (s.watch.living.get i).engaged = false) :
    s.orderPile i r named = if s.uncovers named p then (s, .uncovered) else s.placeOrder i r named := by
  unfold State.orderPile
  rw [hp]
  exact if_neg (by simp [he])

theorem State.uncovers_of_cannon {k : Fin 24} (h : ∀ c, s.geometry.cannons.get k = some c → c.coversPile p = false) :
    s.uncovers (some k) p = true := by
  unfold State.uncovers
  dsimp only
  cases hc : s.geometry.cannons.get k with
  | none => rfl
  | some c => simp [h c hc]

theorem State.uncovers_of_covered
    (h : ∀ k, named = some k → ∃ c, s.geometry.cannons.get k = some c ∧ c.coversPile p = true) :
    s.uncovers named p = false := by
  cases named with
  | none => rfl
  | some k =>
    obtain ⟨c, hc, hp⟩ := h k rfl
    simp [State.uncovers, hc, hp]

/-- ORDER for a pile that passes tests 1 to 5 places its order. -/
theorem State.order_of_placed (hm : s.control.mode = .active ∨ s.control.mode = .held) (hi : pile.toNat = i.val)
    (hr : priority.toNat = r.code) (hn : cannon.toNat = (named.map (·.val)).getD 255)
    (hp : s.geometry.piles.get i = some p) (he : (s.watch.living.get i).engaged = false)
    (hc : ∀ k, named = some k → ∃ c, s.geometry.cannons.get k = some c ∧ c.coversPile p = true)
    {t : State} {x : Result} (ht : s.placeOrder i r named = (t, x)) :
    s.order pile priority cannon = (t, some (x, pile)) := by
  have hd : ¬ s.draining = true := by
    rw [State.draining_iff]
    rcases hm with hm | hm <;> simp [hm]
  refine State.order_of_in hd (index?_of_toNat_eq hi) (priorityOf_of_code hr) (cannonParameter_of_toNat hn) ?_
  rw [State.orderPile_of_free hp he, State.uncovers_of_covered hc]
  exact ht

end

/-- Settles O31: the tests of ORDER in order. -/
theorem orderRefusals : Obligations.OrderRefusals := by
  intro s pile priority cannon h drains inRange hdr hin
  have hd : drains ↔ s.draining = true := hdr.trans State.draining_iff.symm
  refine ⟨fun h1 => exec_order_eq h (State.order_of_draining (hd.1 h1)), fun h1 h2 => ?_, fun i hi h1 h2 => ?_⟩
  · refine exec_order_eq h (State.order_of_out (mt hd.2 h1) ?_)
    by_cases hp : pile.toNat < 48
    · by_cases hr : priority.toNat < 2
      · exact .inr (.inr (cannonParameter_of_none fun hc => h2 (hin.2 ⟨hp, hr, hc⟩)))
      · exact .inr (.inl (priorityOf_of_le (Nat.not_lt.1 hr)))
    · exact .inl (index?_of_le (Nat.not_lt.1 hp))
  · obtain ⟨-, hr, hc⟩ := hin.1 h2
    obtain ⟨r, hr⟩ := exists_priorityOf hr
    obtain ⟨named, hc⟩ := exists_cannonParameter hc
    have hx := index?_of_toNat_eq hi.symm
    refine ⟨fun ha => ?_, fun p hp => ⟨fun he => ?_, fun he k hk hcov => ?_⟩⟩
    · exact exec_order_eq h (State.order_of_in (mt hd.2 h1) hx hr hc (State.orderPile_of_absent ha))
    · exact exec_order_eq h (State.order_of_in (mt hd.2 h1) hx hr hc (State.orderPile_of_engaged hp he))
    · refine exec_order_eq h (State.order_of_in (mt hd.2 h1) hx hr (cannonParameter_of_index hk.symm) ?_)
      rw [State.orderPile_of_free hp he, State.uncovers_of_cannon hcov]
      rfl

section

variable {s : State} {i : Fin 48} {o d x b : Order} {r : Nat} {l : List Order}

/-! ## The order that displacement removes (05 R93) -/

/-- An order that a joining order of rank `r` may displace. -/
def Order.Yields (o : Order) (r : Nat) : Prop := o.operator = none ∧ o.rank < r

/-- Of the orders that may be displaced, `d` is the youngest of the lowest rank. -/
def Displaces (l : List Order) (r : Nat) (d : Order) : Prop :=
  ∃ before after, l = before ++ d :: after ∧ d.Yields r
    ∧ (∀ x ∈ before, x.Yields r → d.rank ≤ x.rank) ∧ ∀ x ∈ after, x.Yields r → d.rank < x.rank

theorem Displaces.concat_same (h : Displaces l r d) (hx : x.Yields r → d.rank < x.rank) :
    Displaces (l ++ [x]) r d := by
  obtain ⟨before, after, rfl, hd, hb, ha⟩ := h
  refine ⟨before, after ++ [x], by simp, hd, hb, fun y hy => ?_⟩
  rcases List.mem_append.1 hy with hy | hy
  · exact ha y hy
  · obtain rfl := List.mem_singleton.1 hy
    exact hx

theorem Displaces.rank_le (h : Displaces l r d) (hx : x ∈ l) (hy : x.Yields r) : d.rank ≤ x.rank := by
  obtain ⟨before, after, rfl, -, hb, ha⟩ := h
  rcases List.mem_append.1 hx with hx | hx
  · exact hb x hx hy
  · rcases List.mem_cons.1 hx with rfl | hx
    · exact le_refl _
    · exact (ha x hx hy).le

theorem displaces_concat_last (hx : x.Yields r) (h : ∀ y ∈ l, y.Yields r → x.rank ≤ y.rank) :
    Displaces (l ++ [x]) r x := ⟨l, [], rfl, hx, h, by simp⟩

theorem State.displaceable_concat (s : State) (l : List Order) (x : Order) (r : Nat) :
    (s.setQueue (l ++ [x])).displaceable r =
      if x.operator.isNone && decide (x.rank < r) then
        match (s.setQueue l).displaceable r with
        | some b => if x.rank ≤ b.rank then some x else some b
        | none => some x
      else (s.setQueue l).displaceable r :=
  List.foldl_append

theorem Order.yields_iff : (o.operator.isNone && decide (o.rank < r)) = true ↔ o.Yields r := by
  rw [Bool.and_eq_true, decide_eq_true_eq, Option.isNone_iff_eq_none]
  rfl

/-- The order that displacement removes is the youngest of the lowest rank, and without one none may be removed. -/
theorem State.displaceable_setQueue (s : State) (r : Nat) (l : List Order) :
    (∀ d, (s.setQueue l).displaceable r = some d → Displaces l r d)
      ∧ ((s.setQueue l).displaceable r = none → ∀ x ∈ l, ¬ x.Yields r) := by
  induction l using List.reverseRecOn with
  | nil => exact ⟨fun d h => absurd h (by simp [State.displaceable, State.setQueue]), by simp⟩
  | append_singleton l x ih =>
    obtain ⟨ihs, ihn⟩ := ih
    rw [State.displaceable_concat]
    by_cases hx : x.Yields r
    · rw [if_pos (Order.yields_iff.2 hx)]
      cases hb : (s.setQueue l).displaceable r with
      | none =>
        refine ⟨fun d hd => ?_, fun h => absurd h (by simp)⟩
        obtain rfl := Option.some.inj hd
        exact displaces_concat_last hx fun y hy h => absurd h (ihn hb y hy)
      | some b =>
        dsimp only
        split
        · next hle =>
          refine ⟨fun d hd => ?_, fun h => absurd h (by simp)⟩
          obtain rfl := Option.some.inj hd
          exact displaces_concat_last hx fun y hy h => hle.trans ((ihs b hb).rank_le hy h)
        · next hle =>
          refine ⟨fun d hd => ?_, fun h => absurd h (by simp)⟩
          obtain rfl := Option.some.inj hd
          exact (ihs b hb).concat_same fun _ => Nat.not_le.1 hle
    · rw [if_neg (mt Order.yields_iff.1 hx)]
      refine ⟨fun d hd => (ihs d hd).concat_same fun h => absurd h hx, fun h y hy => ?_⟩
      rcases List.mem_append.1 hy with hy | hy
      · exact ihn h y hy
      · obtain rfl := List.mem_singleton.1 hy
        exact hx

/-! ## Joining (05 R92, R93, R95) -/

/-- An order that stands at the tail, with Unqueued of its pile cleared and attempts asked for. -/
theorem State.join_of_room (h : s.queue.length < 16) : s.join o = some { s with
    queue := s.queue ++ [o]
    watch := { s.watch with living := s.watch.living.modify o.pile fun l => { l with unqueued := false } }
    engine := { s.engine with asked := Table.fill 4 true } } := if_pos h

theorem State.join_of_displaced (h : 16 ≤ s.queue.length) (hd : s.displaceable o.rank = some d) :
    s.join o = some { s with
      queue := s.queue.filter (fun x => x.pile != d.pile) ++ [o]
      watch := { s.watch with
        living := (s.watch.living.modify d.pile fun l => { l with carried := false, unqueued := true }).modify
          o.pile fun l => { l with unqueued := false } }
      engine := { s.engine with asked := Table.fill 4 true } } := by
  have hm : (s.watch.living.modify d.pile fun l => { l with carried := false }).modify d.pile
      (fun l => { l with unqueued := true })
      = s.watch.living.modify d.pile fun l => { l with carried := false, unqueued := true } := by
    simp only [Table.modify_eq_put, Table.put_put, Table.get_put, if_true]
  unfold State.join
  rw [if_neg (show ¬ s.queue.length < queueSize from Nat.not_lt.2 h), hd, ← hm]
  rfl

theorem State.join_of_none (h : 16 ≤ s.queue.length) (hd : s.displaceable o.rank = none) : s.join o = none := by
  unfold State.join
  rw [if_neg (show ¬ s.queue.length < queueSize from Nat.not_lt.2 h), hd]

/-! ## Offers (05 R92, R93) -/

variable {u : Urgency} {w : Want}

theorem State.offer_none (h : s.orderOf i = none) : s.offer i .none = s := by
  unfold State.offer
  rw [h]
  rfl

theorem State.offer_of_joined {t : State} (h : s.orderOf i = none) (hw : u.want = some w)
    (ht : s.join (s.newOrder i (some w) none none) = some t) : s.offer i u = t := by
  unfold State.offer
  rw [h, hw]
  dsimp only
  rw [ht]

theorem State.offer_of_dropped (h : s.orderOf i = none) (hw : u.want = some w)
    (ht : s.join (s.newOrder i (some w) none none) = none) :
    s.offer i u = s.mapLiving i fun l => { l with unqueued := true } := by
  unfold State.offer
  rw [h, hw]
  dsimp only
  rw [ht]

theorem Urgency.want_eq_none : u.want = Option.none ↔ u = Urgency.none := by cases u <;> simp [Urgency.want]

theorem State.offer_none_of_watch (h : s.orderOf i = some o) (hw : o.watch.isSome = true)
    (hp : o.operator = none) : s.offer i .none = s.dropOrder i := by
  unfold State.offer
  rw [h, show Urgency.none.want = none from rfl]
  dsimp only
  rw [hp, Option.isNone_eq_false_iff.2 hw]
  rfl

theorem State.offer_none_of_no_watch (h : s.orderOf i = some o) (hw : o.watch = none) : s.offer i .none = s := by
  unfold State.offer
  rw [h, show Urgency.none.want = none from rfl]
  dsimp only
  rw [hw]
  rfl

/-- An offer that leaves the order a part sets its watch part. -/
theorem State.offer_of_kept (h : s.orderOf i = some o) (hk : u ≠ .none ∨ o.operator.isSome = true)
    (hw : u = .none → o.watch.isSome = true) :
    s.offer i u = s.updateOrder o fun x => { x with watch := u.want } := by
  unfold State.offer
  rw [h]
  cases hu : u.want with
  | some w => rfl
  | none =>
    have he := Urgency.want_eq_none.1 hu
    have ho := hk.resolve_left fun hn => hn he
    dsimp only
    rw [Option.isNone_eq_false_iff.2 (hw he), Option.isNone_eq_false_iff.2 ho]
    rfl

/-! ## ORDER on a queued order (05 R96) -/

theorem mergePriority_eq (p : Option Priority) (r : Priority) :
    mergePriority p r = if p = some .high ∨ r = .high then .high else .normal := by
  rcases p with _ | _ | _ <;> cases r <;> rfl

/-- ORDER merges into the pile's order where it stands. -/
theorem State.mergeOrder_of_queue {before after : List Order} {r : Priority} {named : Option (Fin 24)}
    (hq : s.queue = before ++ o :: after) (ho : o.pile = i) (hr : ∀ y ∈ before ++ after, y.pile ≠ i)
    (hx : x = { o with operator := some (mergePriority o.operator r), named }) :
    s.mergeOrder o r named = { s with
      queue := before ++ x :: after
      engine := { s.engine with
        asked := if x.rank ≠ o.rank ∨ o.named ≠ named then Table.fill 4 true else s.engine.asked } } := by
  unfold State.mergeOrder
  rw [State.updateOrder_of_queue (x := x) hq ho hr hx.symm (by rw [hx])]
  by_cases hn : o.named = named
  · simp [State.askAllIf, hn]
  · simp [State.askAllIf, State.askAll, hn]

theorem State.placeOrder_of_joined {t : State} {r : Priority} {named : Option (Fin 24)} (h : s.orderOf i = none)
    (ht : s.join (s.newOrder i none (some r) named) = some t) : s.placeOrder i r named = (t, .done) := by
  unfold State.placeOrder
  rw [h]
  dsimp only
  rw [ht]

theorem State.placeOrder_of_full {r : Priority} {named : Option (Fin 24)} (h : s.orderOf i = none)
    (ht : s.join (s.newOrder i none (some r) named) = none) : s.placeOrder i r named = (s, .full) := by
  unfold State.placeOrder
  rw [h]
  dsimp only
  rw [ht]

theorem State.placeOrder_of_merged {r : Priority} {named : Option (Fin 24)} (h : s.orderOf i = some o) :
    s.placeOrder i r named = (s.mergeOrder o r named, .merged) := by
  unfold State.placeOrder
  rw [h]

/-- An order with only an operator part has that part's rank. -/
theorem Order.rank_of_only_operator {r : Priority} (hw : o.watch = none) (hp : o.operator = some r) :
    o.rank = r.rank := Order.rank_of_operator hp (by rw [hw]; exact Nat.zero_le _)

end

/-- Settles O32: ORDER and offers, joining, displacing, merging and leaving. -/
theorem orderJoinsOrMerges : Obligations.OrderJoinsOrMerges := by
  refine ⟨?_, fun s r => ?_, ?_, fun s i u => ⟨fun hn => ⟨?_, fun w o hw ho => ⟨fun hl => ?_, fun hl d hd => ?_,
    fun hl hd => ?_⟩⟩, fun before after o hq ho hr => ⟨?_, ?_, fun hk x hx => ?_⟩⟩⟩
  · intro s pile priority cannon i p r named o h hm hi hr hc hp he hcov hn ho
    have hplace := fun {t x} => State.order_of_placed (t := t) (x := x) hm hi hr hc hp he hcov
    have hof := State.orderOf_of_forall_ne hn
    have hnew : s.newOrder i none (some r) named = o := ho.symm
    have hrank : o.rank = r.rank := Order.rank_of_only_operator (by rw [ho]) (by rw [ho])
    have hpile : o.pile = i := by rw [ho]
    refine ⟨fun hl => ?_, fun hl d hd => ?_, fun hl hd => ?_⟩
    · refine exec_order_eq h (hplace (State.placeOrder_of_joined hof ?_))
      rw [hnew, State.join_of_room hl, hpile]
    · refine exec_order_eq h (hplace (State.placeOrder_of_joined hof ?_))
      rw [hnew, State.join_of_displaced hl (hrank ▸ hd), hpile]
    · refine exec_order_eq h (hplace (State.placeOrder_of_full hof ?_))
      rw [hnew, State.join_of_none hl (hrank ▸ hd)]
  · obtain ⟨hs, hn⟩ := s.displaceable_setQueue r s.queue
    refine ⟨fun d hd => ?_, fun hd x hx ho => Nat.not_lt.1 fun hlt => hn hd x hx ⟨ho, hlt⟩⟩
    obtain ⟨before, after, hq, ⟨hdo, hdr⟩, hb, ha⟩ := hs d hd
    exact ⟨before, after, hq, hdo, hdr, fun x hx h1 h2 => hb x hx ⟨h1, h2⟩, fun x hx h1 h2 => ha x hx ⟨h1, h2⟩⟩
  · intro s pile priority cannon i p r named before after o x h hm hi hr hc hp he hcov hq ho hne hx
    have hof := State.orderOf_of_queue hq ho fun y hy => hne y (List.mem_append_left _ hy)
    refine exec_order_eq h (State.order_of_placed hm hi hr hc hp he hcov ?_)
    rw [State.placeOrder_of_merged hof, State.mergeOrder_of_queue hq ho hne (mergePriority_eq o.operator r ▸ hx)]
  · exact State.offer_none (State.orderOf_of_forall_ne hn)
  · have hpile : o.pile = i := by rw [ho]
    refine State.offer_of_joined (State.orderOf_of_forall_ne hn) hw ?_
    rw [show s.newOrder i (some w) none none = o from ho.symm, State.join_of_room hl, hpile]
  · have hpile : o.pile = i := by rw [ho]
    refine State.offer_of_joined (State.orderOf_of_forall_ne hn) hw ?_
    rw [show s.newOrder i (some w) none none = o from ho.symm, State.join_of_displaced hl hd, hpile]
  · refine State.offer_of_dropped (State.orderOf_of_forall_ne hn) hw ?_
    rw [show s.newOrder i (some w) none none = o from ho.symm, State.join_of_none hl hd]
  · rintro rfl hop hw
    have hof := State.orderOf_of_queue hq ho fun y hy => hr y (List.mem_append_left _ hy)
    rw [State.offer_none_of_watch hof hw hop, State.dropOrder_of_queue hq ho hr]
  · rintro rfl hw
    exact State.offer_none_of_no_watch
      (State.orderOf_of_queue hq ho fun y hy => hr y (List.mem_append_left _ hy)) hw
  · have hof := State.orderOf_of_queue hq ho fun y hy => hr y (List.mem_append_left _ hy)
    by_cases hw : u = .none → o.watch.isSome = true
    · rw [State.offer_of_kept hof hk hw, State.updateOrder_of_queue hq ho hr hx.symm (by rw [hx])]
    · -- the watch part is already absent: the order is replaced by itself
      obtain ⟨rfl, hw⟩ := Classical.not_imp.1 hw
      have hwn : o.watch = none := by simpa using hw
      have hxo : x = o := by rw [hx]; cases o; cases hwn; rfl
      rw [State.offer_none_of_no_watch hof hwn, hxo, ← hq]
      simp

end Sys2Proof.Machine

/-! PROOFS. The judgements of a request, its candidates, its choice and the reasons it records (O34). -/

namespace Sys2Proof.Machine

section

variable {s : State} {m : Fin 4} {o : Order} {p : Pile} {k : Fin 24} {c : Cannon}

/-! ## The cannons of an order (05 R101, 06 R112) -/

/-- The usable cannons of an order, in ascending index. -/
def State.usables (s : State) (o : Order) (p : Pile) : List (Fin 24) := (List.finRange 24).filter (s.usable o p)

/-- Those on main `m`. -/
def State.heres (s : State) (m : Fin 4) (o : Order) (p : Pile) : List (Fin 24) :=
  (s.usables o p).filter (s.onMain m)

/-- Those that the drift does not block. -/
def State.clears (s : State) (m : Fin 4) (o : Order) (p : Pile) : List (Fin 24) :=
  (s.heres m o p).filter fun k => !s.engine.blocked.get k

theorem State.usable_iff : s.usable o p k = true ↔ ∃ c, s.geometry.cannons.get k = some c ∧ c.enabled = true
    ∧ c.coversPile p = true ∧ (∀ n, o.named = some n → n = k) ∧ c.bays s.geometry p ≠ [] := by
  unfold State.usable
  cases s.geometry.cannons.get k with
  | none => simp
  | some c =>
    have hn : (o.named.isNone || o.named == some k) = true ↔ ∀ n, o.named = some n → n = k := by
      cases o.named <;> simp
    have hb : decide (0 < (c.bays s.geometry p).length) = true ↔ c.bays s.geometry p ≠ [] := by
      rw [decide_eq_true_eq, List.length_pos_iff]
    simp only [Bool.and_eq_true, hn, hb, and_assoc, Option.some.injEq, exists_eq_left']

theorem State.onMain_iff : s.onMain m k = true ↔ ∃ c, s.geometry.cannons.get k = some c ∧ c.main = m := by
  unfold State.onMain
  cases s.geometry.cannons.get k <;> simp

theorem State.mem_usables : k ∈ s.usables o p ↔ s.usable o p k = true := by simp [State.usables]

theorem State.mem_heres : k ∈ s.heres m o p ↔ s.usable o p k = true ∧ s.onMain m k = true := by
  rw [State.heres, List.mem_filter, State.mem_usables]

theorem State.mem_clears : k ∈ s.clears m o p ↔ k ∈ s.heres m o p ∧ s.engine.blocked.get k = false := by
  rw [State.clears, List.mem_filter, Bool.not_eq_true']

theorem State.clears_sorted (s : State) (m : Fin 4) (o : Order) (p : Pile) : (s.clears m o p).Pairwise (· < ·) :=
  (((List.pairwise_lt_finRange 24).filter _).filter _).filter _

/-- The cannon with the most bays planned is taken, the lowest index on a tie (06 R112). -/
theorem State.bestCannon_eq {l₁ l₂ : List (Fin 24)} (hc : s.geometry.cannons.get k = some c)
    (h₁ : ∀ j ∈ l₁, ∀ d, s.geometry.cannons.get j = some d → d.baysPlanned s.geometry p < c.baysPlanned s.geometry p)
    (h₂ : ∀ j ∈ l₂, ∀ d, s.geometry.cannons.get j = some d →
      d.baysPlanned s.geometry p ≤ c.baysPlanned s.geometry p) :
    s.bestCannon p (l₁ ++ k :: l₂) = some (k, c) := by
  have hbest : ∀ y, s.bestCannon p l₁ = some y → y.2.baysPlanned s.geometry p < c.baysPlanned s.geometry p := by
    intro y hy
    obtain ⟨hj, hd⟩ := State.bestCannon_spec (k := y.1) (g := y.2) hy
    exact h₁ y.1 hj y.2 hd
  unfold State.bestCannon at hbest ⊢
  rw [List.foldl_append, List.foldl_cons]
  refine List.foldlRecOn (motive := fun best => best = some (k, c)) _ _ ?_ ?_
  · simp only [hc]
    split
    · next y b hy => exact if_pos (hbest _ hy)
    · rfl
  · rintro _ rfl j hj
    dsimp only
    split
    · rfl
    · next d hd => exact if_neg (Nat.not_lt.2 (h₂ j hj d hd))

/-! ## The judgement of an order, test by test (05 R101) -/

theorem State.judge_of_unusable (hp : s.geometry.piles.get o.pile = some p) (h : s.usables o p = []) :
    s.judge m o = .noCannon := by
  unfold State.usables at h
  unfold State.judge
  rw [hp]
  dsimp only
  rw [h]
  rfl

/-- The judgement of an order that has a usable cannon. -/
theorem State.judge_of_elsewhere (hp : s.geometry.piles.get o.pile = some p) (hu : s.usables o p ≠ [])
    (h : s.heres m o p = []) : s.judge m o = .elsewhere := by
  rw [← List.isEmpty_eq_false_iff] at hu
  unfold State.heres at h
  unfold State.usables at hu h
  unfold State.judge
  rw [hp]
  dsimp only
  rw [hu, h]
  rfl

theorem State.usables_ne_nil (h : s.heres m o p ≠ []) : s.usables o p ≠ [] := by
  rintro hu
  exact h (by rw [State.heres, hu]; rfl)

theorem State.judge_of_machine (hp : s.geometry.piles.get o.pile = some p) (h : s.heres m o p ≠ [])
    (hm : s.machinePresent p.bed = true) : s.judge m o = .machine := by
  have hu := State.usables_ne_nil h
  rw [← List.isEmpty_eq_false_iff] at hu h
  unfold State.heres at h
  unfold State.usables at hu h
  unfold State.judge
  rw [hp]
  dsimp only
  rw [hu, h, hm]
  rfl

theorem State.judge_of_wind (hp : s.geometry.piles.get o.pile = some p) (h : s.heres m o p ≠ [])
    (hm : s.machinePresent p.bed = false) (hw : s.clears m o p = []) : s.judge m o = .wind := by
  have hu := State.usables_ne_nil h
  rw [← List.isEmpty_eq_false_iff] at hu h
  unfold State.clears at hw
  unfold State.heres at h hw
  unfold State.usables at hu h hw
  unfold State.judge
  rw [hp]
  dsimp only
  rw [hu, h, hm, hw]
  rfl

/-- The judgement of an order for which a cannon is found: by the choice of its source. -/
theorem State.judge_of_best (hp : s.geometry.piles.get o.pile = some p) (h : s.heres m o p ≠ [])
    (hm : s.machinePresent p.bed = false) (hb : s.bestCannon p (s.clears m o p) = some (k, c))
    {choice : Option (Fin 6)}
    (hch : choice = s.chooseSource m (s.watch.grades.get p.grade).clarityLimit o.rank
      (c.plannedVolume s.geometry p)) :
    (choice = none → s.judge m o = .water) ∧ ∀ x, choice = some x → s.judge m o = .candidate k x := by
  have hu := State.usables_ne_nil h
  rw [← List.isEmpty_eq_false_iff] at hu h
  unfold State.clears at hb
  unfold State.heres at h hb
  unfold State.usables at hu h hb
  unfold State.judge
  rw [hp]
  dsimp only
  rw [hu, h, hm, hb]
  dsimp only [Bool.false_eq_true, if_false]
  rw [← hch]
  cases choice with
  | none => exact ⟨fun _ => rfl, fun x hx => absurd hx (by simp)⟩
  | some y =>
    refine ⟨fun hx => absurd hx (by simp), fun x hx => ?_⟩
    obtain rfl := Option.some.inj hx
    rfl

end

section

variable {cs : List Candidate} {opened : Option (Fin 6)} {x y : Candidate}

/-! ## The candidate selected (05 R102) -/

/-- The highest rank among the candidates. -/
def topRank (cs : List Candidate) : Nat := cs.foldl (fun a c => max a c.order.rank) 0

theorem topRank_concat (cs : List Candidate) (x : Candidate) :
    topRank (cs ++ [x]) = max (topRank cs) x.order.rank := List.foldl_append

theorem rank_le_topRank (h : x ∈ cs) : x.order.rank ≤ topRank cs := by
  induction cs using List.reverseRecOn with
  | nil => exact absurd h (by simp)
  | append_singleton l y ih =>
    rw [topRank_concat]
    rcases List.mem_append.1 h with h | h
    · exact (ih h).trans (le_max_left _ _)
    · obtain rfl := List.mem_singleton.1 h
      exact le_max_right _ _

theorem exists_topRank (h : cs ≠ []) : ∃ x ∈ cs, x.order.rank = topRank cs := by
  induction cs using List.reverseRecOn with
  | nil => exact absurd rfl h
  | append_singleton l y ih =>
    rw [topRank_concat]
    rcases le_or_gt (topRank l) y.order.rank with hle | hlt
    · exact ⟨y, by simp, (max_eq_right hle).symm⟩
    · have hl : l ≠ [] := by
        rintro rfl
        exact absurd hlt (Nat.not_lt_zero _)
      obtain ⟨x, hx, he⟩ := ih hl
      exact ⟨x, List.mem_append_left _ hx, he.trans (max_eq_left hlt.le).symm⟩

/-- The candidates of the highest rank. -/
def topCandidates (cs : List Candidate) : List Candidate := cs.filter fun c => c.order.rank == topRank cs

theorem mem_topCandidates : x ∈ topCandidates cs ↔ x ∈ cs ∧ x.order.rank = topRank cs := by
  rw [topCandidates, List.mem_filter, beq_iff_eq]

theorem topCandidates_eq_nil : topCandidates cs = [] ↔ cs = [] := by
  constructor
  · intro h
    by_contra hne
    obtain ⟨x, hx, he⟩ := exists_topRank hne
    have := mem_topCandidates.2 ⟨hx, he⟩
    rw [h] at this
    exact absurd this (by simp)
  · rintro rfl
    rfl

theorem selectCandidate_eq (cs : List Candidate) (opened : Option (Fin 6)) : selectCandidate cs opened
    = ((topCandidates cs).find? fun c => some c.source == opened).or (topCandidates cs).head? := by
  unfold selectCandidate topCandidates topRank
  dsimp only
  cases List.find? _ _ <;> rfl

theorem selectCandidate_eq_none : selectCandidate cs opened = none ↔ cs = [] := by
  rw [selectCandidate_eq, Option.or_eq_none_iff, List.head?_eq_none_iff, topCandidates_eq_nil]
  refine ⟨fun h => h.2, fun h => ⟨?_, h⟩⟩
  rw [topCandidates_eq_nil.2 h]
  rfl

/-- Where a candidate of the highest rank stands among the candidates. -/
theorem split_topCandidates {front back : List Candidate} (h : topCandidates cs = front ++ x :: back) :
    ∃ before after, cs = before ++ x :: after ∧ ∀ y ∈ before, y.order.rank = topRank cs → y ∈ front := by
  obtain ⟨l₁, l₂, hl, rfl, h₂⟩ := List.filter_eq_append_iff.1 h
  obtain ⟨l₃, l₄, rfl, h₃, -, -⟩ := List.filter_eq_cons_iff.1 h₂
  refine ⟨l₁ ++ l₃, l₄, by rw [hl, List.append_assoc], fun y hy he => ?_⟩
  rcases List.mem_append.1 hy with hy | hy
  · exact List.mem_filter.2 ⟨hy, beq_iff_eq.2 he⟩
  · exact absurd (beq_iff_eq.2 he) (h₃ y hy)

theorem selectCandidate_spec (h : selectCandidate cs opened = some x) :
    ∃ before after, cs = before ++ x :: after
      ∧ (∀ y ∈ cs, y.order.rank ≤ x.order.rank)
      ∧ ((∃ y ∈ cs, y.order.rank = x.order.rank ∧ some y.source = opened) → some x.source = opened)
      ∧ ∀ y ∈ before, y.order.rank = x.order.rank → some x.source = opened ∧ some y.source ≠ opened := by
  rw [selectCandidate_eq] at h
  cases hf : (topCandidates cs).find? fun c => some c.source == opened with
  | some z =>
    rw [hf] at h
    obtain rfl := Option.some.inj h
    obtain ⟨hopen, front, back, htop, hfront⟩ := List.find?_eq_some_iff_append.1 hf
    have hsrc : some z.source = opened := beq_iff_eq.1 hopen
    have hz : z.order.rank = topRank cs :=
      (mem_topCandidates.1 (htop ▸ List.mem_append_right _ List.mem_cons_self)).2
    obtain ⟨before, after, hcs, hb⟩ := split_topCandidates htop
    refine ⟨before, after, hcs, fun y hy => hz ▸ rank_le_topRank hy, fun _ => hsrc, fun y hy he => ⟨hsrc, ?_⟩⟩
    simpa using hfront y (hb y hy (he.trans hz))
  | none =>
    rw [hf, Option.none_or, List.head?_eq_some_iff] at h
    obtain ⟨back, htop⟩ := h
    have hno : ∀ y ∈ cs, y.order.rank = topRank cs → some y.source ≠ opened := fun y hy he => by
      simpa using List.find?_eq_none.1 hf y (mem_topCandidates.2 ⟨hy, he⟩)
    have hx : x.order.rank = topRank cs := (mem_topCandidates.1 (htop ▸ List.mem_cons_self)).2
    obtain ⟨before, after, hcs, hb⟩ := split_topCandidates (front := []) htop
    refine ⟨before, after, hcs, fun y hy => hx ▸ rank_le_topRank hy, ?_, fun y hy he => ?_⟩
    · rintro ⟨y, hy, he, hsrc⟩
      exact absurd hsrc (hno y hy (he.trans hx))
    · exact absurd (hb y hy (he.trans hx)) (by simp)

end

section

variable {s t : State} {m : Fin 4}

/-! ## The candidates of a request (05 R101) -/

theorem State.mem_candidates_iff {x : Candidate} : x ∈ s.candidates m ↔
    x.order ∈ s.queue ∧ s.judge m x.order = .candidate x.cannon x.source := by
  refine ⟨State.mem_candidates, fun ⟨hx, hj⟩ => List.mem_filterMap.2 ⟨x.order, hx, ?_⟩⟩
  rw [hj]

theorem map_filterMap_sublist {α β : Type} {f : α → Option β} {g : β → α} (h : ∀ a b, f a = some b → g b = a)
    (l : List α) : ((l.filterMap f).map g).Sublist l := by
  induction l with
  | nil => exact List.Sublist.refl _
  | cons a l ih =>
    cases hf : f a with
    | none =>
      rw [List.filterMap_cons_none hf]
      exact ih.cons a
    | some b =>
      rw [List.filterMap_cons_some hf, List.map_cons, h a b hf]
      exact ih.cons_cons a

theorem State.candidates_sublist (s : State) (m : Fin 4) : ((s.candidates m).map (·.order)).Sublist s.queue := by
  refine map_filterMap_sublist (fun a b h => ?_) s.queue
  split at h
  · rw [← Option.some.inj h]
  · exact absurd h (by simp)

/-! ## The reasons recorded (05 R101, R103) -/

theorem Notices.marked_marked (y : Notices) (k : NoticeKind) (a b : Nat) : (y.marked k a).marked k b = y.marked k b := by
  unfold Notices.marked
  simp only [Table.put_put]

/-- A notice raised for each of some orders in turn has the last of them as its subject. -/
theorem State.forEach_raise_concat (s : State) (k : NoticeKind) (f : Order → Nat) (l : List Order) (o : Order) :
    s.forEach (l ++ [o]) (fun t o => t.raise k (f o)) = { s with notices := s.notices.marked k (f o) } := by
  induction l using List.reverseRecOn generalizing o with
  | nil => rfl
  | append_singleton l x ih =>
    have h := ih x
    unfold State.forEach at h ⊢
    rw [List.foldl_append, h]
    show ({ s with notices := (s.notices.marked k (f x)).marked k (f o) } : State) = _
    rw [Notices.marked_marked]

/-- The reason of an order becomes NO_CANNON. -/
def State.unserves (s : State) (m : Fin 4) (o : Order) : Bool :=
  decide (s.judge m o = .noCannon) && decide (o.waiting ≠ .noCannon)

/-- The orders for which a request raises UNSERVED. -/
def State.unserved (s : State) (m : Fin 4) : List Order := s.queue.filter (s.unserves m)

theorem State.unserves_iff {o : Order} : s.unserves m o = true ↔ s.judge m o = .noCannon ∧ o.waiting ≠ .noCannon := by
  rw [State.unserves, Bool.and_eq_true, decide_eq_true_eq, decide_eq_true_eq]

/-- The queue with the reasons of a request recorded. -/
def State.reasoned (s : State) (m : Fin 4) : State :=
  s.setQueue (s.queue.map fun o => { o with waiting := (s.judge m o).reason o.waiting })

theorem State.recordReasons_eq (s : State) (m : Fin 4) : s.recordReasons m
    = (s.reasoned m).forEach (s.unserved m) fun t o => t.raise .unserved o.pile.val := rfl

theorem State.recordReasons_of_nil (h : s.unserved m = []) : s.recordReasons m = s.reasoned m := by
  rw [State.recordReasons_eq, h]
  rfl

theorem State.recordReasons_of_concat {l : List Order} {o : Order} (h : s.unserved m = l ++ [o]) :
    s.recordReasons m = { s.reasoned m with notices := s.notices.marked .unserved o.pile.val } := by
  rw [State.recordReasons_eq, h]
  exact State.forEach_raise_concat _ _ _ _ _

theorem State.recordReasons_notices (s : State) (m : Fin 4) :
    ∃ y, s.recordReasons m = { s.reasoned m with notices := y } := by
  rcases List.eq_nil_or_concat' (s.unserved m) with h | ⟨l, o, h⟩
  · exact ⟨s.notices, State.recordReasons_of_nil h⟩
  · exact ⟨_, State.recordReasons_of_concat h⟩

end

/-- Settles O34: the judgement test by test, the selection, the candidates and the reasons recorded. -/
theorem requestJudgesAndSelects : Obligations.RequestJudgesAndSelects := by
  refine ⟨fun s m o p usable hp husable here hhere => ?_, fun cs opened => ⟨selectCandidate_eq_none, fun x =>
    selectCandidate_spec⟩, fun s m => ⟨s.candidates_sublist m, fun x => State.mem_candidates_iff⟩,
    fun s t m raises ht hraises => ?_⟩
  · have hus : ∀ k, usable k ↔ k ∈ s.usables o p := fun k =>
      (husable k).trans (State.usable_iff.symm.trans State.mem_usables.symm)
    have hhe : ∀ k, here k ↔ k ∈ s.heres m o p := fun k => by
      rw [hhere, hus, State.mem_usables, State.mem_heres, State.onMain_iff]
    have hne : (∃ k, here k) → s.heres m o p ≠ [] := fun ⟨k, hk⟩ h => by
      have := (hhe k).1 hk
      rw [h] at this
      exact absurd this (by simp)
    refine ⟨fun h => ?_, fun ⟨k, hk⟩ h => ?_, fun h hm => ?_, fun h hm hb => ?_, ?_⟩
    · exact State.judge_of_unusable hp (List.eq_nil_iff_forall_not_mem.2 fun k hk => h k ((hus k).2 hk))
    · exact State.judge_of_elsewhere hp (List.ne_nil_of_mem ((hus k).1 hk))
        (List.eq_nil_iff_forall_not_mem.2 fun k hk => h k ((hhe k).2 hk))
    · exact State.judge_of_machine hp (hne h) hm
    · refine State.judge_of_wind hp (hne h) hm (List.eq_nil_iff_forall_not_mem.2 fun k hk => ?_)
      obtain ⟨hk, hf⟩ := State.mem_clears.1 hk
      rw [hb k ((hhe k).2 hk)] at hf
      exact absurd hf (by simp)
    · intro k c hk hm hb hc hbest choice hch
      have hclears : ∀ j, j ∈ s.clears m o p → here j ∧ s.engine.blocked.get j = false := fun j hj => by
        obtain ⟨h1, h2⟩ := State.mem_clears.1 hj
        exact ⟨(hhe j).2 h1, h2⟩
      obtain ⟨l₁, l₂, hl⟩ := List.append_of_mem (State.mem_clears.2 ⟨(hhe k).1 hk, hb⟩)
      have hsort := s.clears_sorted m o p
      rw [hl] at hclears hsort
      obtain ⟨-, -, hlt⟩ := List.pairwise_append.1 hsort
      refine State.judge_of_best hp (hne ⟨k, hk⟩) hm ?_ hch
      rw [hl]
      refine State.bestCannon_eq hc (fun j hj d hd => ?_) fun j hj d hd => ?_
      · obtain ⟨h1, h2⟩ := hclears j (List.mem_append_left _ hj)
        refine (hbest j d h1 h2 hd).resolve_right fun h => ?_
        exact absurd (hlt j hj k List.mem_cons_self) (not_lt.2 h.2)
      · obtain ⟨h1, h2⟩ := hclears j (List.mem_append_right _ (List.mem_cons_of_mem _ hj))
        rcases hbest j d h1 h2 hd with h | ⟨h, -⟩
        · exact h.le
        · exact h.le
  · subst ht
    obtain ⟨y, hy⟩ := s.recordReasons_notices m
    have hfr := s.recordReasons_frame m
    have hfilter : ∀ o, raises o ↔ s.unserves m o = true := fun o => (hraises o).trans State.unserves_iff.symm
    refine ⟨hfr, ?_, ?_, ?_, ?_, fun h => ?_, fun before o after hq ho ha => ?_⟩
    · rw [hy]
      rfl
    · rw [hy]
      rfl
    · rw [hy]
      rfl
    · rw [hy]
      refine List.map_congr_left fun o _ => ?_
      cases s.judge m o <;> rfl
    · have hnil : s.unserved m = [] := List.filter_eq_nil_iff.2 fun o ho => mt (hfilter o).2 (h o ho)
      rw [State.recordReasons_of_nil hnil]
      rfl
    · obtain ⟨l, hlast⟩ : ∃ l, s.unserved m = l ++ [o] := ⟨_, by
        rw [State.unserved, hq, List.filter_append, List.filter_cons_of_pos ((hfilter o).1 ho),
          List.filter_eq_nil_iff.2 fun x hx => mt (hfilter x).2 (ha x hx)]⟩
      rw [State.recordReasons_of_concat hlast]
      rfl

end Sys2Proof.Machine

/-! PROOFS. What a dispatch attempt does (O35). -/

namespace Sys2Proof.Machine

section

variable {s : State} {m : Fin 4} {c d : Fin 8} {p q : Pass} {e : Option (Fin 5)}

/-! ## The pass resumed first (06 R111 step 1) -/

/-- The pass in context `c` is a resumable one of main `m`. -/
def State.ResumableAt (s : State) (m : Fin 4) (c : Fin 8) (p : Pass) : Prop :=
  s.engine.contexts.get c = some p ∧ p.main = m ∧ p.state = .suspended ∧ p.wind = false ∧ p.machine = false

theorem resumable_on_iff : (p.resumable && decide (p.main = m)) = true ↔
    p.main = m ∧ p.state = .suspended ∧ p.wind = false ∧ p.machine = false := by
  simp [Pass.resumable, and_assoc, and_comm, and_left_comm]

/-- The pass whose suspension was first is found. -/
theorem State.firstResumable_eq (hc : s.ResumableAt m c p)
    (hmin : ∀ d q, s.ResumableAt m d q → d ≠ c → p.suspension < q.suspension) :
    s.firstResumable m = some (c, p) := by
  obtain ⟨hcp, hp⟩ := hc
  obtain ⟨l₁, l₂, hl⟩ := List.append_of_mem (List.mem_finRange c)
  have hnd : (l₁ ++ c :: l₂).Nodup := hl ▸ List.nodup_finRange 8
  obtain ⟨-, hn₂, hd⟩ := List.nodup_append.1 hnd
  obtain ⟨hc₂, -⟩ := List.nodup_cons.1 hn₂
  unfold State.firstResumable
  rw [hl, List.foldl_append, List.foldl_cons]
  refine List.foldlRecOn (motive := fun best => best = some (c, p)) _ _ ?_ ?_
  · simp only [hcp, resumable_on_iff.2 hp, if_true]
    split
    · next x d q hx =>
      have hbest : ∀ y : Fin 8 × Pass, some (d, q) = some y → y.1 ∈ l₁ ∧ s.ResumableAt m y.1 y.2 := by
        rw [← hx]
        refine List.foldlRecOn (motive := fun best : Option (Fin 8 × Pass) =>
          ∀ y, best = some y → y.1 ∈ l₁ ∧ s.ResumableAt m y.1 y.2) _ _ (by simp) ?_
        intro best hb j hj y hy
        split at hy
        · exact hb y hy
        · next a ha =>
          split at hy
          · next hr =>
            have hnew : j ∈ l₁ ∧ s.ResumableAt m j a := ⟨hj, ha, resumable_on_iff.1 hr⟩
            split at hy
            · split at hy
              · rw [← Option.some.inj hy]
                exact hnew
              · exact hb y hy
            · rw [← Option.some.inj hy]
              exact hnew
          · exact hb y hy
      obtain ⟨hd₁, hq⟩ := hbest (d, q) rfl
      exact if_pos (hmin d q hq (hd d hd₁ c List.mem_cons_self))
    · rfl
  · rintro _ rfl d hd₂
    split
    · rfl
    · next q hq =>
      split
      · next hr =>
        have hne : d ≠ c := fun h => hc₂ (h ▸ hd₂)
        exact if_neg (Nat.lt_asymm (hmin d q ⟨hq, resumable_on_iff.1 hr⟩ hne))
      · rfl

theorem State.firstResumable_eq_none (h : ∀ c p, ¬ s.ResumableAt m c p) : s.firstResumable m = none := by
  unfold State.firstResumable
  refine List.foldlRecOn (motive := fun best => best = none) _ _ rfl ?_
  rintro _ rfl c -
  split
  · rfl
  · next p hp => exact if_neg fun hr => h c p ⟨hp, resumable_on_iff.1 hr⟩

/-- No pass is resumable where each suspended one of the main is held by the wind or a machine. -/
theorem no_resumable (h : ∀ c p, s.engine.contexts.get c = some p → p.main = m → p.state = .suspended →
    p.wind = true ∨ p.machine = true) (c : Fin 8) (p : Pass) : ¬ s.ResumableAt m c p := by
  rintro ⟨h1, h2, h3, h4, h5⟩
  rcases h c p h1 h2 h3 with h | h
  · exact absurd h (by simp [h4])
  · exact absurd h (by simp [h5])

/-! ## The lowest FREE context (06 R111 step 2) -/

theorem State.freeContext_eq_none (h : ∀ c, (s.engine.contexts.get c).isSome = true) : s.freeContext = none := by
  refine List.find?_eq_none.2 fun c _ => ?_
  simpa [Option.isSome_iff_ne_none] using h c

theorem State.freeContext_eq (hc : s.engine.contexts.get c = none)
    (h : ∀ d, d < c → (s.engine.contexts.get d).isSome = true) : s.freeContext = some c := by
  obtain ⟨l₁, l₂, hl⟩ := List.append_of_mem (List.mem_finRange c)
  have hlt : (l₁ ++ c :: l₂).Pairwise (· < ·) := hl ▸ List.pairwise_lt_finRange 8
  obtain ⟨-, -, hlt⟩ := List.pairwise_append.1 hlt
  refine List.find?_eq_some_iff_append.2 ⟨by rw [hc]; rfl, l₁, l₂, hl, fun d hd => ?_⟩
  rw [Option.isNone_eq_false_iff.2 (h d (hlt d hd c List.mem_cons_self))]
  rfl

/-! ## The attempt (06 R110, R111) -/

theorem State.attempt_of_resumable (h : s.available m = true) (hf : s.firstResumable m = some (c, p)) :
    s.attempt e m = s.resumePass e c p := by
  unfold State.attempt
  rw [if_pos h, hf]

theorem State.attempt_of_no_context (h : s.available m = true) (hf : s.firstResumable m = none)
    (hc : s.freeContext = none) : s.attempt e m = s := by
  unfold State.attempt
  rw [if_pos h, hf, hc]

theorem State.attempt_of_request (h : s.available m = true) (hf : s.firstResumable m = none)
    (hc : s.freeContext = some c) : s.attempt e m = s.requestAndStart e m c := by
  unfold State.attempt
  rw [if_pos h, hf, hc]

theorem State.requestAndStart_of_none
    (h : selectCandidate (s.candidates m) (s.engine.mains.get m).openSource = none) :
    s.requestAndStart e m c = s.recordReasons m := by
  unfold State.requestAndStart
  rw [h]

theorem State.requestAndStart_of_selected {x : Candidate}
    (h : selectCandidate (s.candidates m) (s.engine.mains.get m).openSource = some x) :
    s.requestAndStart e m c = ((s.recordReasons m).takeOrder x.order.pile).startPass e c m x := by
  unfold State.requestAndStart
  rw [h]

theorem State.takeOrder_eq (s : State) (i : Fin 48) : s.takeOrder i = { s with
    queue := s.queue.filter (fun o => o.pile != i)
    watch := { s.watch with
      living := s.watch.living.put i { s.watch.living.get i with
        engaged := true, carried := false, unqueued := false } } } := by
  have hl : (s.watch.living.modify i fun l => { l with carried := false }).modify i
      (fun l => { l with engaged := true, carried := false, unqueued := false })
      = s.watch.living.put i { s.watch.living.get i with engaged := true, carried := false, unqueued := false } := by
    simp only [Table.modify_eq_put, Table.put_put, Table.get_put, if_true]
  rw [← hl]
  rfl

end

/-- Settles O35: the availability of a main, and the attempt's steps in order. -/
theorem attemptTakesTheFirstStep : Obligations.AttemptTakesTheFirstStep := by
  refine ⟨fun s m => State.available_eq_true, fun s e m ha => ⟨?_, fun hnone => ⟨fun hall => ?_, fun c hc hlow =>
    ⟨fun hsel => ?_, fun x hsel => ?_⟩⟩⟩, State.takeOrder_eq, fun s e m ha => if_neg (by simp [ha])⟩
  · intro c p hc hm hs hw hx hmin
    refine State.attempt_of_resumable ha (State.firstResumable_eq ⟨hc, hm, hs, hw, hx⟩ ?_)
    rintro d q ⟨h1, h2, h3, h4, h5⟩ hne
    exact hmin d q h1 h2 h3 h4 h5 hne
  · exact State.attempt_of_no_context ha (State.firstResumable_eq_none (no_resumable hnone))
      (State.freeContext_eq_none hall)
  · rw [State.attempt_of_request ha (State.firstResumable_eq_none (no_resumable hnone)) (State.freeContext_eq hc hlow),
      State.requestAndStart_of_none hsel]
  · rw [State.attempt_of_request ha (State.firstResumable_eq_none (no_resumable hnone)) (State.freeContext_eq hc hlow),
      State.requestAndStart_of_selected hsel]

end Sys2Proof.Machine

/-! PROOFS. The end of a pass, part by part (06 R127). -/

namespace Sys2Proof.Machine

/-! ## What a part of the end leaves of the notices -/

theorem NoticeKind.place_injective {j k : NoticeKind} (h : j ≠ k) : j.place ≠ k.place := by
  revert h
  cases j <;> cases k <;> decide

section

variable {y z w : Notices} {j k : NoticeKind}

theorem Notices.SameKind.refl (y : Notices) (k : NoticeKind) : y.SameKind y k := ⟨rfl, rfl⟩

theorem Notices.SameKind.trans (h : y.SameKind z k) (h' : z.SameKind w k) : y.SameKind w k :=
  ⟨h.1.trans h'.1, h.2.trans h'.2⟩

theorem Notices.marked_same (h : j ≠ k) (y : Notices) (n : Nat) : (y.marked j n).SameKind y k :=
  Notices.marked_sameKind (NoticeKind.place_injective h) n

theorem Notices.marked_self (y : Notices) (k : NoticeKind) (n : Nat) :
    (y.marked k n).pending.get k.place = true ∧ (y.marked k n).subjects.get k.place = n :=
  ⟨(Table.get_put _ _ _ _).trans (if_pos rfl), (Table.get_put _ _ _ _).trans (if_pos rfl)⟩

theorem Notices.marked_allFaulted (y : Notices) (k : NoticeKind) (n : Nat) :
    (y.marked k n).allFaulted = y.allFaulted := rfl

end

/-- One state's notices stand as another's, but for the kinds of `ks`. -/
def Notices.SameBut (y z : Notices) (ks : List NoticeKind) : Prop :=
  y.allFaulted = z.allFaulted ∧ ∀ k, k ∉ ks → y.SameKind z k

section

variable {y z w : Notices} {ks : List NoticeKind}

theorem Notices.SameBut.refl (y : Notices) (ks : List NoticeKind) : y.SameBut y ks := ⟨rfl, fun k _ => .refl y k⟩

theorem Notices.SameBut.trans (h : y.SameBut z ks) (h' : z.SameBut w ks) : y.SameBut w ks :=
  ⟨h.1.trans h'.1, fun k hk => (h.2 k hk).trans (h'.2 k hk)⟩

theorem Notices.marked_sameBut {k : NoticeKind} (h : k ∈ ks) (y : Notices) (n : Nat) : (y.marked k n).SameBut y ks :=
  ⟨rfl, fun j hj => Notices.marked_same (j := k) (k := j) (fun he => hj (he ▸ h)) y n⟩

theorem Notices.gap_sameBut (y : Notices) (i : Fin 48) (b : WindBasis) : (y.gap i b).SameBut y [.urgent, .forecastGap] := by
  unfold Notices.gap
  split
  · exact .refl y _
  · exact Notices.marked_sameBut (by simp) y _

end

section

variable {s : State} {i : Fin 48} {c : Fin 8} {p : Pass} {e : PassEnd} {x : Option (Fin 5)}

/-! ## The report at Pile Watch -/

theorem State.evaluate_notices (s : State) (i : Fin 48) (w : WindBasis) (counts offers : Bool) :
    (s.evaluate i w counts offers).notices.SameBut s.notices [.urgent, .forecastGap] := by
  cases hp : s.geometry.piles.get i with
  | none =>
    rw [State.evaluate_of_absent hp]
    exact .refl _ _
  | some p =>
    rw [(State.evaluate_offered hp w counts offers).notices]
    obtain ⟨y, hy, hr, hn⟩ := s.evaluatedAt_eq i p w counts rfl
    rw [hy]
    by_cases h : s.ReportsMust (s.watch.living.get i).urgency (s.livingAfter i p w counts).urgency
    · rw [hr h]
      exact (Notices.marked_sameBut (by simp) _ _).trans (s.notices.gap_sameBut i w)
    · rw [hn h]
      exact s.notices.gap_sameBut i w

theorem State.sweepTest_notices (s : State) (bed : Fin 8) (i : Fin 48) : (s.sweepTest bed i).notices = s.notices := by
  refine s.forEach_keeps State.notices _ _ fun t j => ?_
  split
  · split
    · exact (State.offerRule_offered _ j).notices
    · rfl
  · rfl

theorem State.takeEndReport_notices (s : State) (r : EndReport) (offers : Bool) :
    (s.takeEndReport r offers).notices.SameBut s.notices [.urgent, .forecastGap] := by
  unfold State.takeEndReport
  split
  · exact .refl _ _
  · refine (State.evaluate_notices _ _ _ _ _).trans ?_
    split
    · rw [State.sweepTest_notices]
      exact .refl _ _
    · exact .refl _ _

/-! ## The main of an ended pass (06 R128) -/

theorem State.mainAfterEnd_water (s : State) (p : Pass) (e : PassEnd) : (s.mainAfterEnd p e).water = s.water := by
  unfold State.mainAfterEnd
  repeat' split
  all_goals rfl

theorem State.mainAfterEnd_watch_queue (s : State) (p : Pass) (e : PassEnd) :
    (s.mainAfterEnd p e).watch = s.watch ∧ (s.mainAfterEnd p e).queue = s.queue := by
  unfold State.mainAfterEnd
  repeat' split
  all_goals exact ⟨rfl, rfl⟩

/-- A fault's end leaves its main FAULTED, and the notices MAIN_FAULT and ALL_FAULTED say so (06 R125). -/
theorem State.faultMain_eq (s : State) (m : Fin 4) (cause : FaultCause) : s.faultMain m cause = { s with
    engine := { s.engine with
      mains := s.engine.mains.put m { s.engine.mains.get m with
        state := .faulted, openSource := none, context := none, fault := some cause } }
    notices := { s.notices.marked .mainFault m.val with
      allFaulted := s.notices.allFaulted
        || (s.mapMain m fun x => { x.shut .faulted with fault := some cause }).engine.allFaulted } } := rfl

/-- With the last main every main is FAULTED. -/
theorem State.allFaulted_mapMain (s : State) {m : Fin 4} (cause : FaultCause)
    (h : ∀ k, k ≠ m → (s.engine.mains.get k).state = .faulted) :
    (s.mapMain m fun x => { x.shut .faulted with fault := some cause }).engine.allFaulted = true := by
  simp only [Engine.allFaulted, Table.all, List.all_eq_true, decide_eq_true_eq]
  intro k _
  simp only [State.mapMain, Table.get_modify]
  split
  · rfl
  · next hne => exact h k (Ne.symm hne)

theorem State.mainAfterEnd_of_noFlow (s : State) (p : Pass) (cause : FaultCause) :
    s.mainAfterEnd p (.noFlow cause) = s.faultMain p.main cause := rfl

/-- An end with no fault leaves the notices. -/
theorem State.mainAfterEnd_notices (s : State) (p : Pass) (h : ∀ cause, e ≠ .noFlow cause) :
    (s.mainAfterEnd p e).notices = s.notices := by
  unfold State.mainAfterEnd
  split
  · next cause => exact absurd rfl (h cause)
  · repeat' split
    all_goals rfl

theorem State.mainAfterEnd_sameBut (s : State) (p : Pass) (e : PassEnd) (k : NoticeKind) (hk : k ≠ .mainFault) :
    (s.mainAfterEnd p e).notices.SameKind s.notices k := by
  by_cases h : ∃ cause, e = .noFlow cause
  · obtain ⟨cause, rfl⟩ := h
    exact Notices.marked_same (Ne.symm hk) s.notices p.main.val
  · rw [State.mainAfterEnd_notices s p (not_exists.1 h)]
    exact .refl _ _

/-! ## The end of a pass -/

/-- The state in which an end hands its report to Pile Watch: settled, with its main at rest and its context FREE. -/
def State.ended (s : State) (x : Option (Fin 5)) (c : Fin 8) (p : Pass) (e : PassEnd) : State :=
  ((s.settle x p (p.finalDelivered e)).mainAfterEnd p e).setContext c none

/-- The state of an end after the report. -/
def State.reported (s : State) (x : Option (Fin 5)) (c : Fin 8) (p : Pass) (e : PassEnd) (offers : Bool) : State :=
  (s.ended x c p e).takeEndReport (p.report e (p.finalDelivered e)) offers

theorem State.endPass_eq_reported (h : s.engine.contexts.get c = some p) (x : Option (Fin 5)) (e : PassEnd)
    (offers : Bool) :
    s.endPass x c e offers = ((s.reported x c p e offers).recordEnd p.pile e).askAll.follow :=
  State.endPass_of_live h x e offers

theorem State.ended_frame (s : State) (x : Option (Fin 5)) (c : Fin 8) (p : Pass) (e : PassEnd) :
    (s.ended x c p e).frame = s.frame := by
  unfold State.ended
  rw [State.setContext_frame, State.mainAfterEnd_frame, State.settle_frame]

theorem State.ended_watch_queue (s : State) (x : Option (Fin 5)) (c : Fin 8) (p : Pass) (e : PassEnd) :
    (s.ended x c p e).watch = s.watch ∧ (s.ended x c p e).queue = s.queue := by
  obtain ⟨-, -, hw, hq, -, -⟩ := State.beyondWater_fields (s.settle_beyondWater x p (p.finalDelivered e))
  obtain ⟨hmw, hmq⟩ := (s.settle x p (p.finalDelivered e)).mainAfterEnd_watch_queue p e
  exact ⟨hmw.trans hw, hmq.trans hq⟩

theorem State.ended_contexts (s : State) (x : Option (Fin 5)) (c : Fin 8) (p : Pass) (e : PassEnd) :
    (s.ended x c p e).engine.contexts = s.engine.contexts.put c none := by
  unfold State.ended
  rw [State.setContext_engine_contexts, State.mainAfterEnd_contexts, State.settle_contexts]

theorem State.ended_water (s : State) (x : Option (Fin 5)) (c : Fin 8) (p : Pass) (e : PassEnd) :
    (s.ended x c p e).water = (s.settle x p (p.finalDelivered e)).water :=
  State.mainAfterEnd_water _ p e

/-- The watch, the queue, the reports and the attempts that an end leaves (06 R127 steps 5 to 8). -/
theorem State.endPass_parts (h : s.engine.contexts.get c = some p) (x : Option (Fin 5)) (e : PassEnd)
    (offers : Bool) :
    (s.endPass x c e offers).watch = (s.reported x c p e offers).watch
      ∧ (s.endPass x c e offers).queue = (s.reported x c p e offers).queue
      ∧ (s.endPass x c e offers).engine.asked = Table.fill 4 true
      ∧ (s.endPass x c e offers).control.lastEnded = some (p.pile, e)
      ∧ (s.endPass x c e offers).notices
        = (s.reported x c p e offers).notices.marked .passEnded p.pile.val := by
  rw [State.endPass_eq_reported h]
  generalize s.reported x c p e offers = u
  exact ⟨rfl, rfl, rfl, rfl, rfl⟩

theorem State.endPass_water (h : s.engine.contexts.get c = some p) (x : Option (Fin 5)) (e : PassEnd)
    (offers : Bool) : (s.endPass x c e offers).water = (s.settle x p (p.finalDelivered e)).water := by
  rw [State.endPass_eq_reported h]
  obtain ⟨-, -, hw, -, -⟩ := State.beyondWatch_fields
    ((s.ended x c p e).takeEndReport_beyondWatch (p.report e (p.finalDelivered e)) offers)
  have hr : (s.reported x c p e offers).water = (s.settle x p (p.finalDelivered e)).water :=
    hw.trans (s.ended_water x c p e)
  generalize s.reported x c p e offers = u at hr ⊢
  exact hr

theorem State.endPass_passEnded (h : s.engine.contexts.get c = some p) (x : Option (Fin 5)) (e : PassEnd)
    (offers : Bool) :
    (s.endPass x c e offers).notices.pending.get NoticeKind.passEnded.place = true
      ∧ (s.endPass x c e offers).notices.subjects.get NoticeKind.passEnded.place = p.pile.val := by
  obtain ⟨-, -, -, -, hn⟩ := State.endPass_parts h x e offers
  rw [hn]
  exact Notices.marked_self _ _ _

/-- Beyond URGENT, FORECAST_GAP and PASS_ENDED the notices of an end are those its settlement and its main left. -/
theorem State.endPass_notices (h : s.engine.contexts.get c = some p) (x : Option (Fin 5)) (e : PassEnd)
    (offers : Bool) : (s.endPass x c e offers).notices.SameBut
      ((s.settle x p (p.finalDelivered e)).mainAfterEnd p e).notices [.urgent, .forecastGap, .passEnded] := by
  obtain ⟨-, -, -, -, hn⟩ := State.endPass_parts h x e offers
  rw [hn]
  refine (Notices.marked_sameBut (by simp) _ _).trans ?_
  obtain ⟨ha, hk⟩ := (s.ended x c p e).takeEndReport_notices (p.report e (p.finalDelivered e)) offers
  exact ⟨ha, fun k hks => hk k fun hm => hks (List.mem_append_left [NoticeKind.passEnded] hm)⟩

/-- What a fault's end leaves of its main and of the fault notices (06 R125). -/
theorem State.endPass_of_noFlow (h : s.engine.contexts.get c = some p) (x : Option (Fin 5)) (cause : FaultCause)
    (offers : Bool) :
    (s.endPass x c (.noFlow cause) offers).engine.mains = s.engine.mains.put p.main { s.engine.mains.get p.main with
        state := .faulted, openSource := none, context := none, fault := some cause }
      ∧ (s.endPass x c (.noFlow cause) offers).notices.pending.get NoticeKind.mainFault.place = true
      ∧ (s.endPass x c (.noFlow cause) offers).notices.subjects.get NoticeKind.mainFault.place = p.main.val
      ∧ ((∀ m, m ≠ p.main → (s.engine.mains.get m).state = .faulted) →
        (s.endPass x c (.noFlow cause) offers).notices.allFaulted = true) := by
  obtain ⟨ha, hk⟩ := State.endPass_notices h x (.noFlow cause) offers
  obtain ⟨h1, h2⟩ := hk .mainFault (by simp)
  have hm := State.endPass_mains h x (.noFlow cause) offers
  obtain ⟨hs, -⟩ := State.beyondWater_fields (s.settle_beyondWater x p (p.finalDelivered (.noFlow cause)))
  rw [State.mainAfterEnd_of_noFlow] at h1 h2 hm ha
  generalize s.settle x p (p.finalDelivered (.noFlow cause)) = v at hs h1 h2 hm ha
  obtain ⟨hf1, hf2⟩ := v.notices.marked_self .mainFault p.main.val
  refine ⟨by rw [hm, ← hs]; rfl, h1.trans hf1, h2.trans hf2, fun hall => ?_⟩
  rw [ha, State.faultMain_eq, Bool.or_eq_true]
  exact .inr (v.allFaulted_mapMain cause fun m hne => by rw [hs]; exact hall m hne)

end

end Sys2Proof.Machine

/-! PROOFS. Plans, starts and primes (O36). -/

namespace Sys2Proof.Machine

section

/-! ## The bays of a plan (06 R113) -/

theorem lt_steps_iff (n k j : Nat) : j < (n + k) / (k + 1) ↔ j * (k + 1) < n := by
  rw [← Nat.succ_le_iff, Nat.le_div_iff_mul_le (Nat.succ_pos k)]
  have : (j + 1) * (k + 1) = j * (k + 1) + k + 1 := by ring
  rw [Nat.succ_eq_add_one, this]
  omega

/-- The steps of a plan over the pile's window. -/
def steps (p : Pile) (skip : Nat) : List Nat := List.range ((p.length + skip) / (skip + 1))

theorem mem_steps {p : Pile} {skip j : Nat} : j ∈ steps p skip ↔ j * (skip + 1) < p.length := by
  rw [steps, List.mem_range, lt_steps_iff]

theorem planBays_forward (g : Geometry) (p : Pile) (skip : Nat) : planBays g p skip false
    = ((steps p skip).map fun j => p.start + j * (skip + 1)).filter fun b => !g.excluded p.bed b := rfl

theorem planBays_reverse (g : Geometry) (p : Pile) (skip : Nat) : planBays g p skip true
    = ((steps p skip).map fun j => p.start + p.length - 1 - j * (skip + 1)).filter
      fun b => !g.excluded p.bed b := rfl

theorem planBays_forward_sorted (g : Geometry) (p : Pile) (skip : Nat) :
    (planBays g p skip false).Pairwise (· < ·) := by
  rw [planBays_forward]
  refine List.Pairwise.filter _ (List.pairwise_map.2 (List.pairwise_lt_range.imp fun h => ?_))
  exact Nat.add_lt_add_left (Nat.mul_lt_mul_of_pos_right h (Nat.succ_pos skip)) _

theorem mem_planBays_forward {g : Geometry} {p : Pile} {skip b : Nat} : b ∈ planBays g p skip false ↔
    (∃ j, b = p.start + j * (skip + 1)) ∧ b < p.start + p.length ∧ g.excluded p.bed b = false := by
  rw [planBays_forward, List.mem_filter, List.mem_map, Bool.not_eq_true']
  constructor
  · rintro ⟨⟨j, hj, rfl⟩, he⟩
    rw [mem_steps] at hj
    exact ⟨⟨j, rfl⟩, by omega, he⟩
  · rintro ⟨⟨j, rfl⟩, hb, he⟩
    exact ⟨⟨j, mem_steps.2 (by omega), rfl⟩, he⟩

theorem planBays_reverse_sorted (g : Geometry) (p : Pile) (skip : Nat) :
    (planBays g p skip true).Pairwise (· > ·) := by
  rw [planBays_reverse]
  refine List.Pairwise.filter _ (List.pairwise_map.2 ?_)
  refine List.Pairwise.imp_of_mem (R := (· < ·)) (fun {i j} hi hj h => ?_) List.pairwise_lt_range
  have hj' := mem_steps.1 hj
  have hlt := Nat.mul_lt_mul_of_pos_right h (Nat.succ_pos skip)
  rw [Nat.succ_eq_add_one] at hlt
  omega

theorem mem_planBays_reverse {g : Geometry} {p : Pile} {skip b : Nat} : b ∈ planBays g p skip true ↔
    (∃ j, b + j * (skip + 1) + 1 = p.start + p.length) ∧ p.start ≤ b ∧ g.excluded p.bed b = false := by
  rw [planBays_reverse, List.mem_filter, List.mem_map, Bool.not_eq_true']
  constructor
  · rintro ⟨⟨j, hj, rfl⟩, he⟩
    rw [mem_steps] at hj
    exact ⟨⟨j, by omega⟩, by omega, he⟩
  · rintro ⟨⟨j, hj⟩, hb, he⟩
    exact ⟨⟨j, mem_steps.2 (by omega), by omega⟩, he⟩

end

section

variable {s : State} {c : Fin 8} {m : Fin 4} {p : Pass} {x : Candidate}

/-! ## A prime (06 R115 to R117) -/

/-- The seconds of a prime of a kind (06 R106). -/
theorem Main.primeTime_of {y : Main} {kind : PrimeKind} {seconds : Nat}
    (h : seconds = (match kind with
      | .warm => y.warmPrime
      | .cold => y.coldPrime)) : seconds = y.primeTime kind := by
  rw [h]
  cases kind <;> rfl

/-- A pass as its prime leaves it. -/
def Pass.primed (p : Pass) (kind : PrimeKind) (seconds : Nat) : Pass :=
  { p with state := .priming, prime := kind, primeTimer := some seconds }

/-- The prime of a pass whose flow line is inactive: its main primes, and nothing else is done. -/
theorem State.prime_quiet_eq (h : (s.field.lines.flow.get p.main).filtered = false) (e : Option (Fin 5)) (c : Fin 8) :
    s.prime e c p = ({ s with
      engine := { s.engine with
        mains := s.engine.mains.put p.main { s.engine.mains.get p.main with
          state := .priming, openSource := some p.source, context := some c }
        contexts := s.engine.contexts.put c (some (p.primed (s.primeKind p.main p.source)
          ((s.engine.mains.get p.main).primeTime (s.primeKind p.main p.source)))) } } : State).follow := by
  have hm : (s.engine.mains.modify p.main fun y => { y with openSource := some p.source }).modify p.main
      (fun y => { y with state := .priming, context := some c })
      = s.engine.mains.put p.main { s.engine.mains.get p.main with
          state := .priming, openSource := some p.source, context := some c } := by
    simp only [Table.modify_eq_put, Table.put_put, Table.get_put, if_true]
  have hc : (s.engine.contexts.put c (some { p with prime := s.primeKind p.main p.source })).put c
      (some (p.primed (s.primeKind p.main p.source)
        ((s.engine.mains.get p.main).primeTime (s.primeKind p.main p.source))))
      = s.engine.contexts.put c (some (p.primed (s.primeKind p.main p.source)
          ((s.engine.mains.get p.main).primeTime (s.primeKind p.main p.source)))) := Table.put_put _ _ _ _
  rw [State.prime_of_quiet h, ← hm, ← hc]
  rfl

/-- What the prime of a pass whose flow line is inactive leaves. -/
theorem State.prime_quiet {t : State} {e : Option (Fin 5)} {kind : PrimeKind} {seconds : Nat}
    (ht : t = s.prime e c p) (h : (s.field.lines.flow.get p.main).filtered = false)
    (hk : kind = s.primeKind p.main p.source) (hs : seconds = (s.engine.mains.get p.main).primeTime kind) :
    t.frame = s.frame ∧ t.watch = s.watch ∧ t.queue = s.queue ∧ t.water = s.water ∧ t.notices = s.notices
      ∧ t.control = s.control
      ∧ t.engine = { s.engine with
          mains := s.engine.mains.put p.main { s.engine.mains.get p.main with
            state := .priming, openSource := some p.source, context := some c }
          contexts := s.engine.contexts.put c (some (p.primed kind seconds)) } := by
  subst ht hs hk
  rw [State.prime_quiet_eq h]
  refine ⟨State.follow_frame _, rfl, rfl, rfl, rfl, rfl, rfl⟩

/-- A prime under a stray flow ends the pass, and its main is FAULTED STRAY (06 R116). -/
theorem State.prime_stray {t : State} {e : Option (Fin 5)} {kind : PrimeKind}
    (ht : t = s.prime e c p) (h : (s.field.lines.flow.get p.main).filtered = true)
    (hk : kind = s.primeKind p.main p.source) :
    ∃ u : State, t = u.endPass e c (.noFlow .stray) true
      ∧ u.frame = s.frame ∧ u.watch = s.watch ∧ u.queue = s.queue ∧ u.water = s.water ∧ u.notices = s.notices
      ∧ u.engine.contexts = s.engine.contexts.put c (some { p with prime := kind })
      ∧ u.engine.mains = s.engine.mains.put p.main { s.engine.mains.get p.main with
          openSource := some p.source } := by
  subst hk
  exact ⟨(s.selected c p).follow, ht.trans (State.prime_of_flow h e c), State.follow_frame _, rfl, rfl, rfl, rfl, rfl,
    rfl⟩

/-! ## A reservation (04 R70) -/

theorem State.reserve_basin {y : Fin 6} {b : Fin 5} (h : y.val = b.val) (v : Nat) :
    (s.reserve y v).water = { s.water with
      basins := s.water.basins.modify b fun z => { z with reserved := z.reserved + v } } := by
  rw [State.reserve, State.mapReserved, asBasin_of_val h]
  rfl

theorem State.reserve_fresh (v : Nat) : (s.reserve 5 v).water = { s.water with
    fresh := { s.water.fresh with reserved := s.water.fresh.reserved + v } } := rfl

theorem State.reserve_reserved (y z : Fin 6) (v : Nat) :
    (s.reserve y v).water.reserved z = s.water.reserved z + if z = y then v else 0 := by
  rcases source_cases y with rfl | ⟨b, hb⟩
  · rw [State.reserve_fresh]
    rcases source_cases z with rfl | ⟨d, hd⟩
    · rfl
    · have hz : z ≠ 5 := by
        rintro rfl
        have := d.isLt
        have h5 : (5 : Fin 6).val = 5 := rfl
        omega
      rw [if_neg hz, Water.reserved, Water.reserved, asBasin_of_val hd]
      rfl
  · rw [State.reserve_basin hb]
    rcases source_cases z with rfl | ⟨d, hd⟩
    · have hy : (5 : Fin 6) ≠ y := by
        rintro rfl
        have := b.isLt
        have h5 : (5 : Fin 6).val = 5 := rfl
        omega
      rw [if_neg hy]
      rfl
    · rw [Water.reserved, Water.reserved, asBasin_of_val hd]
      dsimp only
      rw [Table.get_modify]
      by_cases h : b = d
      · subst h
        rw [if_pos rfl, if_pos (Fin.ext (hd.trans hb.symm))]
      · rw [if_neg h, if_neg]
        · rfl
        · rintro rfl
          exact h (Fin.ext (hb.symm.trans hd))

theorem State.reserve_keeps (s : State) (y : Fin 6) (v : Nat) :
    (s.reserve y v).engine = s.engine ∧ (s.reserve y v).field = s.field ∧ (s.reserve y v).frame = s.frame
      ∧ (s.reserve y v).watch = s.watch ∧ (s.reserve y v).queue = s.queue ∧ (s.reserve y v).notices = s.notices := by
  obtain ⟨he, hn, hf⟩ := s.mapReserved_keeps y (· + v)
  obtain ⟨-, -, hw, hq, -, hfi⟩ := State.beyondWater_fields (s.reserve_beyondWater y v)
  exact ⟨he, hfi, hf, hw, hq, hn⟩

/-! ## A start (06 R115) -/

variable {y : Pile} {k : Cannon}

/-- The pass that a candidate starts. -/
def State.startedPass (s : State) (m : Fin 4) (x : Candidate) (y : Pile) (k : Cannon) : Pass :=
  newPass s.geometry x.order.pile y x.cannon k m x.source (s.water.clarity x.source)

theorem State.startPass_eq (hp : s.geometry.piles.get x.order.pile = some y)
    (hc : s.geometry.cannons.get x.cannon = some k) (e : Option (Fin 5)) (c : Fin 8) (m : Fin 4) :
    s.startPass e c m x = (s.reserve x.source (s.startedPass m x y k).planned).prime e c (s.startedPass m x y k) := by
  unfold State.startPass
  rw [hp, hc]
  rfl

theorem State.startedPass_planned (s : State) (m : Fin 4) (x : Candidate) (y : Pile) (k : Cannon) :
    (s.startedPass m x y k).planned = ((k.bays s.geometry y).length * k.repeats * k.dwell * k.flow + 59) / 60 := rfl

end

/-- Settles O36: the bays of a plan, a start on a quiet main, the prime that ends a start, and the prime itself. -/
theorem startPrimesTheMain : Obligations.StartPrimesTheMain := by
  refine ⟨fun g p skip bays => ⟨?_, ?_⟩, ?_, ?_, ?_⟩
  · rintro rfl
    exact ⟨planBays_forward_sorted g p skip, fun b => mem_planBays_forward⟩
  · rintro rfl
    exact ⟨planBays_reverse_sorted g p skip, fun b => mem_planBays_reverse⟩
  · intro s t e c m x p k kind seconds hp hc hflow ht hk hs
    rw [State.startPass_eq hp hc] at ht
    obtain ⟨he, hfi, hfr, hw, hq, hn⟩ := s.reserve_keeps x.source (s.startedPass m x p k).planned
    have hb := fun b (h : x.source.val = b.val) => State.reserve_basin (s := s) (b := b) h (s.startedPass m x p k).planned
    have h5 := State.reserve_fresh (s := s) (s.startedPass m x p k).planned
    rw [State.startedPass_planned] at hb h5
    generalize hu : s.reserve x.source (s.startedPass m x p k).planned = u at ht he hfi hfr hw hq hn
    have hflow' : (u.field.lines.flow.get (s.startedPass m x p k).main).filtered = false := by
      rw [hfi]
      exact hflow
    have hk' : kind = u.primeKind (s.startedPass m x p k).main (s.startedPass m x p k).source := by
      unfold State.primeKind
      rw [he]
      exact hk
    have hs' : seconds = (u.engine.mains.get (s.startedPass m x p k).main).primeTime kind := by
      rw [he]
      exact Main.primeTime_of hs
    obtain ⟨h1, h2, h3, h4, h6, -, h7⟩ := State.prime_quiet ht hflow' hk' hs'
    rw [h1, h2, h3, h4, h6, h7, he, hfr, hw, hq, hn]
    refine ⟨rfl, rfl, rfl, rfl, rfl, rfl, fun b hxb => ?_, fun hx5 => ?_⟩
    · rw [← hu]
      exact hb b hxb
    · rw [← hu, hx5]
      exact h5
  · intro s e c m x p k hp hc
    obtain ⟨he, hfi, hfr, hw, hq, hn⟩ := s.reserve_keeps x.source (s.startedPass m x p k).planned
    exact ⟨_, _, State.startPass_eq hp hc e c m, rfl, rfl, rfl, rfl, rfl, rfl, rfl, rfl, he, hfi, hfr, hw, hq, hn,
      fun z => State.reserve_reserved _ _ _⟩
  · intro s t e c p kind seconds ht hk hs
    refine ⟨fun hflow => State.prime_quiet ht hflow hk (Main.primeTime_of hs), fun hflow => ?_⟩
    obtain ⟨u, htu, hfr, hw, hq, hwa, hn, hc, hm⟩ := State.prime_stray ht hflow hk
    have hu : u.engine.contexts.get c = some { p with prime := kind } := by
      rw [hc]
      exact (Table.get_put _ _ _ _).trans (if_pos rfl)
    obtain ⟨hmain, hmf, hms, -⟩ := State.endPass_of_noFlow hu e .stray true
    obtain ⟨-, -, hask, hlast, -⟩ := State.endPass_parts hu e (.noFlow .stray) true
    have hfr' := u.endPass_frame e c (.noFlow .stray) true
    have hctx := u.endPass_contexts e c (.noFlow .stray) true
    rw [← htu] at hmain hmf hms hask hlast hfr' hctx
    refine ⟨u, htu, hfr, hw, hq, hwa, hn, hc, hfr'.trans hfr, ?_, ?_, hmf, hms, hlast, hask⟩
    · rw [hctx, hc, Table.put_put]
    · rw [hmain, hm, Table.put_put]
      simp only [Table.get_put, if_true]

end Sys2Proof.Machine

/-! PROOFS. A pass-end report at Pile Watch, the prime timer's expiry, and CLEAR (O37). -/

namespace Sys2Proof.Machine

section

variable {s t u : State} {i j d : Fin 48} {o : Order}

/-! ## All that an offer writes (05 R92, R93) -/

/-- `t` is `s` but for the queue, the living parts and the attempts asked for. -/
def State.Requeued (s t : State) : Prop := ∃ q l a, t = { s with
  queue := q
  watch := { s.watch with living := l }
  engine := { s.engine with asked := a } }

theorem State.Requeued.refl (s : State) : s.Requeued s := ⟨_, _, _, rfl⟩

theorem State.Requeued.trans (h : s.Requeued t) (h' : t.Requeued u) : s.Requeued u := by
  obtain ⟨q, l, a, rfl⟩ := h
  obtain ⟨q', l', a', rfl⟩ := h'
  exact ⟨q', l', a', rfl⟩

theorem State.Requeued.askAllIf (h : s.Requeued t) (b : Bool) : s.Requeued (t.askAllIf b) := by
  cases b
  · exact h
  · exact h.trans ⟨_, _, _, rfl⟩

theorem State.mapLiving_requeued (s : State) (i : Fin 48) (f : Living → Living) : s.Requeued (s.mapLiving i f) :=
  ⟨_, _, _, rfl⟩

theorem State.dropOrder_requeued (s : State) (i : Fin 48) : s.Requeued (s.dropOrder i) := ⟨_, _, _, rfl⟩

theorem State.appendOrder_requeued (s : State) (o : Order) : s.Requeued (s.appendOrder o) := ⟨_, _, _, rfl⟩

theorem State.updateOrder_requeued (s : State) (o : Order) (f : Order → Order) : s.Requeued (s.updateOrder o f) :=
  State.Requeued.askAllIf ⟨_, _, _, rfl⟩ _

/-- What a join comes to: the order at the tail, with another displaced or not. -/
theorem State.join_cases (h : s.join o = some t) : t = s.appendOrder o
    ∨ ∃ d, t = ((s.dropOrder d).mapLiving d fun l => { l with unqueued := true }).appendOrder o := by
  unfold State.join at h
  split at h
  · exact .inl (Option.some.inj h).symm
  · split at h
    · next d _ => exact .inr ⟨d.pile, (Option.some.inj h).symm⟩
    · exact absurd h (by simp)

/-- What an offer comes to. -/
theorem State.offer_cases (s : State) (i : Fin 48) (w : Urgency) :
    (∃ o f, s.orderOf i = some o ∧ s.offer i w = s.updateOrder o f)
      ∨ (w = .none ∧ (s.offer i w = s ∨ s.offer i w = s.dropOrder i))
      ∨ (∃ o t, o.pile = i ∧ s.join o = some t ∧ s.offer i w = t)
      ∨ s.offer i w = s.mapLiving i fun l => { l with unqueued := true } := by
  have hnone : ∀ {w : Urgency}, w.want = none → w = .none := fun h => Urgency.want_eq_none.1 h
  unfold State.offer
  split
  · next o w ho hw => exact .inl ⟨o, _, ho, rfl⟩
  · next o ho hw =>
    split
    · exact .inr (.inl ⟨hnone hw, .inl rfl⟩)
    · split
      · exact .inr (.inl ⟨hnone hw, .inr rfl⟩)
      · exact .inl ⟨o, _, ho, rfl⟩
  · next ho hw => exact .inr (.inl ⟨hnone hw, .inl rfl⟩)
  · next w ho hw =>
    split
    · next t ht => exact .inr (.inr (.inl ⟨_, t, rfl, ht, rfl⟩))
    · exact .inr (.inr (.inr rfl))

theorem State.offer_requeued (s : State) (i : Fin 48) (w : Urgency) : s.Requeued (s.offer i w) := by
  obtain ⟨o, f, -, h⟩ | ⟨-, h | h⟩ | ⟨o, t, -, ht, h⟩ | h := s.offer_cases i w <;> rw [h]
  · exact s.updateOrder_requeued o f
  · exact .refl s
  · exact s.dropOrder_requeued i
  · obtain rfl | ⟨d, rfl⟩ := State.join_cases ht
    · exact s.appendOrder_requeued o
    · exact ((s.dropOrder_requeued d).trans (State.mapLiving_requeued _ d _)).trans (State.appendOrder_requeued _ o)
  · exact s.mapLiving_requeued i _

theorem State.offerRule_cases (s : State) (i : Fin 48) :
    s.offerRule i = s ∨ s.offerRule i = s.offer i (s.watch.living.get i).urgency := by
  unfold State.offerRule
  split
  · exact .inl rfl
  · split
    · exact .inr rfl
    · exact .inr rfl
    · exact .inl rfl
    · exact .inl rfl

theorem State.offerRule_requeued (s : State) (i : Fin 48) : s.Requeued (s.offerRule i) := by
  obtain h | h := s.offerRule_cases i <;> rw [h]
  · exact .refl s
  · exact s.offer_requeued i _

/-! ## A pile that has an order or is Unqueued (03 R45) -/

/-- The pile has a queued order, or is Unqueued. -/
def State.Placed (s : State) (i : Fin 48) : Prop :=
  s.hasOrder i = true ∨ (s.watch.living.get i).unqueued = true

theorem State.dropOrder_placed (h : s.Placed j) (hj : j ≠ d) : (s.dropOrder d).Placed j := by
  unfold State.Placed at h ⊢
  rwa [State.dropOrder_hasOrder, State.dropOrder_living, if_neg (Ne.symm hj), if_neg (Ne.symm hj)]

theorem State.updateOrder_placed (h : s.Placed j) (o : Order) (f : Order → Order) : (s.updateOrder o f).Placed j := by
  have hm : (s.mapOrder o.pile fun x => { f x with pile := x.pile }).Placed j := by
    unfold State.Placed at h ⊢
    rw [State.mapOrder_hasOrder s o.pile j (f := fun x => { f x with pile := x.pile }) fun _ => rfl]
    exact h
  unfold State.updateOrder
  cases ((f o).rank != o.rank)
  · exact hm
  · exact hm

theorem State.unqueue_placed (h : s.Placed j) (d : Fin 48) :
    (s.mapLiving d fun l => { l with unqueued := true }).Placed j := by
  unfold State.Placed at h ⊢
  rw [State.mapLiving_living]
  split
  · exact .inr rfl
  · exact h

theorem State.unqueue_self (s : State) (d : Fin 48) :
    (s.mapLiving d fun l => { l with unqueued := true }).Placed d := by
  refine .inr ?_
  rw [State.mapLiving_living, if_pos rfl]

theorem State.appendOrder_hasOrder (s : State) (o : Order) (j : Fin 48) :
    (s.appendOrder o).hasOrder j = (s.hasOrder j || o.pile == j) := by
  show (s.queue ++ [o]).any (fun x => x.pile == j) = _
  rw [List.any_append, List.any_cons, List.any_nil, Bool.or_false]
  rfl

theorem State.appendOrder_living (s : State) (o : Order) (j : Fin 48) : (s.appendOrder o).watch.living.get j
    = if o.pile = j then { s.watch.living.get o.pile with unqueued := false } else s.watch.living.get j :=
  State.mapLiving_living _ _ _ _

theorem State.appendOrder_placed (h : s.Placed j) (o : Order) : (s.appendOrder o).Placed j := by
  unfold State.Placed at h ⊢
  rw [State.appendOrder_hasOrder, State.appendOrder_living]
  by_cases hj : o.pile = j
  · exact .inl (by simp [hj])
  · rw [if_neg hj]
    exact h.imp (fun h => by simp [h]) id

theorem State.appendOrder_self (s : State) (o : Order) : (s.appendOrder o).Placed o.pile := by
  refine .inl ?_
  rw [State.appendOrder_hasOrder, beq_self_eq_true, Bool.or_true]

/-- An offer for another pile leaves a pile its order or makes it Unqueued. -/
theorem State.offer_placed (h : s.Placed j) (hj : j ≠ i) (w : Urgency) : (s.offer i w).Placed j := by
  obtain ⟨o, f, -, ho⟩ | ⟨-, ho | ho⟩ | ⟨o, t, -, ht, ho⟩ | ho := s.offer_cases i w <;> rw [ho]
  · exact State.updateOrder_placed h o f
  · exact h
  · exact State.dropOrder_placed h hj
  · obtain rfl | ⟨d, rfl⟩ := State.join_cases ht
    · exact State.appendOrder_placed h o
    · refine State.appendOrder_placed ?_ o
      by_cases hd : j = d
      · subst hd
        exact State.unqueue_self _ j
      · exact State.unqueue_placed (State.dropOrder_placed h hd) d
  · exact State.unqueue_placed h i

/-- An offer of another Urgency than NONE leaves its pile with an order or Unqueued. -/
theorem State.offer_self {w : Urgency} (hw : w ≠ .none) : (s.offer i w).Placed i := by
  obtain ⟨o, f, hf, ho⟩ | ⟨hn, -⟩ | ⟨o, t, rfl, ht, ho⟩ | ho := s.offer_cases i w
  · rw [ho]
    refine State.updateOrder_placed (.inl ?_) o f
    obtain ⟨hm, hp⟩ := State.orderOf_spec hf
    exact State.hasOrder_iff.2 ⟨o, hm, hp⟩
  · exact absurd hn hw
  · rw [ho]
    obtain rfl | ⟨d, rfl⟩ := State.join_cases ht
    · exact s.appendOrder_self o
    · exact State.appendOrder_self _ o
  · rw [ho]
    exact s.unqueue_self i

theorem State.offerRule_placed (h : s.Placed j) (hj : j ≠ i) : (s.offerRule i).Placed j := by
  obtain ho | ho := s.offerRule_cases i <;> rw [ho]
  · exact h
  · exact State.offer_placed h hj _

/-! ## The sweep-due test (03 R63) -/

variable {p : Pile} {bed : Fin 8} {wetted : Fin 48}

/-- The sweep-due test finds pile `j` due, and it was not. -/
def State.SweepDue (s : State) (bed : Fin 8) (wetted j : Fin 48) : Prop :=
  (∃ q, s.geometry.piles.get j = some q ∧ q.bed = bed) ∧ j ≠ wetted
    ∧ (s.geometry.beds.get bed).sweepLimit ≠ 0
    ∧ (s.geometry.beds.get bed).sweepLimit ≤ (s.watch.passCount.get bed - (s.watch.living.get j).bedMark).toNat
    ∧ (s.watch.living.get j).sweepDue = false

/-- One pile's turn in the sweep-due test. -/
def State.sweepStep (bed : Fin 8) (wetted : Fin 48) (t : State) (i : Fin 48) : State :=
  match t.geometry.piles.get i with
  | some p =>
    if p.bed = bed ∧ i ≠ wetted ∧ t.sweepFindsDue bed i = true
        ∧ (t.watch.living.get i).sweepDue = false
    then t.markSweepDue i
    else t
  | none => t

theorem State.sweepTest_eq_steps (s : State) (bed : Fin 8) (wetted : Fin 48) :
    s.sweepTest bed wetted = s.forEach (List.finRange 48) (State.sweepStep bed wetted) := rfl

theorem State.sweepFindsDue_iff : s.sweepFindsDue bed i = true ↔ (s.geometry.beds.get bed).sweepLimit ≠ 0
    ∧ (s.geometry.beds.get bed).sweepLimit
      ≤ (s.watch.passCount.get bed - (s.watch.living.get i).bedMark).toNat := by
  simp [State.sweepFindsDue]

theorem State.sweepStep_of_due (h : s.SweepDue bed wetted i) : s.sweepStep bed wetted i = s.markSweepDue i := by
  obtain ⟨⟨q, hq, hb⟩, hw, hl, hn, hs⟩ := h
  unfold State.sweepStep
  rw [hq]
  exact if_pos ⟨hb, hw, State.sweepFindsDue_iff.2 ⟨hl, hn⟩, hs⟩

theorem State.sweepStep_of_not_due (h : ¬ s.SweepDue bed wetted i) : s.sweepStep bed wetted i = s := by
  unfold State.sweepStep
  split
  · next q hq =>
    refine if_neg ?_
    rintro ⟨hb, hw, hf, hs⟩
    obtain ⟨hl, hn⟩ := State.sweepFindsDue_iff.1 hf
    exact h ⟨⟨q, hq, hb⟩, hw, hl, hn, hs⟩
  · rfl

theorem floorUrgency_sweep (u : Urgency) : floorUrgency false true u = if u = .must then .must else .need := by
  cases u <;> rfl

/-- The living part of a pile marked due. -/
def Living.marked (l : Living) : Living :=
  { l with sweepDue := true, urgency := if l.urgency = .must then .must else .need }

theorem State.markSweepDue_eq (s : State) (i : Fin 48) : s.markSweepDue i
    = ({ s with watch := { s.watch with living := s.watch.living.put i (s.watch.living.get i).marked } } :
        State).offerRule i := by
  unfold State.markSweepDue Living.marked
  rw [← floorUrgency_sweep]
  rfl

theorem State.markSweepDue_requeued (s : State) (i : Fin 48) : s.Requeued (s.markSweepDue i) := by
  unfold State.markSweepDue
  exact (s.mapLiving_requeued i _).trans (State.offerRule_requeued _ i)

theorem State.sweepStep_requeued (s : State) (bed : Fin 8) (wetted i : Fin 48) :
    s.Requeued (s.sweepStep bed wetted i) := by
  by_cases h : s.SweepDue bed wetted i
  · rw [State.sweepStep_of_due h]
    exact s.markSweepDue_requeued i
  · rw [State.sweepStep_of_not_due h]
    exact .refl s

theorem State.sweepTest_requeued (s : State) (bed : Fin 8) (wetted : Fin 48) : s.Requeued (s.sweepTest bed wetted) := by
  rw [State.sweepTest_eq_steps]
  exact s.forEach_inv s.Requeued _ _ (fun t i _ ht => ht.trans (t.sweepStep_requeued bed wetted i)) (.refl s)

/-- Another pile's turn leaves a pile's living part but for Carried and Unqueued, and leaves it its order or makes it
Unqueued. -/
theorem State.sweepStep_other (s : State) (bed : Fin 8) (wetted : Fin 48) (hj : j ≠ i) :
    (s.watch.living.get j).Apart ((s.sweepStep bed wetted i).watch.living.get j)
      ∧ (s.Placed j → (s.sweepStep bed wetted i).Placed j) := by
  by_cases h : s.SweepDue bed wetted i
  · rw [State.sweepStep_of_due h, State.markSweepDue_eq]
    generalize hv : ({ s with watch := { s.watch with
      living := s.watch.living.put i (s.watch.living.get i).marked } } : State) = v
    have hl : v.watch.living.get j = s.watch.living.get j := by
      rw [← hv]
      exact (Table.get_put _ _ _ _).trans (if_neg (Ne.symm hj))
    have ho : v.hasOrder j = s.hasOrder j := by
      rw [← hv]
      rfl
    refine ⟨hl ▸ (v.offerRule_offered i).apart j, fun hp => State.offerRule_placed ?_ hj⟩
    unfold State.Placed at hp ⊢
    rwa [hl, ho]
  · rw [State.sweepStep_of_not_due h]
    exact ⟨.refl _, id⟩

/-- What the turn of a due pile leaves of it. -/
theorem State.sweepStep_self (h : s.SweepDue bed wetted i) :
    (s.watch.living.get i).marked.Apart ((s.sweepStep bed wetted i).watch.living.get i)
      ∧ ((s.watch.living.get i).engaged = false → (s.control.mode = .active ∨ s.control.mode = .held) →
        (s.sweepStep bed wetted i).Placed i) := by
  rw [State.sweepStep_of_due h, State.markSweepDue_eq]
  generalize hv : ({ s with watch := { s.watch with
    living := s.watch.living.put i (s.watch.living.get i).marked } } : State) = v
  have hl : v.watch.living.get i = (s.watch.living.get i).marked := by
    rw [← hv]
    exact (Table.get_put _ _ _ _).trans (if_pos rfl)
  have hc : v.control = s.control := by rw [← hv]
  refine ⟨hl ▸ (v.offerRule_offered i).apart i, fun he hm => ?_⟩
  rw [State.offerRule_of_offer (by rw [hl]; exact he) (by rw [hc]; exact hm)]
  refine State.offer_self ?_
  rw [hl, Living.marked]
  dsimp only
  split <;> simp

/-- A pile's turn in the sweep-due test, and what the other piles' turns leave of it. -/
theorem State.sweepTest_at (s : State) (bed : Fin 8) (wetted j : Fin 48) :
    (¬ s.SweepDue bed wetted j → (s.watch.living.get j).Apart ((s.sweepTest bed wetted).watch.living.get j))
      ∧ (s.SweepDue bed wetted j → (s.watch.living.get j).marked.Apart ((s.sweepTest bed wetted).watch.living.get j)
        ∧ ((s.watch.living.get j).engaged = false → (s.control.mode = .active ∨ s.control.mode = .held) →
          (s.sweepTest bed wetted).Placed j)) := by
  obtain ⟨l₁, l₂, hl⟩ := List.append_of_mem (List.mem_finRange j)
  have hnd : (l₁ ++ j :: l₂).Nodup := hl ▸ List.nodup_finRange 48
  obtain ⟨-, hn₂, hd⟩ := List.nodup_append.1 hnd
  obtain ⟨hj₂, -⟩ := List.nodup_cons.1 hn₂
  rw [State.sweepTest_eq_steps, hl, State.forEach, List.foldl_append, List.foldl_cons]
  obtain ⟨hr, ha⟩ := s.forEach_inv (fun t => s.Requeued t ∧ (s.watch.living.get j).Apart (t.watch.living.get j)) l₁
    (State.sweepStep bed wetted) (fun t i hi ht => ⟨ht.1.trans (t.sweepStep_requeued bed wetted i),
      ht.2.trans (t.sweepStep_other bed wetted (Ne.symm (hd i hi j List.mem_cons_self))).1⟩) ⟨.refl s, .refl _⟩
  unfold State.forEach at hr ha
  generalize l₁.foldl _ s = v at hr ha
  have hrest : ∀ w : State, (w.watch.living.get j).Apart ((l₂.foldl (State.sweepStep bed wetted) w).watch.living.get j)
      ∧ (w.Placed j → (l₂.foldl (State.sweepStep bed wetted) w).Placed j) := fun w =>
    w.forEach_inv (fun t => (w.watch.living.get j).Apart (t.watch.living.get j) ∧ (w.Placed j → t.Placed j)) l₂
      (State.sweepStep bed wetted) (fun t i hi ht => by
        obtain ⟨h1, h2⟩ := t.sweepStep_other bed wetted (j := j) (i := i) fun h => hj₂ (h ▸ hi)
        exact ⟨ht.1.trans h1, fun hw => h2 (ht.2 hw)⟩) ⟨.refl _, id⟩
  obtain ⟨q, l, a, hv⟩ := hr
  have hpile : v.geometry = s.geometry ∧ v.watch.passCount = s.watch.passCount ∧ v.control = s.control := by
    rw [hv]
    exact ⟨rfl, rfl, rfl⟩
  obtain ⟨hg, hpc, hco⟩ := hpile
  unfold Living.Apart at ha
  have hsame : (v.watch.living.get j).bedMark = (s.watch.living.get j).bedMark
      ∧ (v.watch.living.get j).sweepDue = (s.watch.living.get j).sweepDue
      ∧ (v.watch.living.get j).engaged = (s.watch.living.get j).engaged
      ∧ (s.watch.living.get j).marked.Apart (v.watch.living.get j).marked := by
    rw [ha]
    exact ⟨rfl, rfl, rfl, rfl⟩
  obtain ⟨hbm, hsd, hen, hma⟩ := hsame
  have hdue : v.SweepDue bed wetted j ↔ s.SweepDue bed wetted j := by
    unfold State.SweepDue
    rw [hg, hpc, hbm, hsd]
  refine ⟨fun hnd => ?_, fun hdu => ?_⟩
  · rw [State.sweepStep_of_not_due (mt hdue.1 hnd)]
    exact Living.Apart.trans ha (hrest v).1
  · obtain ⟨h1, h2⟩ := State.sweepStep_self (hdue.2 hdu)
    obtain ⟨h3, h4⟩ := hrest (v.sweepStep bed wetted j)
    rw [hen, hco] at h2
    exact ⟨(hma.trans h1).trans h3, fun he hm => h4 (h2 he hm)⟩

end

section

variable {s t : State} {r : EndReport} {p : Pile} {stamp : Wetting} {n : Word16}

/-! ## The report (03 R61, R62) -/

theorem State.takeEndReport_of_present (hp : s.geometry.piles.get r.pile = some p) (offers : Bool) :
    s.takeEndReport r offers =
      ((if 0 < r.baysDone then ((s.mapLiving r.pile fun l =>
          { l with wetting := some (s.wettingOf r), engaged := false }).creditPass r p.bed).sweepTest p.bed r.pile
        else s.mapLiving r.pile fun l => { l with wetting := some (s.wettingOf r), engaged := false })).reevaluate
          r.pile offers := by
  unfold State.takeEndReport
  rw [hp]

/-- The living part of a wetted pile, credited (03 R61, R62). -/
def Living.credited (l : Living) (stamp : Wetting) (credit : Nat) (n : Word16) : Living :=
  { l with
    wetting := some stamp, engaged := false, moisture := min 100 (l.moisture + credit)
    deferral := 0, escalated := false, sweepDue := false, bedMark := n }

/-- The state after the credit, before the sweep-due test. -/
def State.credited (s : State) (r : EndReport) (bed : Fin 8) : State := { s with
  watch := { s.watch with
    living := s.watch.living.put r.pile ((s.watch.living.get r.pile).credited (s.wettingOf r)
      (s.gainOf r.cannon * r.baysDone / r.baysPlanned) (s.watch.passCount.get bed + 1))
    passCount := s.watch.passCount.put bed (s.watch.passCount.get bed + 1) } }

theorem State.takeEndReport_of_none (hp : s.geometry.piles.get r.pile = some p) (h : r.baysDone = 0) (offers : Bool) :
    s.takeEndReport r offers = ({ s with
      watch := { s.watch with
        living := s.watch.living.put r.pile { s.watch.living.get r.pile with
          wetting := some (s.wettingOf r), engaged := false } } } : State).reevaluate r.pile offers := by
  rw [State.takeEndReport_of_present hp, if_neg (by omega)]
  rfl

theorem State.takeEndReport_of_bays (hp : s.geometry.piles.get r.pile = some p) (h : 0 < r.baysDone) (offers : Bool) :
    s.takeEndReport r offers = ((s.credited r p.bed).sweepTest p.bed r.pile).reevaluate r.pile offers := by
  have hc : (s.mapLiving r.pile fun l => { l with wetting := some (s.wettingOf r), engaged := false }).creditPass
      r p.bed = s.credited r p.bed := by
    have hl : (s.watch.living.modify r.pile fun l => { l with wetting := some (s.wettingOf r), engaged := false }).modify
        r.pile (fun l => { l with
          moisture := min 100 (l.moisture + s.gainOf r.cannon * r.baysDone / r.baysPlanned)
          deferral := 0, escalated := false, sweepDue := false, bedMark := s.watch.passCount.get p.bed + 1 })
        = s.watch.living.put r.pile ((s.watch.living.get r.pile).credited (s.wettingOf r)
          (s.gainOf r.cannon * r.baysDone / r.baysPlanned) (s.watch.passCount.get p.bed + 1)) := by
      simp only [Table.modify_eq_put, Table.put_put, Table.get_put, if_true]
      rfl
    unfold State.credited
    rw [← hl]
    rfl
  rw [State.takeEndReport_of_present hp, if_pos h, hc]

/-! ## CLEAR (06 R126) -/

variable {main : Byte} {m : Fin 4}

theorem State.clear_of_le (h : 3 < main.toNat) : s.clear main = (s, some (.range, main)) := by
  unfold State.clear
  rw [index?_of_le h]

theorem State.clear_of_not_faulted (hm : m.val = main.toNat) (h : (s.engine.mains.get m).state ≠ .faulted) :
    s.clear main = (s, some (.state, main)) := by
  unfold State.clear
  rw [index?_of_toNat_eq hm.symm]
  exact if_neg h

theorem State.clear_of_faulted (hm : m.val = main.toNat) (h : (s.engine.mains.get m).state = .faulted) :
    s.clear main = ({ s with
      engine := { s.engine with
        mains := s.engine.mains.put m { s.engine.mains.get m with state := .closed, fault := none }
        asked := s.engine.asked.put m true } }, some (.done, main)) := by
  unfold State.clear
  rw [index?_of_toNat_eq hm.symm]
  exact if_pos h

end

/-- Settles O37: the prime timer's expiry, CLEAR, the report of an end, and what Pile Watch makes of it. -/
theorem faultAndClear : Obligations.FaultAndClear := by
  refine ⟨fun s c hlive => ⟨fun p hp htimer => ?_, fun h => ?_⟩, fun s main h => ⟨fun hm => ?_, fun m hm =>
    ⟨fun hf => ?_, fun hf => ?_⟩⟩, ?_, ?_⟩
  · refine ⟨s.endPass none c (.noFlow .noFlow) true, exec_of_event rfl hlive (State.passTimer_of_due hp htimer _), rfl,
      State.endPass_frame _ _ _ _ _, State.endPass_contexts _ _ _ _ _, ?_⟩
    obtain ⟨hmain, hmf, hms, hall⟩ := State.endPass_of_noFlow hp none .noFlow true
    obtain ⟨hpe, hps⟩ := State.endPass_passEnded hp none (.noFlow .noFlow) true
    obtain ⟨-, -, hask, hlast, -⟩ := State.endPass_parts hp none (.noFlow .noFlow) true
    exact ⟨hmain, hlast, hmf, hms, hpe, hps, hall, hask⟩
  · exact exec_of_event rfl hlive (State.passTimer_of_not_due h _)
  · exact exec_of_command rfl h (State.clear_of_le hm)
  · exact exec_of_command rfl h (State.clear_of_not_faulted hm hf)
  · exact exec_of_command rfl h (State.clear_of_faulted hm hf)
  · intro s t x c p e offers hp ht
    obtain ⟨hw, hq⟩ := s.ended_watch_queue x c p e
    refine ⟨s.ended x c p e, s.ended_frame x c p e, hw, hq, s.ended_contexts x c p e, fun r hr => ?_⟩
    obtain ⟨h1, h2, h3, h4, -⟩ := State.endPass_parts hp x e offers
    obtain ⟨h5, h6⟩ := State.endPass_passEnded hp x e offers
    have hfr := s.endPass_frame x c e offers
    have hcx := s.endPass_contexts x c e offers
    rw [← ht] at h1 h2 h3 h4 h5 h6 hfr hcx
    have hrep : s.reported x c p e offers = (s.ended x c p e).takeEndReport r offers := by
      rw [hr]
      rfl
    rw [hrep] at h1 h2
    exact ⟨h1, h2, hcx, hfr, h3, h4, h5, h6⟩
  · intro s r offers p l stamp n hp hl hstamp hn
    have hst : stamp = s.wettingOf r := hstamp
    subst hl hst hn
    refine ⟨fun h0 => State.takeEndReport_of_none hp h0 offers, fun hb => ?_, fun hb next v absent present hv => ?_⟩
    · refine ⟨(s.credited r p.bed).sweepTest p.bed r.pile, State.takeEndReport_of_bays hp hb offers, ?_⟩
      have hat := (s.credited r p.bed).sweepTest_at p.bed r.pile
      obtain ⟨q, lv, a, hu⟩ := (s.credited r p.bed).sweepTest_requeued p.bed r.pile
      have hfr := (s.credited r p.bed).sweepTest_frame p.bed r.pile
      have hself : (s.credited r p.bed).watch.living.get r.pile = (s.watch.living.get r.pile).credited (s.wettingOf r)
          (s.gainOf r.cannon * r.baysDone / r.baysPlanned) (s.watch.passCount.get p.bed + 1) :=
        (Table.get_put _ _ _ _).trans (if_pos rfl)
      have hother : ∀ j, j ≠ r.pile → (s.credited r p.bed).watch.living.get j = s.watch.living.get j := fun j hj =>
        (Table.get_put _ _ _ _).trans (if_neg (Ne.symm hj))
      have hcount : (s.credited r p.bed).watch.passCount.get p.bed = s.watch.passCount.get p.bed + 1 :=
        (Table.get_put _ _ _ _).trans (if_pos rfl)
      have hmode : (s.credited r p.bed).control = s.control := rfl
      have hgeo : (s.credited r p.bed).geometry = s.geometry := rfl
      have hdue : ∀ j, (s.credited r p.bed).SweepDue p.bed r.pile j ↔
          (∃ q, s.geometry.piles.get j = some q ∧ q.bed = p.bed) ∧ j ≠ r.pile
            ∧ (s.geometry.beds.get p.bed).sweepLimit ≠ 0
            ∧ (s.geometry.beds.get p.bed).sweepLimit
              ≤ (s.watch.passCount.get p.bed + 1 - ((s.credited r p.bed).watch.living.get j).bedMark).toNat
            ∧ ((s.credited r p.bed).watch.living.get j).sweepDue = false := fun j => by
        unfold State.SweepDue
        rw [hcount, hgeo]
      have hfields : ((s.credited r p.bed).sweepTest p.bed r.pile).water = s.water
          ∧ ((s.credited r p.bed).sweepTest p.bed r.pile).notices = s.notices
          ∧ ((s.credited r p.bed).sweepTest p.bed r.pile).control = s.control
          ∧ ((s.credited r p.bed).sweepTest p.bed r.pile).watch.mustCount = s.watch.mustCount
          ∧ ((s.credited r p.bed).sweepTest p.bed r.pile).watch.passCount
            = s.watch.passCount.put p.bed (s.watch.passCount.get p.bed + 1) := by
        rw [hu]
        exact ⟨rfl, rfl, rfl, rfl, rfl⟩
      obtain ⟨hwa, hno, hco, hmc, hpc⟩ := hfields
      generalize (s.credited r p.bed).sweepTest p.bed r.pile = u at hat hfr hwa hno hco hmc hpc
      refine ⟨hfr, hwa, hno, hco, hmc, hpc, ?_, fun j hj old new due hold hnew hdue' => ?_⟩
      · have hnot : ¬ (s.credited r p.bed).SweepDue p.bed r.pile r.pile := fun h => ((hdue _).1 h).2.1 rfl
        have ha := (hat r.pile).1 hnot
        rw [hself] at ha
        exact ha
      · subst hold hnew
        have hd : due ↔ (s.credited r p.bed).SweepDue p.bed r.pile j := by
          rw [hdue', hdue, hother j hj]
          exact ⟨fun ⟨h1, h2, h3, h4⟩ => ⟨h1, hj, h2, h3, h4⟩, fun ⟨h1, _, h2, h3, h4⟩ => ⟨h1, h2, h3, h4⟩⟩
        obtain ⟨h1, h2⟩ := hat j
        rw [hother j hj] at h1 h2
        refine ⟨fun h => h1 (mt hd.2 h), fun h => (h2 (hd.1 h)).1, fun h he hm => ?_⟩
        obtain ho | ho := (h2 (hd.1 h)).2 he hm
        · exact .inl (State.hasOrder_iff.1 ho)
        · exact .inr ho
    · have hvc : v = s.credited r p.bed := by
        rw [hv]
        rfl
      rw [State.takeEndReport_of_bays hp hb, State.sweepTest_eq_steps, ← hvc]
      have hstep : ∀ (w : State) (j : Fin 48), next w j = w.sweepStep p.bed r.pile j := by
        intro w j
        cases hj : w.geometry.piles.get j with
        | none =>
          rw [absent w j hj, State.sweepStep_of_not_due]
          rintro ⟨⟨q, hq, -⟩, -⟩
          rw [hj] at hq
          exact absurd hq (by simp)
        | some q =>
          have hd : w.SweepDue p.bed r.pile j ↔ q.bed = p.bed ∧ j ≠ r.pile
              ∧ (w.geometry.beds.get p.bed).sweepLimit ≠ 0
              ∧ (w.geometry.beds.get p.bed).sweepLimit
                ≤ (w.watch.passCount.get p.bed - (w.watch.living.get j).bedMark).toNat
              ∧ (w.watch.living.get j).sweepDue = false := by
            unfold State.SweepDue
            rw [hj]
            simp only [Option.some.injEq, exists_eq_left']
          obtain ⟨h1, h2⟩ := present w j q _ hj rfl _ hd
          by_cases hdue : w.SweepDue p.bed r.pile j
          · rw [h2 hdue, State.sweepStep_of_due hdue, State.markSweepDue_eq]
            rfl
          · rw [h1 hdue, State.sweepStep_of_not_due hdue]
      exact congrArg (fun w : State => w.reevaluate r.pile offers)
        (foldl_of_step hstep (List.finRange 48) v).symm

end Sys2Proof.Machine

/-! PROOFS. The settlement of a pass end, basin by basin (04 R69, R71 to R73, R79, R81). -/

namespace Sys2Proof.Machine

section

variable {s t u : State} {x : Fin 6} {b d : Fin 5} {v : Nat} {e : Option (Fin 5)}

/-- Source `x` is basin `b`. -/
abbrev IsBasin (x : Fin 6) (b : Fin 5) : Prop := x.val = b.val

theorem isBasin_unique (h : IsBasin x b) (h' : IsBasin x d) : b = d := Fin.ext (h.symm.trans h')

theorem not_isBasin_five : ¬ IsBasin 5 b := fun h => by
  have := b.isLt
  have h5 : (5 : Fin 6).val = 5 := rfl
  unfold IsBasin at h
  omega

theorem asBasin_eq_some : asBasin x = some b ↔ IsBasin x b := by
  refine ⟨fun h => ?_, asBasin_of_val⟩
  unfold asBasin at h
  split at h
  · next hx => exact congrArg Fin.val (Option.some.inj h)
  · exact absurd h (by simp)

theorem asSource_isBasin (b : Fin 5) : IsBasin (asSource b) b := rfl

/-! ## Each operation at one basin -/

/-- The basin with Reserved lowered. -/
def Basin.released (y : Basin) (v : Nat) : Basin := { y with reserved := y.reserved - v }

/-- The basin with an addition to its Level, and what overflows Spilled (04 R81). -/
def Basin.filled (y : Basin) (v : Nat) : Basin :=
  if y.level + v ≤ y.capacity then { y with level := y.level + v }
  else { y with level := y.capacity, spilled := min 65535 (y.spilled + y.excess v) }

/-- The basin after its low test. -/
def Basin.tested (y : Basin) : Basin := { y with low := y.lowAfter }

theorem State.deduct_basin (s : State) (x : Fin 6) (v : Nat) (b : Fin 5) : (s.deduct x v).water.basins.get b
    = if IsBasin x b then (s.water.basins.get b).drawn v else s.water.basins.get b := by
  rcases source_cases x with rfl | ⟨d, hd⟩
  · rw [if_neg not_isBasin_five]
    rfl
  · have ht : (s.deduct x v).water.basins.get b
        = (s.water.basins.modify d fun y => y.drawn v).get b := by
      rw [State.deduct, asBasin_of_val hd]
      rfl
    rw [ht, Table.get_modify]
    by_cases h : d = b
    · subst h
      rw [if_pos rfl, if_pos hd]
    · rw [if_neg h, if_neg fun hb => h (isBasin_unique hd hb)]

theorem State.deduct_fresh (s : State) (x : Fin 6) (v : Nat) : (s.deduct x v).water.fresh
    = if x = 5 then { s.water.fresh with used := s.water.fresh.used + v, reserved := s.water.fresh.reserved - v }
      else s.water.fresh := by
  rcases source_cases x with rfl | ⟨d, hd⟩
  · rfl
  · rw [if_neg, State.deduct, asBasin_of_val hd]
    · rfl
    · rintro rfl
      exact not_isBasin_five hd

theorem State.deduct_notices (s : State) (x : Fin 6) (v : Nat) : (s.deduct x v).notices = s.notices := by
  unfold State.deduct
  cases asBasin x <;> rfl

theorem State.release_basin (s : State) (x : Fin 6) (v : Nat) (b : Fin 5) : (s.release x v).water.basins.get b
    = if IsBasin x b then (s.water.basins.get b).released v else s.water.basins.get b := by
  rcases source_cases x with rfl | ⟨d, hd⟩
  · rw [if_neg not_isBasin_five, State.release_water_fresh]
  · rw [State.release_water_basin s hd]
    show (s.water.basins.put d _).get b = _
    rw [Table.get_put]
    by_cases h : d = b
    · subst h
      rw [if_pos rfl, if_pos hd]
      rfl
    · rw [if_neg h, if_neg fun hb => h (isBasin_unique hd hb)]

theorem State.release_fresh (s : State) (x : Fin 6) (v : Nat) : (s.release x v).water.fresh
    = if x = 5 then { s.water.fresh with reserved := s.water.fresh.reserved - v } else s.water.fresh := by
  rcases source_cases x with rfl | ⟨d, hd⟩
  · rw [State.release_water_fresh]
    rfl
  · rw [if_neg, State.release_water_basin s hd]
    rintro rfl
    exact not_isBasin_five hd

/-- An addition written out: the basin filled, and SPILL where it overflows. -/
theorem State.addLevel_eq (s : State) (d : Fin 5) (v : Nat) : s.addLevel d v = { s with
    water := { s.water with basins := s.water.basins.put d ((s.water.basins.get d).filled v) }
    notices := if (s.water.basins.get d).level + v ≤ (s.water.basins.get d).capacity then s.notices
      else s.notices.marked .spill d.val } := by
  unfold State.addLevel Basin.filled
  dsimp only
  by_cases h : (s.water.basins.get d).level + v ≤ (s.water.basins.get d).capacity
  · simp only [if_pos h]
    rfl
  · simp only [if_neg h]
    rfl

theorem State.addRunoff_eq (s : State) (d : Fin 5) (v : Nat) : s.addRunoff d v = { s with
    water := { s.water with basins := s.water.basins.put d ((s.water.basins.get d).filled v).stir }
    notices := if (s.water.basins.get d).level + v ≤ (s.water.basins.get d).capacity then s.notices
      else s.notices.marked .spill d.val } := by
  have hp : (s.water.basins.put d ((s.water.basins.get d).filled v)).modify d Basin.stir
      = s.water.basins.put d ((s.water.basins.get d).filled v).stir := by
    simp only [Table.modify_eq_put, Table.put_put, Table.get_put, if_true]
  rw [State.addRunoff, State.addLevel_eq, ← hp]
  rfl

theorem State.lowTestUnless_of_exempt (h : IsBasin x b) : s.lowTestUnless (some b) x = s := by
  rw [State.lowTestUnless, asBasin_of_val h]
  exact if_pos rfl

theorem State.lowTestUnless_of_basin (h : IsBasin x b) (he : e ≠ some b) : s.lowTestUnless e x = s.lowTest b := by
  rw [State.lowTestUnless, asBasin_of_val h]
  exact if_neg he

theorem State.lowTestUnless_basin (s : State) (e : Option (Fin 5)) (x : Fin 6) (b : Fin 5) :
    (s.lowTestUnless e x).water.basins.get b
      = if IsBasin x b ∧ e ≠ some b then (s.water.basins.get b).tested else s.water.basins.get b := by
  rcases source_cases x with rfl | ⟨d, hd⟩
  · rw [if_neg fun h => not_isBasin_five h.1]
    rfl
  · by_cases he : e = some d
    · subst he
      rw [State.lowTestUnless_of_exempt hd, if_neg]
      rintro ⟨hb, hne⟩
      exact hne (by rw [isBasin_unique hd hb])
    · rw [State.lowTestUnless_of_basin hd he, State.lowTest_eq]
      show (s.water.basins.put d _).get b = _
      rw [Table.get_put]
      by_cases h : d = b
      · subst h
        rw [if_pos rfl, if_pos ⟨hd, he⟩]
        rfl
      · rw [if_neg h, if_neg fun hb => h (isBasin_unique hd hb.1)]

theorem State.lowTestUnless_fresh (s : State) (e : Option (Fin 5)) (x : Fin 6) :
    (s.lowTestUnless e x).water.fresh = s.water.fresh := by
  unfold State.lowTestUnless
  split
  · split
    · rfl
    · rw [State.lowTest_eq]
  · rfl

/-! ## WATER_LOW over some low tests (04 R69) -/

/-- The basin enters the low condition from `s` to `t`. -/
def State.Enters (s t : State) (b : Fin 5) : Prop :=
  (s.water.basins.get b).low = false ∧ (t.water.basins.get b).low = true

/-- From `s` to `t` the low condition changed at basin `o` at most, and WATER_LOW reports its entry. -/
structure State.LowStep (s t : State) (o : Option (Fin 5)) : Prop where
  others : ∀ b, o ≠ some b → (t.water.basins.get b).low = (s.water.basins.get b).low
  enters : ∀ b, o = some b → s.Enters t b →
    t.notices.pending.get NoticeKind.waterLow.place = true
      ∧ t.notices.subjects.get NoticeKind.waterLow.place = b.val
  stays : (∀ b, o = some b → ¬ s.Enters t b) → t.notices.SameKind s.notices .waterLow

theorem State.LowStep.none_of (hb : ∀ b, (t.water.basins.get b).low = (s.water.basins.get b).low)
    (hn : t.notices.SameKind s.notices .waterLow) : s.LowStep t none :=
  ⟨fun b _ => hb b, fun _ h => absurd h (by simp), fun _ => hn⟩

theorem State.lowTest_lowStep (s : State) (b : Fin 5) : s.LowStep (s.lowTest b) (some b) := by
  rw [State.lowTest_eq]
  have hlow : ∀ d, ((s.water.basins.put b (s.water.basins.get b).tested).get d).low
      = if b = d then (s.water.basins.get b).lowAfter else (s.water.basins.get d).low := fun d => by
    rw [Table.get_put]
    split <;> rfl
  refine ⟨fun d hd => ?_, fun d hd he => ?_, fun hn => ?_⟩
  · exact (hlow d).trans (if_neg fun h => hd (congrArg some h))
  · obtain rfl := Option.some.inj hd
    obtain ⟨h1, h2⟩ := he
    have h3 : (s.water.basins.get b).lowAfter = true := ((hlow b).trans (if_pos rfl)).symm.trans h2
    dsimp only
    rw [if_pos ⟨h1, h3⟩]
    exact Notices.marked_self _ _ _
  · have hne : ¬ ((s.water.basins.get b).low = false ∧ (s.water.basins.get b).lowAfter = true) :=
      fun h => hn b rfl ⟨h.1, ((hlow b).trans (if_pos rfl)).trans h.2⟩
    dsimp only
    rw [if_neg hne]
    exact .refl _ _

/-- The basin that a low test of source `x` may change. -/
def testedBasin (e : Option (Fin 5)) (x : Fin 6) : Option (Fin 5) := if e = asBasin x then none else asBasin x

theorem State.lowTestUnless_lowStep (s : State) (e : Option (Fin 5)) (x : Fin 6) :
    s.LowStep (s.lowTestUnless e x) (testedBasin e x) := by
  unfold State.lowTestUnless testedBasin
  cases asBasin x with
  | none =>
    rw [ite_self]
    exact .none_of (fun _ => rfl) (.refl _ _)
  | some b =>
    dsimp only
    split
    · exact .none_of (fun _ => rfl) (.refl _ _)
    · exact s.lowTest_lowStep b

/-- WATER_LOW reports an entry into the low condition, and where there is none it is left. -/
def State.LowReported (s t : State) : Prop :=
  ((∃ b, s.Enters t b) → t.notices.pending.get NoticeKind.waterLow.place = true
    ∧ ∃ b, s.Enters t b ∧ t.notices.subjects.get NoticeKind.waterLow.place = b.val)
  ∧ ((∀ b, ¬ s.Enters t b) → t.notices.SameKind s.notices .waterLow)

theorem State.LowStep.of_enters {o : Option (Fin 5)} (h : s.LowStep t o) (hb : s.Enters t b) : o = some b := by
  by_contra hne
  obtain ⟨h1, h2⟩ := hb
  rw [h.others b hne, h1] at h2
  exact absurd h2 (by simp)

/-- Low tests of two basins, one after the other. -/
theorem State.LowStep.trans {o o' : Option (Fin 5)} (h : s.LowStep t o) (h' : t.LowStep u o')
    (hne : ∀ b, o = some b → o' ≠ some b) : s.LowReported u := by
  have hlow : ∀ b, o' ≠ some b → (s.Enters u b ↔ s.Enters t b) := fun b hb => by
    unfold State.Enters
    rw [h'.others b hb]
  have hlow' : ∀ b, o' = some b → (s.Enters u b ↔ t.Enters u b) := fun b hb => by
    unfold State.Enters
    rw [h.others b fun ho => hne b ho hb]
  refine ⟨fun ⟨b, hb⟩ => ?_, fun hno => ?_⟩
  · by_cases hsec : ∃ d, o' = some d ∧ t.Enters u d
    · obtain ⟨d, hd, hde⟩ := hsec
      obtain ⟨hp, hs⟩ := h'.enters d hd hde
      exact ⟨hp, d, (hlow' d hd).2 hde, hs⟩
    · have hsame := h'.stays fun d hd hde => hsec ⟨d, hd, hde⟩
      have hbo : o' ≠ some b := fun hbo => hsec ⟨b, hbo, (hlow' b hbo).1 hb⟩
      have hst := (hlow b hbo).1 hb
      obtain ⟨hp, hs⟩ := h.enters b (h.of_enters hst) hst
      exact ⟨hsame.1.trans hp, b, hb, hsame.2.trans hs⟩
  · refine (h'.stays fun d hd hde => hno d ((hlow' d hd).2 hde)).trans (h.stays fun d hd hde => ?_)
    exact hno d ((hlow d (hne d hd)).2 hde)

/-- Before the low tests the low conditions and WATER_LOW stood as they were. -/
theorem State.LowReported.of_before (h : t.LowReported u)
    (hb : ∀ b, (t.water.basins.get b).low = (s.water.basins.get b).low)
    (hn : t.notices.SameKind s.notices .waterLow) : s.LowReported u := by
  have he : ∀ b, s.Enters u b ↔ t.Enters u b := fun b => by
    unfold State.Enters
    rw [hb]
  unfold State.LowReported
  simp only [he]
  exact ⟨h.1, fun hno => (h.2 hno).trans hn⟩

theorem State.lowTestUnless_sameKind (s : State) (e : Option (Fin 5)) (x : Fin 6) {k : NoticeKind} (hk : k ≠ .waterLow) :
    (s.lowTestUnless e x).notices.SameKind s.notices k := by
  unfold State.lowTestUnless
  split
  · split
    · exact .refl _ _
    · rw [State.lowTest_eq]
      dsimp only
      split
      · exact Notices.marked_same (Ne.symm hk) _ _
      · exact .refl _ _
  · exact .refl _ _

end

section

variable {s : State} {p : Pass} {delivered : Nat} {b d : Fin 5} {v : Nat} {e : Option (Fin 5)}

/-! ## The settlement -/

/-- What was drawn deducted, and the rest of the plan released (04 R73 steps 1, 2). -/
def State.charged (s : State) (p : Pass) (delivered : Nat) : State :=
  (s.deduct p.source (delivered - p.deducted)).release p.source (p.planned - delivered)

theorem State.charged_keeps (s : State) (p : Pass) (delivered : Nat) :
    (s.charged p delivered).geometry = s.geometry ∧ (s.charged p delivered).notices = s.notices := by
  obtain ⟨hf, -, -, hn, -⟩ := (s.deduct p.source (delivered - p.deducted)).release_keeps p.source (p.planned - delivered)
  refine ⟨congrArg Frame.geometry (hf.trans (State.deduct_frame _ _ _)), hn.trans (State.deduct_notices _ _ _)⟩

/-- The basin after the deduction and the release. -/
theorem State.charged_basin (s : State) (p : Pass) (delivered : Nat) (b : Fin 5) :
    (s.charged p delivered).water.basins.get b = if IsBasin p.source b
      then ((s.water.basins.get b).drawn (delivered - p.deducted)).released (p.planned - delivered)
      else s.water.basins.get b := by
  rw [State.charged, State.release_basin, State.deduct_basin]
  by_cases h : IsBasin p.source b
  · simp only [if_pos h]
  · simp only [if_neg h]

theorem State.charged_fresh (s : State) (p : Pass) (delivered : Nat) : (s.charged p delivered).water.fresh
    = if p.source = 5 then { s.water.fresh with
        used := s.water.fresh.used + (delivered - p.deducted)
        reserved := s.water.fresh.reserved - (delivered - p.deducted + (p.planned - delivered)) }
      else s.water.fresh := by
  rw [State.charged, State.release_fresh, State.deduct_fresh]
  by_cases h : p.source = 5
  · simp only [if_pos h, Nat.sub_sub]
  · simp only [if_neg h]

theorem State.runoff_of_geometry {t : State} (h : t.geometry = s.geometry) (i : Fin 48) (v : Nat) :
    t.runoff i v = s.runoff i v := by
  unfold State.runoff
  rw [h]

/-- A settlement without runoff. -/
theorem State.settle_of_dry (h : s.runoff p.pile delivered = none) (e : Option (Fin 5)) :
    s.settle e p delivered = if 0 < delivered - p.deducted then (s.charged p delivered).lowTestUnless e p.source
      else s.charged p delivered := by
  rw [← State.runoff_of_geometry (s.charged_keeps p delivered).1] at h
  unfold State.charged at h
  unfold State.settle State.charged
  dsimp only
  rw [h]

/-- The settlement with its runoff added, after the low test of the source. -/
def State.watered (s : State) (e : Option (Fin 5)) (p : Pass) (delivered : Nat) (d : Fin 5) (v : Nat) : State :=
  if 0 < delivered - p.deducted && asBasin p.source != some d
  then ((s.charged p delivered).addRunoff d v).lowTestUnless e p.source else (s.charged p delivered).addRunoff d v

theorem State.settle_of_runoff (h : s.runoff p.pile delivered = some (d, v)) (e : Option (Fin 5)) :
    s.settle e p delivered = (s.watered e p delivered d v).lowTestUnless e (asSource d) := by
  rw [← State.runoff_of_geometry (s.charged_keeps p delivered).1] at h
  unfold State.charged at h
  unfold State.settle State.watered State.charged
  dsimp only
  rw [h]

/-- The runoff that comes into a basin (04 R79). -/
def State.added (s : State) (i : Fin 48) (delivered : Nat) (b : Fin 5) : Nat :=
  match s.runoff i delivered with
  | some (d, v) => if d = b then v else 0
  | none => 0

theorem State.runoff_pos {i : Fin 48} (h : s.runoff i delivered = some (d, v)) : 0 < v := by
  unfold State.runoff at h
  split at h
  · exact absurd h (by simp)
  · dsimp only at h
    split at h
    · split at h
      · next hv =>
        obtain ⟨-, rfl⟩ := Prod.mk.inj (Option.some.inj h)
        exact hv
      · exact absurd h (by simp)
    · exact absurd h (by simp)

theorem State.added_of_absent {i : Fin 48} (h : s.geometry.piles.get i = none) : s.added i delivered b = 0 := by
  unfold State.added State.runoff
  rw [h]

theorem State.added_of_present {i : Fin 48} {q : Pile} (h : s.geometry.piles.get i = some q) :
    s.added i delivered b = if (s.geometry.beds.get q.bed).collection = some b
      then delivered * (s.geometry.beds.get q.bed).returnPercent / 100 else 0 := by
  unfold State.added State.runoff
  rw [h]
  dsimp only
  cases (s.geometry.beds.get q.bed).collection with
  | none => simp
  | some d =>
    dsimp only
    by_cases hv : 0 < delivered * (s.geometry.beds.get q.bed).returnPercent / 100
    · simp [hv]
    · have h0 : delivered * (s.geometry.beds.get q.bed).returnPercent / 100 = 0 := by omega
      simp [h0]

theorem State.added_self {i : Fin 48} (h : s.runoff i delivered = some (d, v)) : s.added i delivered d = v := by
  unfold State.added
  rw [h]
  exact if_pos rfl

theorem State.added_other {i : Fin 48} (h : s.runoff i delivered = some (d, v)) (hb : b ≠ d) :
    s.added i delivered b = 0 := by
  unfold State.added
  rw [h]
  exact if_neg (Ne.symm hb)

theorem State.added_of_dry {i : Fin 48} (h : s.runoff i delivered = none) : s.added i delivered b = 0 := by
  unfold State.added
  rw [h]

/-- A basin with runoff received, turbid (04 R79). -/
def Basin.received (y : Basin) (v : Nat) : Basin := if 0 < v then (y.filled v).stir else y

/-- The Level of a basin changes in the settlement: it was drawn from, or it receives runoff. -/
abbrev State.LevelChanges (s : State) (p : Pass) (delivered : Nat) (b : Fin 5) : Prop :=
  IsBasin p.source b ∧ 0 < delivered - p.deducted ∨ 0 < s.added p.pile delivered b

/-- The settlement at one basin: charged, with its runoff, and tested where its Level changed (04 R73). -/
theorem State.settle_basin (s : State) (e : Option (Fin 5)) (p : Pass) (delivered : Nat) (b : Fin 5) :
    (s.settle e p delivered).water.basins.get b =
      if e ≠ some b ∧ s.LevelChanges p delivered b
      then (((s.charged p delivered).water.basins.get b).received (s.added p.pile delivered b)).tested
      else ((s.charged p delivered).water.basins.get b).received (s.added p.pile delivered b) := by
  unfold State.LevelChanges
  cases hr : s.runoff p.pile delivered with
  | none =>
    rw [State.settle_of_dry hr, State.added_of_dry hr, Basin.received, if_neg (lt_irrefl 0)]
    by_cases hd : 0 < delivered - p.deducted
    · rw [if_pos hd, State.lowTestUnless_basin]
      exact if_congr ⟨fun ⟨h1, h2⟩ => ⟨h2, .inl ⟨h1, hd⟩⟩,
        fun ⟨h1, h2⟩ => ⟨(h2.resolve_right (lt_irrefl 0)).1, h1⟩⟩ rfl rfl
    · rw [if_neg hd, if_neg]
      simp [hd]
  | some y =>
    obtain ⟨d, v⟩ := y
    have hv := State.runoff_pos hr
    have hrun : ∀ j, ((s.charged p delivered).addRunoff d v).water.basins.get j
        = if d = j then ((s.charged p delivered).water.basins.get j).received v
          else (s.charged p delivered).water.basins.get j := fun j => by
      rw [State.addRunoff_eq]
      show ((s.charged p delivered).water.basins.put d _).get j = _
      rw [Table.get_put, Basin.received, if_pos hv]
      by_cases h : d = j
      · subst h
        rfl
      · rw [if_neg h, if_neg h]
    have hdr : ∀ j, (s.watered e p delivered d v).water.basins.get j
        = if d = j then ((s.charged p delivered).water.basins.get j).received v
          else if e ≠ some j ∧ IsBasin p.source j ∧ 0 < delivered - p.deducted
            then ((s.charged p delivered).water.basins.get j).tested
            else (s.charged p delivered).water.basins.get j := fun j => by
      have hc : (0 < delivered - p.deducted && asBasin p.source != some d) = true
          ↔ 0 < delivered - p.deducted ∧ ¬ IsBasin p.source d := by
        rw [Bool.and_eq_true, decide_eq_true_eq, bne_iff_ne, ne_eq, asBasin_eq_some]
      unfold State.watered
      by_cases h : 0 < delivered - p.deducted ∧ ¬ IsBasin p.source d
      · rw [if_pos (hc.2 h), State.lowTestUnless_basin, hrun]
        by_cases hj : d = j
        · subst hj
          rw [if_pos rfl, if_neg fun hx => h.2 hx.1, if_pos rfl]
        · rw [if_neg hj, if_neg hj]
          exact if_congr ⟨fun ⟨h1, h2⟩ => ⟨h2, h1, h.1⟩, fun ⟨h1, h2, _⟩ => ⟨h2, h1⟩⟩ rfl rfl
      · rw [if_neg (mt hc.1 h), hrun]
        by_cases hj : d = j
        · subst hj
          rw [if_pos rfl, if_pos rfl]
        · rw [if_neg hj, if_neg hj, if_neg]
          rintro ⟨-, hx, hd⟩
          exact h ⟨hd, fun hx' => hj (isBasin_unique hx' hx)⟩
    rw [State.settle_of_runoff hr, State.lowTestUnless_basin, hdr]
    by_cases hb : d = b
    · subst hb
      rw [State.added_self hr, if_pos rfl]
      exact if_congr ⟨fun ⟨_, h⟩ => ⟨h, .inr hv⟩, fun ⟨h, _⟩ => ⟨asSource_isBasin d, h⟩⟩ rfl rfl
    · rw [State.added_other hr (Ne.symm hb), if_neg hb, Basin.received, if_neg (lt_irrefl 0), if_neg]
      · exact if_congr ⟨fun ⟨h1, h2⟩ => ⟨h1, .inl h2⟩, fun ⟨h1, h2⟩ => ⟨h1, h2.resolve_right (lt_irrefl 0)⟩⟩ rfl rfl
      · rintro ⟨hx, -⟩
        exact hb (isBasin_unique (asSource_isBasin d) hx)

theorem State.settle_fresh (s : State) (e : Option (Fin 5)) (p : Pass) (delivered : Nat) :
    (s.settle e p delivered).water.fresh = (s.charged p delivered).water.fresh := by
  cases hr : s.runoff p.pile delivered with
  | none =>
    rw [State.settle_of_dry hr]
    split
    · rw [State.lowTestUnless_fresh]
    · rfl
  | some y =>
    obtain ⟨d, v⟩ := y
    rw [State.settle_of_runoff hr, State.lowTestUnless_fresh, State.watered]
    split
    · rw [State.lowTestUnless_fresh, State.addRunoff_eq]
    · rw [State.addRunoff_eq]

theorem Basin.startSettle_low (y : Basin) : y.startSettle.low = y.low := by
  unfold Basin.startSettle
  split <;> rfl

theorem Basin.received_low (y : Basin) (v : Nat) : (y.received v).low = y.low := by
  unfold Basin.received
  split
  · rw [Basin.stir, Basin.startSettle_low]
    unfold Basin.filled
    split <;> rfl
  · rfl

theorem State.charged_low (s : State) (p : Pass) (delivered : Nat) (b : Fin 5) :
    ((s.charged p delivered).water.basins.get b).low = (s.water.basins.get b).low := by
  rw [State.charged_basin]
  split <;> rfl

/-- WATER_LOW after a settlement (04 R69). -/
theorem State.settle_lowReported (s : State) (e : Option (Fin 5)) (p : Pass) (delivered : Nat) :
    s.LowReported (s.settle e p delivered) := by
  obtain ⟨-, hn⟩ := s.charged_keeps p delivered
  cases hr : s.runoff p.pile delivered with
  | none =>
    rw [State.settle_of_dry hr]
    refine State.LowReported.of_before (t := s.charged p delivered) ?_ (s.charged_low p delivered) (hn ▸ .refl _ _)
    have hnone : (s.charged p delivered).LowStep (s.charged p delivered) none := .none_of (fun _ => rfl) (.refl _ _)
    split
    · exact hnone.trans (State.lowTestUnless_lowStep _ e p.source) fun b h => absurd h (by simp)
    · exact hnone.trans hnone fun b h => absurd h (by simp)
  | some y =>
    obtain ⟨d, v⟩ := y
    rw [State.settle_of_runoff hr]
    have hlow : ∀ b, (((s.charged p delivered).addRunoff d v).water.basins.get b).low
        = (s.water.basins.get b).low := fun b => by
      rw [State.addRunoff_eq, ← s.charged_low p delivered b]
      show (((s.charged p delivered).water.basins.put d _).get b).low = _
      rw [Table.get_put]
      split
      · next h =>
        subst h
        have hrec := ((s.charged p delivered).water.basins.get d).received_low v
        rwa [Basin.received, if_pos (State.runoff_pos hr)] at hrec
      · rfl
    have hwn : ((s.charged p delivered).addRunoff d v).notices.SameKind s.notices .waterLow := by
      rw [State.addRunoff_eq, ← hn]
      dsimp only
      split
      · exact .refl _ _
      · exact Notices.marked_same (by simp) _ _
    refine State.LowReported.of_before (t := (s.charged p delivered).addRunoff d v) ?_ hlow hwn
    have hsec := State.lowTestUnless_lowStep (s.watered e p delivered d v) e (asSource d)
    unfold State.watered at hsec ⊢
    split at hsec
    · next h =>
      rw [if_pos h]
      refine (State.lowTestUnless_lowStep _ e p.source).trans hsec fun b hb hb' => ?_
      rw [Bool.and_eq_true, bne_iff_ne] at h
      unfold testedBasin at hb hb'
      split at hb
      · exact absurd hb (by simp)
      · split at hb'
        · exact absurd hb' (by simp)
        · refine h.2 (hb.trans ?_)
          rw [← hb', asBasin_of_val (asSource_isBasin d)]
    · next h =>
      rw [if_neg h]
      have hnone : ((s.charged p delivered).addRunoff d v).LowStep ((s.charged p delivered).addRunoff d v) none :=
        .none_of (fun _ => rfl) (.refl _ _)
      exact hnone.trans hsec fun b hb => absurd hb (by simp)

/-- SPILL where the runoff of a settlement overflows its basin (04 R81). -/
theorem State.settle_spill (hadd : 0 < s.added p.pile delivered b)
    (hover : ((s.charged p delivered).water.basins.get b).capacity
      < ((s.charged p delivered).water.basins.get b).level + s.added p.pile delivered b) (e : Option (Fin 5)) :
    (s.settle e p delivered).notices.pending.get NoticeKind.spill.place = true
      ∧ (s.settle e p delivered).notices.subjects.get NoticeKind.spill.place = b.val := by
  cases hr : s.runoff p.pile delivered with
  | none => rw [State.added_of_dry hr] at hadd; exact absurd hadd (lt_irrefl 0)
  | some y =>
    obtain ⟨d, v⟩ := y
    have hb : b = d := by
      by_contra hne
      rw [State.added_other hr hne] at hadd
      exact absurd hadd (lt_irrefl 0)
    subst hb
    rw [State.added_self hr] at hover
    rw [State.settle_of_runoff hr]
    have h1 := State.lowTestUnless_sameKind (s.watered e p delivered b v) e (asSource b) (k := .spill) (by simp)
    have h2 : (s.watered e p delivered b v).notices.SameKind ((s.charged p delivered).addRunoff b v).notices .spill := by
      unfold State.watered
      split
      · exact State.lowTestUnless_sameKind _ e p.source (by simp)
      · exact .refl _ _
    have h3 : ((s.charged p delivered).addRunoff b v).notices = (s.charged p delivered).notices.marked .spill b.val := by
      rw [State.addRunoff_eq]
      exact if_neg (Nat.not_le.2 hover)
    obtain ⟨h4, h5⟩ := h1.trans h2
    rw [h4, h5, h3]
    exact Notices.marked_self _ _ _

end

end Sys2Proof.Machine

/-! PROOFS. The bay dwell and suspension-limit expiries, Delivered, and the main and the water of an ended pass
(O38). -/

namespace Sys2Proof.Machine

section

variable {s t : State} {c : Fin 8} {p : Pass} {x : Fin 6} {m : Fin 4} {e : PassEnd}

/-! ## The main of an ended pass (06 R128) -/

theorem Water.usable_iff (w : Water) : w.usable x = true ↔ (x = 5 ∧ w.fresh.isolated = false)
    ∨ ∃ b : Fin 5, x.val = b.val ∧ ((w.basins.get b).state = .ready ∨ (w.basins.get b).state = .settling) := by
  unfold Water.usable Water.state
  rcases source_cases x with rfl | ⟨b, hb⟩
  · rw [asBasin_five]
    have hn : ¬ ∃ b : Fin 5, (5 : Fin 6).val = b.val ∧
        ((w.basins.get b).state = .ready ∨ (w.basins.get b).state = .settling) := fun ⟨_, hb, _⟩ => not_isBasin_five hb
    simp only [hn, or_false, true_and]
    unfold Fresh.state
    cases w.fresh.isolated <;> simp
  · have h5 : x ≠ 5 := by
      rintro rfl
      exact not_isBasin_five hb
    rw [asBasin_of_val hb]
    simp only [h5, false_and, false_or]
    constructor
    · intro h
      refine ⟨b, hb, ?_⟩
      cases hs : (w.basins.get b).state <;> simp [hs] at h ⊢
    · rintro ⟨d, hd, h⟩
      rw [isBasin_unique hb hd]
      rcases h with h | h <;> simp [h]

theorem State.mainAfterEnd_of_suspended (s : State) (hp : p.state = .suspended) (he : ∀ cause, e ≠ .noFlow cause) :
    s.mainAfterEnd p e = if (s.engine.mains.get p.main).state = .opened ∧ s.openUsable p.main = false
      then s.mapMain p.main fun x => x.shut .closed else s := by
  unfold State.mainAfterEnd
  split
  · next cause => exact absurd rfl (he cause)
  · rw [if_pos hp]

theorem State.mainAfterEnd_of_other (s : State) (hp : p.state ≠ .suspended) (he : ∀ cause, e ≠ .noFlow cause) :
    s.mainAfterEnd p e = if s.water.usable p.source
      then s.mapMain p.main fun x => { x with state := .opened, openSource := some p.source, context := none }
      else s.mapMain p.main fun x => x.shut .closed := by
  unfold State.mainAfterEnd
  split
  · next cause => exact absurd rfl (he cause)
  · rw [if_neg hp]

theorem State.openUsable_of_some (h : (s.engine.mains.get m).openSource = some x) :
    s.openUsable m = s.water.usable x := by
  unfold State.openUsable
  rw [h]

theorem State.openUsable_eq_false : s.openUsable m = false ↔
    ∀ x, (s.engine.mains.get m).openSource = some x → s.water.usable x = false := by
  unfold State.openUsable
  cases (s.engine.mains.get m).openSource with
  | none => simp
  | some y => simp

theorem State.mainAfterEnd_other_main (s : State) (p : Pass) (e : PassEnd) (hm : m ≠ p.main) :
    (s.mainAfterEnd p e).engine.mains.get m = s.engine.mains.get m := by
  obtain ⟨-, -, h | ⟨-, h⟩⟩ | ⟨-, y, -, h⟩ := s.mainAfterEnd_cases p e
  · rw [h]
  · rw [h, Table.get_modify, if_neg (Ne.symm hm)]
  · rw [h, Table.get_put, if_neg (Ne.symm hm)]

theorem State.mapMain_at (s : State) (m : Fin 4) (f : Main → Main) :
    (s.mapMain m f).engine.mains.get m = f (s.engine.mains.get m) :=
  (Table.get_modify _ _ _ _).trans (if_pos rfl)

/-! ## Delivered (06 R118, R119) -/

theorem Pass.delivered_le (p : Pass) : p.delivered ≤ p.planned := min_le_left _ _

theorem Pass.delivered_of_le (h : 60 * p.planned ≤ p.flow * p.runningSeconds) : p.delivered = p.planned := by
  unfold Pass.delivered
  omega

theorem Pass.delivered_of_lt (h : p.flow * p.runningSeconds < 60 * p.planned) :
    60 * p.delivered ≤ p.flow * p.runningSeconds ∧ p.flow * p.runningSeconds < 60 * p.delivered + 60 := by
  unfold Pass.delivered
  omega

theorem Pass.finalDelivered_eq (p : Pass) (e : PassEnd) :
    p.finalDelivered e = if e = .full then p.planned else min p.planned (p.flow * p.runningSeconds / 60) := by
  cases e <;> rfl

/-! ## A finished bay (06 R114, R118) -/

variable {bay : Nat} {rest : List Nat}

/-- The pass whose bay in progress is finished. -/
def Pass.bayFinished (p : Pass) : Pass := ({ p with baysDone := p.baysDone + 1 } : Pass).moveCursor p.rest.tail

theorem Pass.bayFinished_of_rest (hr : p.rest = bay :: rest) (h : rest ≠ []) :
    p.bayFinished = { p with baysDone := p.baysDone + 1, rest, cursorSeconds := 0 } := by
  unfold Pass.bayFinished Pass.moveCursor
  rw [hr, List.tail_cons, List.isEmpty_eq_false_iff.2 h]
  rfl

theorem Pass.bayFinished_of_repeat (hr : p.rest = [bay]) (h : p.cursorRepeat + 1 < p.repeats) :
    p.bayFinished = { p with
      baysDone := p.baysDone + 1, cursorRepeat := p.cursorRepeat + 1, cursorSeconds := 0
      rest := if p.alternate = true ∧ (p.cursorRepeat + 1) % 2 = 1 then p.bays.reverse else p.bays } := by
  have hw : ∀ q : Pass, q.walk (p.cursorRepeat + 1)
      = if q.alternate = true ∧ (p.cursorRepeat + 1) % 2 = 1 then q.bays.reverse else q.bays := fun q => by
    simp only [Pass.walk, Bool.and_eq_true, beq_iff_eq]
  unfold Pass.bayFinished Pass.moveCursor
  rw [hr, hw, if_pos (by simpa using h)]

theorem Pass.bayFinished_of_last (hr : p.rest = [bay]) (h : p.repeats ≤ p.cursorRepeat + 1) :
    p.bayFinished = { p with baysDone := p.baysDone + 1, rest := [], cursorSeconds := 0 } := by
  unfold Pass.bayFinished Pass.moveCursor
  rw [hr, if_neg (by simpa using h)]
  rfl

theorem State.finishBay_of_more (h : p.bayFinished.rest ≠ []) (x : Option (Fin 5)) (c : Fin 8) :
    s.finishBay x c p = s.setContext c (some { p.bayFinished with dwellTimer := some p.bayFinished.dwell }) := by
  unfold State.finishBay
  exact if_neg (by rw [List.isEmpty_iff]; exact h)

theorem State.finishBay_of_none (h : p.bayFinished.rest = []) (x : Option (Fin 5)) (c : Fin 8) :
    s.finishBay x c p = (s.setContext c (some p.bayFinished)).endPass x c .full true := by
  unfold State.finishBay
  exact if_pos (by rw [List.isEmpty_iff]; exact h)

end

section

variable {s : State} {p : Pass} {b : Fin 5} {v : Nat}

/-! ## The settled basin, field by field (04 R71, R72, R79, R81) -/

theorem Basin.received_eq (y : Basin) (v : Nat) : y.received v = { y with
    level := (y.received v).level, spilled := (y.received v).spilled, clarity := (y.received v).clarity
    settle := (y.received v).settle } := by
  unfold Basin.received Basin.filled Basin.stir Basin.startSettle
  repeat' split
  all_goals rfl

theorem Basin.startSettle_level (y : Basin) : y.startSettle.level = y.level ∧ y.startSettle.spilled = y.spilled := by
  unfold Basin.startSettle
  split <;> exact ⟨rfl, rfl⟩

theorem Basin.received_level (y : Basin) (v : Nat) (h : v = 0 ∨ y.level + v ≤ y.capacity) :
    (y.received v).level = y.level + v ∧ (y.received v).spilled = y.spilled := by
  unfold Basin.received
  by_cases hv : 0 < v
  · have hle := h.resolve_left (by omega)
    rw [if_pos hv, Basin.stir, (Basin.startSettle_level _).1, (Basin.startSettle_level _).2, Basin.filled, if_pos hle]
    exact ⟨rfl, rfl⟩
  · rw [if_neg hv]
    exact ⟨by omega, rfl⟩

theorem Basin.received_over (y : Basin) (v : Nat) (hv : 0 < v) (h : y.capacity < y.level + v) :
    (y.received v).level = y.capacity
      ∧ (y.received v).spilled = min 65535 (y.spilled + (y.level + v - y.capacity)) := by
  unfold Basin.received
  rw [if_pos hv, Basin.stir, (Basin.startSettle_level _).1, (Basin.startSettle_level _).2, Basin.filled,
    if_neg (Nat.not_le.2 h)]
  exact ⟨rfl, rfl⟩

theorem Basin.received_dry (y : Basin) : y.received 0 = y := if_neg (lt_irrefl 0)

theorem Basin.filled_kept (y : Basin) (v : Nat) : (y.filled v).clarity = y.clarity
    ∧ (y.filled v).settleTime = y.settleTime ∧ (y.filled v).baseClarity = y.baseClarity := by
  unfold Basin.filled
  split <;> exact ⟨rfl, rfl, rfl⟩

theorem Basin.received_stirred (y : Basin) (v : Nat) (hv : 0 < v) (ht : 0 < y.settleTime) :
    (y.received v).clarity = max y.clarity 2 ∧ (y.received v).settle = some (60 * y.settleTime) := by
  obtain ⟨hc, hst, -⟩ := y.filled_kept v
  have hne : ¬ (y.filled v).settleTime = 0 := by omega
  unfold Basin.received Basin.stir Basin.startSettle
  rw [if_pos hv]
  dsimp only
  rw [if_neg hne, hc, hst]
  exact ⟨rfl, rfl⟩

theorem Basin.received_settled (y : Basin) (v : Nat) (hv : 0 < v) (ht : y.settleTime = 0) :
    (y.received v).clarity = y.baseClarity ∧ (y.received v).settle = none := by
  obtain ⟨-, hst, hb⟩ := y.filled_kept v
  unfold Basin.received Basin.stir Basin.startSettle
  rw [if_pos hv]
  dsimp only
  rw [if_pos (hst.trans ht), hb]
  exact ⟨rfl, rfl⟩

end

/-- Settles O38: the two expiries, Delivered, the main of an ended pass, and its settlement. -/
theorem dwellAndSuspensionLimit : Obligations.DwellAndSuspensionLimit := by
  refine ⟨fun s c hlive => ⟨?_, fun h => ?_⟩, fun s c hlive => ⟨fun p hp ht => ?_, fun h => ?_⟩, fun p => ?_, ?_, ?_⟩
  · intro p bay rest hp ht hr q hq
    have hex : exec (.bayDwellExpiry c) s = .next (s.finishBay none c p).eventEnd :=
      exec_of_event rfl hlive (State.passTimer_of_due hp ht _)
    subst hq
    refine ⟨fun hne => ?_, fun h0 hrep hbays => ?_, fun h0 hrep => ?_⟩
    · have hfin := Pass.bayFinished_of_rest hr hne
      rw [hex, State.finishBay_of_more (by rw [hfin]; exact hne), hfin]
      rfl
    · subst h0
      have hfin := Pass.bayFinished_of_repeat hr hrep
      have hne : p.bayFinished.rest ≠ [] := by
        rw [hfin]
        dsimp only
        split
        · simpa using hbays
        · exact hbays
      rw [hex, State.finishBay_of_more hne, hfin]
      rfl
    · subst h0
      have hfin := Pass.bayFinished_of_last hr hrep
      rw [State.finishBay_of_none (by rw [hfin]), hfin] at hex
      generalize hv : s.setContext c (some { p with
        baysDone := p.baysDone + 1, rest := [], cursorSeconds := 0 }) = v at hex
      have hctx : v.engine.contexts.get c = some { p with
          baysDone := p.baysDone + 1, rest := [], cursorSeconds := 0 } := by
        rw [← hv, State.setContext_engine_contexts, Table.get_put, if_pos rfl]
      obtain ⟨-, -, hask, hlast, -⟩ := State.endPass_parts hctx none .full true
      have hfr := v.endPass_frame none c .full true
      have hcx := v.endPass_contexts none c .full true
      refine ⟨v.endPass none c .full true, hex, by rw [← hv]; rfl, hfr.trans (by rw [← hv]; rfl), ?_, hlast, hask⟩
      rw [hcx, ← hv, State.setContext_engine_contexts, Table.put_put]
  · exact exec_of_event rfl hlive (State.passTimer_of_not_due h _)
  · obtain ⟨hpe, hps⟩ := State.endPass_passEnded hp none (.cutShort .suspendLimit) true
    obtain ⟨-, -, hask, hlast, -⟩ := State.endPass_parts hp none (.cutShort .suspendLimit) true
    exact ⟨_, exec_of_event rfl hlive (State.passTimer_of_due hp ht _), rfl, State.endPass_frame _ _ _ _ _,
      State.endPass_contexts _ _ _ _ _, hlast, hpe, hps, hask⟩
  · exact exec_of_event rfl hlive (State.passTimer_of_not_due h _)
  · exact ⟨p.delivered_le, Pass.delivered_of_le, Pass.delivered_of_lt, rfl, fun _ => rfl, fun _ => rfl⟩
  · intro s t exempt c p e offers usable before after hp ht husable hb ha
    have hmains := State.endPass_mains hp exempt e offers
    have hwater := State.endPass_water hp exempt e offers
    have hno := fun cause => State.endPass_of_noFlow hp exempt cause offers
    have hsm := s.settle_mains exempt p (p.finalDelivered e)
    rw [← ht] at hmains hwater
    generalize s.settle exempt p (p.finalDelivered e) = v at hmains hwater hsm
    have hus : ∀ x, usable x ↔ v.water.usable x = true := fun x => by
      rw [husable, Water.usable_iff, hwater]
    subst hb
    rw [hmains] at ha
    refine ⟨fun m hm => ?_, fun cause hc => ?_, fun he => ⟨fun hs hu => ?_, fun hs hu => ?_, fun hs hu => ?_,
      fun hs ho hu => ?_⟩⟩
    · rw [hmains, State.mainAfterEnd_other_main v p e hm, hsm]
    · subst hc
      rw [ha, ← hmains, ht, (hno cause).1, Table.get_put, if_pos rfl]
    · rw [ha, State.mainAfterEnd_of_other v hs he, if_pos ((hus _).1 hu), State.mapMain_at, hsm]
    · rw [ha, State.mainAfterEnd_of_other v hs he, if_neg (mt (hus _).2 hu), State.mapMain_at, hsm]
      rfl
    · rw [ha, State.mainAfterEnd_of_suspended v hs he, if_neg, hsm]
      rintro ⟨ho, hf⟩
      rw [hsm] at ho
      obtain hu | ⟨x, hx, hu⟩ := hu
      · exact hu ho
      · rw [State.openUsable_of_some (by rw [hsm]; exact hx), (hus x).1 hu] at hf
        exact absurd hf (by simp)
    · rw [ha, State.mainAfterEnd_of_suspended v hs he, if_pos, State.mapMain_at, hsm]
      · rfl
      · refine ⟨by rw [hsm]; exact ho, State.openUsable_eq_false.2 fun x hx => ?_⟩
        rw [hsm] at hx
        exact Bool.eq_false_iff.2 (mt (hus x).2 (hu x hx))
  · intro s t exempt c p e offers delivered drawn rest hp ht hdel hdrawn hrest
    have hwater := State.endPass_water hp exempt e offers
    have hnot := (State.endPass_notices hp exempt e offers).2
    have hfin : p.finalDelivered e = delivered := (Pass.finalDelivered_eq p e).trans hdel.symm
    rw [hfin] at hwater hnot
    rw [← ht] at hwater hnot
    have hlow := s.settle_lowReported exempt p delivered
    have hfresh := s.settle_fresh exempt p delivered
    have hbasin := s.settle_basin exempt p delivered
    have hspill := fun b => State.settle_spill (s := s) (p := p) (delivered := delivered) (b := b)
    have hcharged := s.charged_basin p delivered
    rw [State.charged_fresh, ← hdrawn, ← hrest] at hfresh
    rw [← hdrawn, ← hrest] at hcharged
    have hkind : ∀ k : NoticeKind, k ≠ .mainFault → k ∉ [NoticeKind.urgent, .forecastGap, .passEnded] →
        t.notices.SameKind (s.settle exempt p delivered).notices k := fun k hk hks =>
      (hnot k hks).trans ((s.settle exempt p delivered).mainAfterEnd_sameBut p e k hk)
    obtain ⟨hlp, hls⟩ := hkind .waterLow (by simp) (by simp)
    obtain ⟨hsp, hss⟩ := hkind .spill (by simp) (by simp)
    refine ⟨fun enters henters => ?_, fun h5 => ?_, fun h5 => ?_, ?_⟩
    · have he : ∀ b, enters b ↔ s.Enters (s.settle exempt p delivered) b := fun b => by
        rw [henters, hwater]
        rfl
      simp only [he]
      obtain ⟨h1, h2⟩ := hlow
      refine ⟨fun hex => ?_, fun hno => ?_⟩
      · obtain ⟨h3, b, hb, h4⟩ := h1 hex
        exact ⟨hlp.trans h3, b, hb, hls.trans h4⟩
      · obtain ⟨h3, h4⟩ := h2 hno
        exact ⟨hlp.trans h3, hls.trans h4⟩
    · rw [hwater, hfresh, if_pos h5]
    · rw [hwater, hfresh, if_neg h5]
    · intro b x y level added source changed hx hy hsrc hl1 hl2 ha1 ha2 hch
      have hadd : added = s.added p.pile delivered b := by
        cases hq : s.geometry.piles.get p.pile with
        | none => rw [ha2 hq, State.added_of_absent hq]
        | some q => rw [ha1 q hq, State.added_of_present hq]
      have hlev : changed ↔ s.LevelChanges p delivered b := by
        rw [hch, hsrc, hadd, hdrawn]
      have hyb := hbasin b
      rw [← hwater, ← hy] at hyb
      have hz := hcharged b
      have hsb := fun h1 h2 => hspill b h1 h2 exempt
      generalize (s.charged p delivered).water.basins.get b = z at hyb hz hsb
      rw [← hx] at hz
      have hyb : y = if exempt ≠ some b ∧ s.LevelChanges p delivered b then (z.received added).tested
          else z.received added := by
        rw [hadd]
        exact hyb
      rw [← hadd] at hsb
      have hzl : z.level = level ∧ z.capacity = x.capacity ∧ z.settleTime = x.settleTime ∧ z.clarity = x.clarity
          ∧ z.settle = x.settle ∧ z.baseClarity = x.baseClarity ∧ z.spilled = x.spilled ∧ z.low = x.low
          ∧ z.floor = x.floor ∧ z.restoreMargin = x.restoreMargin
          ∧ z = { x with level := z.level, reserved := z.reserved } := by
        by_cases h : source
        · rw [if_pos (hsrc.1 h)] at hz
          rw [hz, hl1 h]
          exact ⟨rfl, rfl, rfl, rfl, rfl, rfl, rfl, rfl, rfl, rfl, rfl⟩
        · rw [if_neg (mt hsrc.2 h)] at hz
          rw [hz, hl2 h]
          exact ⟨rfl, rfl, rfl, rfl, rfl, rfl, rfl, rfl, rfl, rfl, rfl⟩
      obtain ⟨z1, z2, z3, z4, z5, z6, z7, z8, z9, z10, z11⟩ := hzl
      have hrec := z.received_eq added
      have hrl := z.received_low added
      have hyr : y.level = (z.received added).level ∧ y.reserved = (z.received added).reserved
          ∧ y.spilled = (z.received added).spilled ∧ y.clarity = (z.received added).clarity
          ∧ y.settle = (z.received added).settle ∧ y = { z.received added with low := y.low } := by
        rw [hyb]
        split <;> exact ⟨rfl, rfl, rfl, rfl, rfl, rfl⟩
      obtain ⟨y1, y2, y3, y4, y5, y6⟩ := hyr
      have hres : (z.received added).reserved = z.reserved := by rw [hrec]
      refine ⟨?_, fun h => ?_, fun h => ?_, fun h => ?_, fun h1 h2 => ?_, fun h => ?_, fun h1 h2 => ?_, fun h1 h2 => ?_,
        fun h => ?_, fun h1 h2 => ?_⟩
      · rw [y1, y2, y3, y4, y5]
        refine y6.trans ?_
        rw [hrec]
        dsimp only
        rw [z11]
      · rw [y2, hres, hz, if_pos (hsrc.1 h)]
        exact Nat.sub_sub _ _ _
      · rw [y2, hres, hz, if_neg (mt hsrc.2 h)]
      · rw [y1, y3, ← z1, ← z7]
        exact z.received_level added (by rw [z1, z2]; exact h)
      · have hover : z.capacity < z.level + added := by rw [z1, z2]; exact h2
        obtain ⟨h3, h4⟩ := z.received_over added h1 hover
        obtain ⟨h5, h6⟩ := hsb h1 hover
        rw [z1, z2, z7] at h4
        exact ⟨y1.trans (h3.trans z2), y3.trans h4, hsp.trans h5, hss.trans h6⟩
      · rw [y4, y5, h, Basin.received_dry, z4, z5]
        exact ⟨rfl, rfl⟩
      · rw [y4, y5, ← z3, ← z4]
        exact z.received_stirred added h1 (z3 ▸ h2)
      · rw [y4, y5, ← z6]
        exact z.received_settled added h1 (z3.trans h2)
      · rw [hyb, if_neg, hrl, z8]
        rintro ⟨hne, hc⟩
        rcases h with h | h
        · exact hne h
        · exact h (hlev.2 hc)
      · rw [if_pos ⟨h1, hlev.1 h2⟩] at hyb
        have hf : (z.received added).floor = x.floor ∧ (z.received added).restoreMargin = x.restoreMargin := by
          rw [hrec]
          exact ⟨z9, z10⟩
        have hla : y.low = (z.received added).lowAfter := by
          rw [hyb]
          rfl
        rw [hla, Basin.lowAfter_iff, hrl, z8, hf.1, hf.2, y1, y2]

end Sys2Proof.Machine

/-! PROOFS. A qualifying timer's expiry, and the flow lines (O39). -/

namespace Sys2Proof.Machine

section

variable {s t u v : State} {c : Fin 8} {p q : Pass} {m : Fin 4} {i : Line} {l : InputLine}

/-! ## The end of a step after the pins have followed (log 23) -/

/-- The state with other pins, and with other changes recorded. -/
def State.withPins (s : State) (a : Pins) (b : List OutputChange) : State :=
  { s with field := { s.field with pins := a, made := b } }

theorem State.withPins_statusRecord (s : State) (a : Pins) (b : List OutputChange) :
    (s.withPins a b).statusRecord = s.statusRecord := rfl

theorem State.withPins_pinsFollowed (s : State) (a : Pins) (b : List OutputChange) :
    (s.withPins a b).pinsFollowed = s.pinsFollowed := rfl

theorem State.withPins_conclude (s : State) (a : Pins) (b : List OutputChange) : (s.withPins a b).conclude = { s with
    port := s.port.streamed s.statusRecord
    field := { s.field with
      pins := s.pinsFollowed, log := b ++ pinChanges a s.pinsFollowed, made := [] } } := by
  rw [State.conclude, State.withPins_statusRecord, State.withPins_pinsFollowed]
  rfl

theorem State.follow_eq_withPins (s : State) :
    s.follow = s.withPins s.pinsFollowed (s.field.made ++ pinChanges s.field.pins s.pinsFollowed) := rfl

theorem State.conclude_follow (s : State) : s.follow.conclude = s.conclude := by
  rw [State.follow_eq_withPins, State.withPins_conclude, pinChanges_self, List.append_nil]
  rfl

theorem State.eventEnd_of_noneAsked (h : s.NoneAsked) : s.eventEnd = s.conclude := by
  rw [State.eventEnd, State.runAttempts_of_noneAsked none h]

/-- After the pins have followed, a change of a context that moves no pin leaves them following. -/
theorem State.follow_setContext (c : Fin 8) {o : Option Pass}
    (h : (s.setContext c o).pinsFollowed = s.pinsFollowed) : s.follow.setContext c o = (s.setContext c o).follow := by
  rw [State.follow_eq_withPins, State.follow_eq_withPins, h]
  rfl

/-- A change of a pass that leaves its cannon and its state moves no pin. -/
theorem State.setContext_pinsFollowed (hc : s.engine.contexts.get c = some p) (hk : q.cannon = p.cannon)
    (hs : q.state = p.state) : (s.setContext c (some q)).pinsFollowed = s.pinsFollowed := by
  have hv : ∀ k, (s.setContext c (some q)).engine.valveOn k = s.engine.valveOn k := fun k => by
    unfold Engine.valveOn Table.any
    rw [State.setContext_engine_contexts]
    refine congrArg (fun f => (List.finRange 8).any f) (funext fun d => ?_)
    rw [Table.get_put]
    split
    · next h =>
      subst h
      rw [hc]
      dsimp only
      rw [hk, hs]
    · rfl
  unfold State.pinsFollowed
  rw [funext hv]
  rfl

/-! ## A qualifying timer that has run out (07 R134) -/

/-- The line takes the state that it reads, and its owner takes the change. -/
theorem exec_qualified (h : s.live = true) (hl : l = s.field.lines.get i) (hq : l.qualify = some 0)
    (hr : l.reads ≠ l.filtered)
    (hv : v = { s with field := { s.field with
      lines := s.field.lines.put i { l with filtered := l.reads, qualify := none } } }) :
    exec (.qualifyingTimerExpiry i) s = .next ((v.handTo l.reads i).runAttempts none).eventEnd := by
  generalize hw : (s.mapLine i fun x => { x with qualify := none }) = w
  have hwl : w.field.lines.get i = { l with qualify := none } := by
    rw [← hw, hl]
    exact Lines.get_put_self _ _ _
  have hreads : (w.field.lines.get i).reads = l.reads := by rw [hwl]; rfl
  have hfil : (w.field.lines.get i).filtered = l.filtered := by rw [hwl]
  have hmv : v = w.mapLine i fun x => { x with filtered := l.reads } := by
    have hput : (s.field.lines.put i { l with qualify := none }).put i { l with filtered := l.reads, qualify := none }
        = s.field.lines.put i { l with filtered := l.reads, qualify := none } := by
      cases i <;> simp [Lines.put]
    rw [hv, ← hput, State.mapLine, hwl, ← hw, hl]
    rfl
  have hqual : s.qualified i = (v.handTo l.reads i).runAttempts none := by
    rw [State.qualified, hw, State.takeLine]
    rw [if_neg (by rw [hreads, hfil]; exact hr), hreads, State.deliver_eq w i l.reads hmv]
  refine exec_of_event (t := s.qualified i) rfl h (if_pos (hl ▸ hq)) |>.trans ?_
  rw [hqual]

/-! ## A flow line (06 R117, R120) -/

theorem State.confirmFlow_of_other (h : (s.engine.mains.get m).state ≠ .priming) : s.confirmFlow m = s := if_neg h

theorem State.loseFlow_of_other (h : (s.engine.mains.get m).state ≠ .running) : s.loseFlow m = s := if_neg h

theorem State.loseFlow_of_running (h : (s.engine.mains.get m).state = .running)
    (hc : (s.engine.mains.get m).context = some c) : s.loseFlow m = s.endPass none c (.noFlow .flowLost) true := by
  unfold State.loseFlow
  dsimp only
  rw [if_pos h, hc]

/-- The state in which a PRIMING main runs, its pass `q` in context `c` RUNNING. -/
def State.runs (s : State) (m : Fin 4) (c : Fin 8) (q : Pass) : State := { s with
  engine := { s.engine with
    mains := s.engine.mains.put m { s.engine.mains.get m with state := .running }
    contexts := s.engine.contexts.put c (some { q with state := .running, primeTimer := none }) } }

theorem State.confirmFlow_of_left (h : (s.engine.mains.get m).state = .priming)
    (hc : (s.engine.mains.get m).context = some c) (hp : s.engine.contexts.get c = some p)
    (hl : p.cursorSeconds < p.dwell) :
    s.confirmFlow m = (s.runs m c { p with dwellTimer := some (p.dwell - p.cursorSeconds) }).follow := by
  have hne : p.dwell - p.cursorSeconds ≠ 0 := by omega
  unfold State.confirmFlow
  dsimp only
  rw [if_pos h, hc]
  dsimp only
  rw [hp]
  dsimp only
  rw [if_neg hne]
  rfl

theorem State.confirmFlow_of_spent (h : (s.engine.mains.get m).state = .priming)
    (hc : (s.engine.mains.get m).context = some c) (hp : s.engine.contexts.get c = some p)
    (hl : p.dwell ≤ p.cursorSeconds) :
    s.confirmFlow m = (s.runs m c p).follow.finishBay none c { p with state := .running, primeTimer := none } := by
  have hz : p.dwell - p.cursorSeconds = 0 := by omega
  unfold State.confirmFlow
  dsimp only
  rw [if_pos h, hc]
  dsimp only
  rw [hp]
  dsimp only
  rw [if_pos hz]
  rfl

theorem State.runs_context (s : State) (m : Fin 4) (c : Fin 8) (q : Pass) :
    (s.runs m c q).engine.contexts.get c = some { q with state := .running, primeTimer := none } :=
  (Table.get_put _ _ _ _).trans (if_pos rfl)

theorem State.runs_setContext (s : State) (m : Fin 4) (c : Fin 8) (p q : Pass) (hq : q.state = .running)
    (ht : q.primeTimer = none) : (s.runs m c p).setContext c (some q) = s.runs m c q := by
  have hqe : { q with state := .running, primeTimer := none } = q := by rw [← hq, ← ht]
  have hput : (s.engine.contexts.put c (some { p with state := .running, primeTimer := none })).put c (some q)
      = s.engine.contexts.put c (some q) := Table.put_put _ _ _ _
  unfold State.runs
  rw [hqe, ← hput]
  rfl

/-- The bay in progress of a pass that runs with its dwell spent is finished; what is left runs on. -/
theorem State.runs_finish (s : State) (m : Fin 4) (c : Fin 8) (p : Pass) {r : Pass}
    (hr : r = ({ p with state := .running, primeTimer := none } : Pass).bayFinished)
    (hk : r.cannon = p.cannon) (hs : r.state = .running) (ht : r.primeTimer = none) :
    (r.rest ≠ [] → (s.runs m c p).follow.finishBay none c { p with state := .running, primeTimer := none }
        = (s.runs m c { r with dwellTimer := some r.dwell }).follow)
    ∧ (r.rest = [] → (s.runs m c p).follow.finishBay none c { p with state := .running, primeTimer := none }
        = (s.runs m c r).follow.endPass none c .full true) := by
  have hset : ∀ q : Pass, q.cannon = p.cannon → q.state = .running → q.primeTimer = none →
      (s.runs m c p).follow.setContext c (some q) = (s.runs m c q).follow := fun q h1 h2 h3 => by
    rw [State.follow_setContext, State.runs_setContext s m c p q h2 h3]
    exact State.setContext_pinsFollowed (s.runs_context m c p) h1 h2
  refine ⟨fun h => ?_, fun h => ?_⟩
  · rw [State.finishBay_of_more (by rw [← hr]; exact h), ← hr]
    exact hset { r with dwellTimer := some r.dwell } hk hs ht
  · rw [State.finishBay_of_none (by rw [← hr]; exact h), ← hr, hset r hk hs ht]

end

/-- Settles O39: the line runs the pass of its PRIMING main, ends the pass of its RUNNING main, or changes alone. -/
theorem flowLineRunsOrFaults : Obligations.FlowLineRunsOrFaults := by
  intro s m l hlive hnone hl hq hr lines hlines
  generalize hv : ({ s with field := { s.field with lines } } : State) = v
  have hex := exec_qualified (i := .flow m) (v := v) hlive hl hq hr (by rw [← hv, hlines]; rfl)
  have hve : v.engine = s.engine := by rw [← hv]
  have hvf : v.frame = { s.frame with lines } := by rw [← hv]; rfl
  have hvn : v.NoneAsked := by
    unfold State.NoneAsked
    rw [hve]
    exact hnone
  refine ⟨fun c p hreads hst hctx hp runs hruns => ?_, fun c p hreads hst hctx hp hpm => ?_, fun hpr hru => ?_⟩
  · rw [hreads] at hex
    have hrun : ∀ q, runs q = v.runs m c q := fun q => by
      rw [hruns, ← hv]
      rfl
    have hran : ∀ q, (v.runs m c q).follow.NoneAsked := fun q => hvn
    have hstep : ∀ q, v.confirmFlow m = (v.runs m c q).follow →
        exec (.qualifyingTimerExpiry (.flow m)) s = .next (runs q).conclude := fun q hq => by
      have hq' : v.handTo true (.flow m) = (v.runs m c q).follow := hq
      rw [hex, hq', State.runAttempts_of_noneAsked none (hran q), State.eventEnd_of_noneAsked (hran q),
        State.conclude_follow, hrun]
    rw [← hve] at hst hctx hp
    refine ⟨fun hleft => ?_, fun bay next rest hsp hrest => ?_, fun bay hsp hrest hrep hbays => ?_,
      fun bay hsp hrest hrep w u hw hu => ?_⟩
    · exact hstep _ (State.confirmFlow_of_left hst hctx hp hleft)
    · have hfin := Pass.bayFinished_of_rest (p := { p with state := .running, primeTimer := none }) (rest := next :: rest)
        hrest (by simp)
      have hmore := (v.runs_finish m c p rfl (by rw [hfin]) (by rw [hfin]) (by rw [hfin])).1 (by rw [hfin]; simp)
      rw [hfin] at hmore
      exact hstep { p with
        baysDone := p.baysDone + 1, rest := next :: rest, cursorSeconds := 0, dwellTimer := some p.dwell }
        ((State.confirmFlow_of_spent hst hctx hp hsp).trans hmore)
    · have hfin := Pass.bayFinished_of_repeat (p := { p with state := .running, primeTimer := none }) hrest hrep
      have hne : ({ p with state := .running, primeTimer := none } : Pass).bayFinished.rest ≠ [] := by
        rw [hfin]
        dsimp only
        split
        · simpa using hbays
        · exact hbays
      have hmore := (v.runs_finish m c p rfl (by rw [hfin]) (by rw [hfin]) (by rw [hfin])).1 hne
      rw [hfin] at hmore
      exact hstep { p with
        baysDone := p.baysDone + 1, cursorRepeat := p.cursorRepeat + 1, cursorSeconds := 0
        rest := if p.alternate = true ∧ (p.cursorRepeat + 1) % 2 = 1 then p.bays.reverse else p.bays
        dwellTimer := some p.dwell }
        ((State.confirmFlow_of_spent hst hctx hp hsp).trans hmore)
    · have hfin := Pass.bayFinished_of_last (p := { p with state := .running, primeTimer := none }) hrest hrep
      have hend := (v.runs_finish m c p rfl (by rw [hfin]) (by rw [hfin]) (by rw [hfin])).2 (by rw [hfin])
      rw [hfin] at hend
      have hwe : w = v.runs m c { p with baysDone := p.baysDone + 1, rest := [], cursorSeconds := 0 } := by
        rw [hw, hrun]
      have hue : u = w.follow.endPass none c .full true := hu
      have hu' : v.handTo true (.flow m) = u := by
        rw [hue, hwe]
        exact (State.confirmFlow_of_spent hst hctx hp hsp).trans hend
      have hwf : w.follow.frame = { s.frame with lines } := by
        rw [State.follow_frame, hwe, ← hvf]
        rfl
      have hwc : w.follow.engine.contexts.get c = some { p with
          state := .running, primeTimer := none, baysDone := p.baysDone + 1, rest := [], cursorSeconds := 0 } := by
        rw [State.follow_engine, hwe]
        exact State.runs_context _ _ _ _
      have hput : w.follow.engine.contexts.put c none = s.engine.contexts.put c none := by
        rw [State.follow_engine, hwe, ← hve]
        exact Table.put_put _ _ _ _
      obtain ⟨-, -, -, hlast, -⟩ := State.endPass_parts hwc none .full true
      have hfr := w.follow.endPass_frame none c .full true
      have hcx := w.follow.endPass_contexts none c .full true
      rw [← hue] at hlast hfr hcx
      exact ⟨by rw [hex, hu'], hfr.trans hwf, hcx.trans hput, hlast⟩
  · rw [hreads] at hex
    rw [← hve] at hst hctx hp
    have hh : v.handTo false (.flow m) = v.endPass none c (.noFlow .flowLost) true := State.loseFlow_of_running hst hctx
    rw [hh] at hex
    obtain ⟨hmain, -⟩ := State.endPass_of_noFlow hp none .flowLost true
    obtain ⟨-, -, -, hlast, -⟩ := State.endPass_parts hp none (.noFlow .flowLost) true
    have hfr := v.endPass_frame none c (.noFlow .flowLost) true
    have hcx := v.endPass_contexts none c (.noFlow .flowLost) true
    rw [hpm, hve] at hmain
    rw [hve] at hcx
    exact ⟨_, hex, rfl, hfr.trans hvf, hcx, hmain, hlast⟩
  · have hh : v.handTo l.reads (.flow m) = v := by
      cases hrd : l.reads with
      | true => exact State.confirmFlow_of_other (by rw [hve]; exact hpr hrd)
      | false => exact State.loseFlow_of_other (by rw [hve]; exact hru hrd)
    rw [hex, hh, State.runAttempts_of_noneAsked none hvn, State.eventEnd_of_noneAsked hvn]

end Sys2Proof.Machine

/-! PROOFS. The machine lines (O40). -/

namespace Sys2Proof.Machine

section

variable {s t : State} {c : Fin 8} {p q : Pass} {g : Geometry} {bed : Fin 8} {present : Bool}

/-! ## A machine line's change as a walk (06 R121, R122) -/

/-- The pass's pile lies on the bed. -/
def Geometry.onBed (g : Geometry) (bed : Fin 8) (p : Pass) : Bool :=
  decide ((g.piles.get p.pile).map (·.bed) = some bed)

theorem Geometry.onBed_iff : g.onBed bed p = true ↔ ∃ x, g.piles.get p.pile = some x ∧ x.bed = bed := by
  rw [Geometry.onBed, decide_eq_true_eq, Option.map_eq_some_iff]

theorem State.bedOf_iff : s.bedOf p.pile = some bed ↔ s.geometry.onBed bed p = true := by
  rw [Geometry.onBed, decide_eq_true_eq]
  rfl

/-- What a machine line's change calls for at a pass. -/
def machineFollow (g : Geometry) (bed : Fin 8) (present : Bool) (p : Pass) : Follow :=
  if g.onBed bed p then
    if p.state = .suspended then
      .sets { p with machine := present } (decide (p.machine = true ∧ p.wind = false ∧ present = false))
    else if present then .suspends else .leaves
  else .leaves

theorem machineFollow_of_other (h : g.onBed bed p = false) : machineFollow g bed present p = .leaves := by
  simp [machineFollow, h]

theorem machineFollow_of_suspended (h : g.onBed bed p = true) (hs : p.state = .suspended) :
    machineFollow g bed present p = .sets { p with machine := present }
      (decide (p.machine = true ∧ p.wind = false ∧ present = false)) := by
  simp [machineFollow, h, hs]

theorem machineFollow_of_present (h : g.onBed bed p = true) (hs : p.state ≠ .suspended) :
    machineFollow g bed true p = .suspends := by
  simp [machineFollow, h, hs]

theorem machineFollow_of_clear (h : g.onBed bed p = true) (hs : p.state ≠ .suspended) :
    machineFollow g bed false p = .leaves := by
  simp [machineFollow, h, hs]

theorem machineFollow_suspends_iff : machineFollow g bed present p = .suspends ↔
    g.onBed bed p = true ∧ p.state ≠ .suspended ∧ present = true := by
  unfold machineFollow
  split
  · split
    · simp [*]
    · split <;> simp [*]
  · simp [*]

theorem machineFollow_sets_clear (h : ∃ q, machineFollow g bed present p = .sets q true) : present = false := by
  unfold machineFollow at h
  split at h
  · split at h
    · obtain ⟨q, hq⟩ := h
      have := (Follow.sets.inj hq).2
      exact (of_decide_eq_true this).2.2
    · split at h <;> simp at h
  · simp at h

/-- A machine line's change is the walk that does at each pass what the bed calls for. -/
theorem State.machineChanged_eq_walk (s : State) (bed : Fin 8) (present : Bool) :
    s.machineChanged bed present = (s.followWalk (machineFollow s.geometry bed present)).askAllIf !present := by
  rw [State.machineChanged_eq (next := fun t c => t.followStep (machineFollow t.geometry bed present) c)]
  · refine congrArg (fun u : State => u.askAllIf !present) ?_
    exact State.forEach_congr (I := fun t => t.geometry = s.geometry)
      (fun t c ht => by rw [ht])
      (fun t c ht => (congrArg Frame.geometry (State.followStep_frame _ t c)).trans ht) allContexts rfl
  · exact fun t c h => State.followStep_of_free h
  · intro t c q hq hb
    exact State.followStep_of_leaves hq (machineFollow_of_other (Bool.eq_false_iff.2 (mt State.bedOf_iff.2 hb)))
  · intro t c q hq hb hs
    cases present with
    | true => exact State.followStep_of_suspends hq (machineFollow_of_present (State.bedOf_iff.1 hb) hs)
    | false => exact State.followStep_of_leaves hq (machineFollow_of_clear (State.bedOf_iff.1 hb) hs)
  · intro t c q hq hb hs
    rw [State.setMachine_eq t hs, State.followStep_of_sets hq (machineFollow_of_suspended (State.bedOf_iff.1 hb) hs)]
    simp only [decide_eq_true_eq]

theorem State.askAllIf_asked (s : State) (b : Bool) (m : Fin 4) :
    (s.askAllIf b).engine.asked.get m = true ↔ s.engine.asked.get m = true ∨ b = true := by
  cases b with
  | false => simp [State.askAllIf]
  | true =>
    show (Table.fill 4 true).get m = true ↔ _
    simp

theorem State.askAllIf_watch_queue (s : State) (b : Bool) :
    (s.askAllIf b).watch = s.watch ∧ (s.askAllIf b).queue = s.queue := by
  cases b <;> exact ⟨rfl, rfl⟩

/-- What a step that asks for attempts on every main, or not, leaves. -/
theorem State.askAllIf_eq (s : State) (b : Bool) : s.askAllIf b = { s with
    engine := { s.engine with asked := if b then Table.fill 4 true else s.engine.asked } } := by
  cases b <;> rfl

end

/-- Settles O40: the line's change as a walk, and the walk pass by pass. -/
theorem machineLineSuspends : Obligations.MachineLineSuspends := by
  intro s bed l hlive hl hq hr
  generalize hv : ({ s with field := { s.field with lines := { s.field.lines with
    machine := s.field.lines.machine.put bed { l with filtered := l.reads, qualify := none } } } } : State) = v
  have hex := exec_qualified (i := .machine bed) (v := v) hlive hl hq hr hv.symm
  have hvf : v.frame = { s.frame with lines := { s.field.lines with
    machine := s.field.lines.machine.put bed { l with filtered := l.reads, qualify := none } } } := by rw [← hv]; rfl
  have hkeep : v.engine = s.engine ∧ v.geometry = s.geometry ∧ v.watch = s.watch ∧ v.queue = s.queue
      ∧ v.clock = s.clock := by
    rw [← hv]
    exact ⟨rfl, rfl, rfl, rfl, rfl⟩
  obtain ⟨hve, hvg, hvw, hvq, hvc⟩ := hkeep
  have hlines : v.field.lines.machine = s.field.lines.machine.put bed { l with filtered := l.reads, qualify := none } := by
    rw [← hv]
  have hh : v.handTo l.reads (.machine bed)
      = (v.followWalk (machineFollow v.geometry bed l.reads)).askAllIf !l.reads := v.machineChanged_eq_walk bed l.reads
  rw [hh] at hex
  rw [hvg] at hex
  have hfr := (State.askAllIf_frame _ (!l.reads)).trans (v.followWalk_frame (machineFollow s.geometry bed l.reads))
  have hmach : ∀ b, ((v.followWalk (machineFollow s.geometry bed l.reads)).askAllIf !l.reads).machinePresent b
      = v.machinePresent b := fun b => congrArg (fun f : Frame => (f.lines.machine.get b).filtered) hfr
  have hpres : ∀ b, v.machinePresent b = if bed = b then l.reads else s.machinePresent b := fun b => by
    rw [State.machinePresent, hlines, Table.get_put]
    split <;> rfl
  refine ⟨_, hex, hfr.trans hvf, ?_, fun b hb => ?_, ?_, ?_, ?_, fun here hhere => ?_⟩
  · rw [hmach, hpres, if_pos rfl]
  · rw [hmach, hpres, if_neg (Ne.symm hb)]
  · exact (State.askAllIf_watch_queue _ _).1.trans ((v.followWalk_watch _).trans hvw)
  · exact (State.askAllIf_watch_queue _ _).2.trans ((v.followWalk_queue _).trans hvq)
  · intro next on v' w hon free other live held hv' hw
    have hvv : v' = v := by rw [hv', ← hv]
    subst hvv
    rw [← hvg, ← State.machineChanged_eq_walk]
    have honb : ∀ t p, on t p ↔ t.bedOf p.pile = some bed := fun t p => by
      rw [hon, State.bedOf_iff, Geometry.onBed_iff]
    rw [State.machineChanged_eq v' (next := next) free (fun t c q hq hb => other t c q hq (mt (honb t q).1 hb))
      (fun t c q hq hb hs => live t c q hq ((honb t q).2 hb) hs)
      (fun t c q hq hb hs => (held t c q hq ((honb t q).2 hb) hs).trans (State.setMachine_eq t hs c _).symm), ← hw,
      State.askAllIf_eq]
    cases l.reads <;> rfl
  · have hb : ∀ p, here p ↔ s.geometry.onBed bed p = true := fun p => (hhere p).trans Geometry.onBed_iff.symm
    have hcx : ∀ {c o}, s.engine.contexts.get c = o → v.engine.contexts.get c = o := fun h => by rw [hve]; exact h
    have hcx' : ∀ {c o}, v.engine.contexts.get c = o → s.engine.contexts.get c = o := fun h => by rw [← hve]; exact h
    have hctx := State.askAllIf_contexts (v.followWalk (machineFollow s.geometry bed l.reads)) (!l.reads)
    have hmains := State.askAllIf_mains (v.followWalk (machineFollow s.geometry bed l.reads)) (!l.reads)
    have hask := State.askAllIf_asked (v.followWalk (machineFollow s.geometry bed l.reads)) (!l.reads)
    rw [hctx, hmains]
    refine ⟨fun c hc => State.followWalk_of_free (hcx hc), fun c p hp => ⟨fun hno => ?_, fun ho hs => ?_,
      fun ho hs hrd => ?_, fun ho hs hrd => ?_⟩, fun m => ⟨fun hno => ?_, ?_⟩⟩
    · exact State.followWalk_of_leaves (hcx hp) (machineFollow_of_other (Bool.eq_false_iff.2 (mt (hb p).2 hno)))
    · exact State.followWalk_of_sets (hcx hp) (machineFollow_of_suspended ((hb p).1 ho) hs)
    · exact State.followWalk_of_leaves (hcx hp) (by rw [hrd]; exact machineFollow_of_clear ((hb p).1 ho) hs)
    · have hk : machineFollow s.geometry bed l.reads p = .suspends := by
        rw [hrd]
        exact machineFollow_of_present ((hb p).1 ho) hs
      obtain ⟨q, hq, hqe⟩ := State.followWalk_of_suspends (hcx hp) hk
      refine ⟨q, hq, ?_, fun halone => ?_⟩
      · obtain ⟨x, hx, hxb⟩ := Geometry.onBed_iff.1 ((hb p).1 ho)
        rw [hqe, State.suspended_eq, hvg, hve, hvc, hvw, hx]
        dsimp only
        rw [hxb, hlines, Table.get_put, if_pos rfl]
        dsimp only
        rw [hrd]
      · have hmain := State.followWalk_main_of_suspends (hcx hp) hk fun d r hd hm hkr =>
          halone d r (hcx' hd) hm (machineFollow_suspends_iff.1 hkr).2.1
        rw [hve] at hmain
        exact hmain
    · have hmain := State.followWalk_main (s := v) (k := machineFollow s.geometry bed l.reads) (m := m)
        fun c p hp hm hk => by
          obtain ⟨h1, h2, h3⟩ := machineFollow_suspends_iff.1 hk
          exact hno c p (hcx' hp) hm ⟨(hb p).2 h1, h2, h3⟩
      rw [hve] at hmain
      exact hmain
    · rw [hask, State.followWalk_asked, hve, Bool.not_eq_true', or_assoc]
      refine or_congr_right ⟨?_, ?_⟩
      · rintro (⟨c, p, hp, hm, hk | hk⟩ | hrd)
        · obtain ⟨h1, h2, -⟩ := machineFollow_suspends_iff.1 hk
          exact .inr ⟨c, p, hp, hm, (hb p).2 h1, h2⟩
        · exact .inl (machineFollow_sets_clear hk)
        · exact .inl hrd
      · rintro (hrd | ⟨c, p, hp, hm, ho, hs⟩)
        · exact .inr hrd
        · cases hrd : l.reads with
          | false => exact .inr rfl
          | true => exact .inl ⟨c, p, hp, hm, .inl (machineFollow_of_present ((hb p).1 ho) hs)⟩

end Sys2Proof.Machine

/-! PROOFS. INFLOW, the low test, additions and the settle timer (O41). -/

namespace Sys2Proof.Machine

section

variable {s : State} {b : Fin 5} {x y : Basin} {v : Nat} {turbid : Bool} {source kind : Byte} {volume : Word16}

/-! ## The low test and an addition at their basin (04 R69, R81) -/

/-- The low test in which the basin enters the low condition. -/
theorem State.lowTest_of_enters (hx : x = s.water.basins.get b) (h : x.low = false) (ha : x.lowAfter = true) :
    s.lowTest b = { s with
      water := { s.water with basins := s.water.basins.put b { x with low := true } }
      notices := s.notices.marked .waterLow b.val } := by
  subst hx
  rw [State.lowTest_eq, ha, if_pos ⟨h, rfl⟩]

theorem State.lowTest_of_other (hx : x = s.water.basins.get b) (h : ¬ (x.low = false ∧ x.lowAfter = true)) :
    s.lowTest b = { s with
      water := { s.water with basins := s.water.basins.put b { x with low := x.lowAfter } } } := by
  subst hx
  rw [State.lowTest_eq, if_neg h]

/-- The low test that changes nothing. -/
theorem State.lowTest_of_same (h : (s.water.basins.get b).lowAfter = (s.water.basins.get b).low) :
    s.lowTest b = s := by
  rw [State.lowTest_of_other rfl (by rw [h]; simp), h]
  show ({ s with water := { s.water with basins := s.water.basins.put b (s.water.basins.get b) } } : State) = s
  rw [Table.put_get_self]

theorem State.addLevel_of_fits (hx : x = s.water.basins.get b) (h : x.level + v ≤ x.capacity) :
    s.addLevel b v = { s with
      water := { s.water with basins := s.water.basins.put b { x with level := x.level + v } } } := by
  subst hx
  rw [State.addLevel_eq, if_pos h, Basin.filled, if_pos h]

theorem State.addLevel_of_over (hx : x = s.water.basins.get b) (h : x.capacity < x.level + v) :
    s.addLevel b v = { s with
      water := { s.water with
        basins := s.water.basins.put b { x with
          level := x.capacity, spilled := min 65535 (x.spilled + (x.level + v - x.capacity)) } }
      notices := s.notices.marked .spill b.val } := by
  subst hx
  rw [State.addLevel_eq, if_neg (Nat.not_le.2 h), Basin.filled, if_neg (Nat.not_le.2 h)]
  rfl

/-! ## INFLOW (04 R82) -/

/-- The basin with an inflow, before its low test. -/
def Basin.poured (x : Basin) (v : Nat) (turbid : Bool) : Basin := if turbid then (x.filled v).stir else x.filled v

/-- The notices after an inflow's addition. -/
def Notices.spilled (n : Notices) (b : Fin 5) (x : Basin) (v : Nat) : Notices :=
  if x.level + v ≤ x.capacity then n else n.marked .spill b.val

/-- The notices after the low test of a basin that stands as `y`. -/
def Notices.lowTested (n : Notices) (b : Fin 5) (y : Basin) : Notices :=
  if y.low = false ∧ y.lowAfter = true then n.marked .waterLow b.val else n

/-- An inflow written out, but for its report. -/
theorem State.takeInflow_eq (hx : x = s.water.basins.get b) (v : Nat) (turbid : Bool) : s.takeInflow b v turbid
    = ({ s with
        water := { s.water with basins := s.water.basins.put b (x.poured v turbid).tested }
        notices := (s.notices.spilled b x v).lowTested b (x.poured v turbid) } : State).reportRise b x := by
  subst hx
  have hadd : (if turbid then (s.addLevel b v).mapBasin b Basin.stir else s.addLevel b v) = { s with
      water := { s.water with
        basins := s.water.basins.put b ((s.water.basins.get b).poured v turbid) }
      notices := s.notices.spilled b (s.water.basins.get b) v } := by
    cases turbid with
    | false =>
      rw [if_neg Bool.false_ne_true, State.addLevel_eq]
      rfl
    | true =>
      have hp : (s.water.basins.put b ((s.water.basins.get b).filled v)).modify b Basin.stir
          = s.water.basins.put b ((s.water.basins.get b).filled v).stir := by
        simp only [Table.modify_eq_put, Table.put_put, Table.get_put, if_true]
      rw [if_pos rfl, State.addLevel_eq]
      show ({ s with
        water := { s.water with
          basins := (s.water.basins.put b ((s.water.basins.get b).filled v)).modify b Basin.stir }
        notices := s.notices.spilled b (s.water.basins.get b) v } : State) = _
      rw [hp]
      rfl
  unfold State.takeInflow
  dsimp only
  rw [hadd, State.lowTest_eq]
  dsimp only
  rw [Table.put_put, Table.get_put, if_pos rfl]
  rfl

theorem Basin.filled_level (y : Basin) (v : Nat) :
    (y.filled v).level = if y.level + v ≤ y.capacity then y.level + v else y.capacity := by
  unfold Basin.filled
  split <;> rfl

theorem Basin.filled_spilled (y : Basin) (v : Nat) : (y.filled v).spilled
    = if y.level + v ≤ y.capacity then y.spilled else min 65535 (y.spilled + (y.level + v - y.capacity)) := by
  unfold Basin.filled
  split <;> rfl

theorem Basin.filled_eq (y : Basin) (v : Nat) :
    y.filled v = { y with level := (y.filled v).level, spilled := (y.filled v).spilled } := by
  unfold Basin.filled
  split <;> rfl

/-- Of the basin an inflow changes its Level, what has Spilled, and, where it is turbid, Clarity and the timer. -/
theorem Basin.poured_eq (x : Basin) (v : Nat) (turbid : Bool) : x.poured v turbid = { x with
    level := if x.level + v ≤ x.capacity then x.level + v else x.capacity
    spilled := if x.level + v ≤ x.capacity then x.spilled else min 65535 (x.spilled + (x.level + v - x.capacity))
    clarity := (x.poured v turbid).clarity, settle := (x.poured v turbid).settle } := by
  rw [← Basin.filled_level, ← Basin.filled_spilled]
  cases turbid with
  | false =>
    show x.filled v = { x with
      level := (x.filled v).level, spilled := (x.filled v).spilled
      clarity := (x.filled v).clarity, settle := (x.filled v).settle }
    have hf := x.filled_eq v
    generalize x.filled v = z at hf ⊢
    rw [hf]
  | true =>
    show (x.filled v).stir = { x with
      level := (x.filled v).level, spilled := (x.filled v).spilled
      clarity := (x.filled v).stir.clarity, settle := (x.filled v).stir.settle }
    have hf := x.filled_eq v
    generalize x.filled v = z at hf ⊢
    unfold Basin.stir Basin.startSettle
    dsimp only
    split
    · rw [hf]
    · rw [hf]

theorem Basin.poured_clear (x : Basin) (v : Nat) :
    (x.poured v false).clarity = x.clarity ∧ (x.poured v false).settle = x.settle := by
  show (x.filled v).clarity = x.clarity ∧ (x.filled v).settle = x.settle
  rw [x.filled_eq v]
  exact ⟨rfl, rfl⟩

theorem Basin.stir_of_pos (y : Basin) (h : 0 < y.settleTime) :
    y.stir.clarity = max y.clarity 2 ∧ y.stir.settle = some (60 * y.settleTime) := by
  have hne : ¬ y.settleTime = 0 := by omega
  unfold Basin.stir Basin.startSettle
  dsimp only
  rw [if_neg hne]
  exact ⟨rfl, rfl⟩

theorem Basin.stir_of_zero (y : Basin) (h : y.settleTime = 0) :
    y.stir.clarity = y.baseClarity ∧ y.stir.settle = none := by
  unfold Basin.stir Basin.startSettle
  dsimp only
  rw [if_pos h]
  exact ⟨rfl, rfl⟩

theorem Basin.poured_turbid (x : Basin) (v : Nat) (h : 0 < x.settleTime) :
    (x.poured v true).clarity = max x.clarity 2 ∧ (x.poured v true).settle = some (60 * x.settleTime) := by
  obtain ⟨hc, hs, -⟩ := x.filled_kept v
  rw [← hc, ← hs]
  exact (x.filled v).stir_of_pos (hs ▸ h)

theorem Basin.poured_settled (x : Basin) (v : Nat) (h : x.settleTime = 0) :
    (x.poured v true).clarity = x.baseClarity ∧ (x.poured v true).settle = none := by
  obtain ⟨-, hs, hb⟩ := x.filled_kept v
  rw [← hb]
  exact (x.filled v).stir_of_zero (hs.trans h)

theorem inflowKind_of_le (h : 1 < kind.toNat) : inflowKind kind = none := by
  unfold inflowKind
  split
  · omega
  · omega
  · rfl

theorem inflowKind_of_lt (h : kind.toNat ≤ 1) : ∃ turbid, inflowKind kind = some turbid
    ∧ (kind = 0 → turbid = false) ∧ (kind = 1 → turbid = true) := by
  obtain h0 | h1 : kind.toNat = 0 ∨ kind.toNat = 1 := by omega
  · have hk : kind = 0 := BitVec.eq_of_toNat_eq h0
    subst hk
    exact ⟨false, rfl, fun _ => rfl, fun h => absurd h (by decide)⟩
  · have hk : kind = 1 := BitVec.eq_of_toNat_eq h1
    subst hk
    exact ⟨true, rfl, fun h => absurd h (by decide), fun _ => rfl⟩

theorem State.inflow_of_refused (h : 4 < source.toNat ∨ 60000 < volume.toNat ∨ 1 < kind.toNat) :
    s.inflow source volume kind = (s, some (.range, source)) := by
  unfold State.inflow
  cases hi : index? 5 source with
  | none => rfl
  | some b =>
    dsimp only
    split
    · rfl
    · next hv =>
      rcases h with h | h | h
      · rw [index?_of_le h] at hi
        exact absurd hi (by simp)
      · exact absurd h hv
      · rw [inflowKind_of_le h]

theorem State.inflow_of_taken (hb : b.val = source.toNat) (hv : volume.toNat ≤ 60000)
    (hk : inflowKind kind = some turbid) :
    s.inflow source volume kind = (s.takeInflow b volume.toNat turbid, some (.done, source)) := by
  unfold State.inflow
  rw [index?_of_toNat_eq hb.symm]
  dsimp only
  rw [if_neg (Nat.not_lt.2 hv), hk]

/-! ## The settle timer (04 R80) -/

theorem Basin.ready_iff (y : Basin) : y.state = .ready ↔ y.isolated = false ∧ y.low = false ∧ y.settle = none := by
  unfold Basin.state
  cases y.isolated <;> cases y.low <;> cases y.settle <;> simp

theorem State.reportReady_eq {z : Basin} (hz : z = s.water.basins.get b) (y : Basin) : s.reportReady b y = { s with
    engine := { s.engine with
      asked := if z.state = .ready ∧ y.state ≠ .ready then Table.fill 4 true else s.engine.asked } } := by
  subst hz
  unfold State.reportReady
  rw [State.askAllIf_eq]
  simp only [Bool.and_eq_true, decide_eq_true_eq]

theorem State.settled_of_expired (hx : x = s.water.basins.get b) (h : x.settle = some 0) : s.settled b = { s with
    water := { s.water with
      basins := s.water.basins.put b { x with clarity := x.baseClarity, settle := none } }
    engine := { s.engine with
      asked := if x.isolated = false ∧ x.low = false then Table.fill 4 true else s.engine.asked } } := by
  subst hx
  unfold State.settled
  dsimp only
  rw [State.reportReady_eq rfl]
  have hg : (s.mapBasin b fun y => { y with clarity := y.baseClarity, settle := none }).water.basins.get b
      = { s.water.basins.get b with clarity := (s.water.basins.get b).baseClarity, settle := none } :=
    (Table.get_modify _ _ _ _).trans (if_pos rfl)
  have hiff : ((s.mapBasin b fun y => { y with clarity := y.baseClarity, settle := none }).water.basins.get b).state
      = .ready ∧ (s.water.basins.get b).state ≠ .ready
      ↔ (s.water.basins.get b).isolated = false ∧ (s.water.basins.get b).low = false := by
    rw [hg, ne_eq, Basin.ready_iff, Basin.ready_iff, h]
    simp
  simp only [hiff]
  rfl

end

/-- Settles O41: the low test, an addition, INFLOW and the settle timer's expiry. -/
theorem inflowLowTestAndSettle : Obligations.InflowLowTestAndSettle := by
  refine ⟨fun s b x hx => ⟨fun h hl => ?_, fun h h1 h2 => ?_, fun h hl => ?_, fun h hl => ?_⟩,
    fun s b v x hx => ⟨State.addLevel_of_fits hx, State.addLevel_of_over hx⟩,
    fun s source volume kind h => ⟨fun hr => exec_of_command rfl h (State.inflow_of_refused hr), ?_⟩,
    fun s b x hlive hx => ⟨fun h0 => ?_, fun h0 => ?_⟩⟩
  · exact State.lowTest_of_enters hx h (x.lowAfter_iff.2 (by rw [h]; exact hl))
  · have ha : x.lowAfter = false := by
      rw [Bool.eq_false_iff, ne_eq, x.lowAfter_iff, h, if_neg Bool.false_ne_true]
      omega
    subst hx
    exact State.lowTest_of_same (ha.trans h.symm)
  · have ha : x.lowAfter = false := by
      rw [Bool.eq_false_iff, ne_eq, x.lowAfter_iff, h, if_pos rfl]
      omega
    rw [State.lowTest_of_other hx (by simp [h]), ha]
  · subst hx
    exact State.lowTest_of_same (((s.water.basins.get b).lowAfter_iff.2 (by rw [h]; exact hl)).trans h.symm)
  · intro b x hb hv hk hx
    obtain ⟨turbid, hkind, hk0, hk1⟩ := inflowKind_of_lt hk
    have hex : exec (.inflow source volume kind) s
        = .next ((s.takeInflow b volume.toNat turbid).commandEnd Code.inflow (some (.done, source))) :=
      exec_of_command rfl h (State.inflow_of_taken hb hv hkind)
    have heq := State.takeInflow_eq hx volume.toNat turbid
    generalize hn : (s.notices.spilled b x volume.toNat).lowTested b (x.poured volume.toNat turbid) = n at heq
    have hpe := x.poured_eq volume.toNat turbid
    have hpc : turbid = false → (x.poured volume.toNat turbid).clarity = x.clarity
        ∧ (x.poured volume.toNat turbid).settle = x.settle := fun ht => by rw [ht]; exact x.poured_clear _
    have hpt : turbid = true → 0 < x.settleTime → (x.poured volume.toNat turbid).clarity = max x.clarity 2
        ∧ (x.poured volume.toNat turbid).settle = some (60 * x.settleTime) := fun ht h => by
      rw [ht]
      exact x.poured_turbid _ h
    have hps : turbid = true → x.settleTime = 0 → (x.poured volume.toNat turbid).clarity = x.baseClarity
        ∧ (x.poured volume.toNat turbid).settle = none := fun ht h => by
      rw [ht]
      exact x.poured_settled _ h
    generalize x.poured volume.toNat turbid = z at heq hn hpe hpc hpt hps
    have hfit : ∀ {α : Type} {a c : α}, x.level + volume.toNat ≤ x.capacity →
        (if x.level + volume.toNat ≤ x.capacity then a else c) = a := fun h => if_pos h
    refine ⟨s.takeInflow b volume.toNat turbid, z.tested, hex, ?_, ?_, fun hf => ?_, fun ho => ?_, fun hf hlow => ?_,
      fun h0 => hpc (hk0 h0), fun h1 => hpt (hk1 h1), fun h1 => hps (hk1 h1), ?_, fun m => ?_⟩
    · rw [heq, State.reportRise, State.askAllIf_eq]
    · unfold Basin.tested
      rw [hpe]
    · show z.spilled = _
      rw [hpe]
      exact if_pos hf
    · have hno : ¬ x.level + volume.toNat ≤ x.capacity := Nat.not_le.2 ho
      have hnot : (s.takeInflow b volume.toNat turbid).notices = n := by
        rw [heq, State.reportRise, State.askAllIf_eq]
      have hsp : n.SameKind (s.notices.marked .spill b.val) .spill := by
        rw [← hn, Notices.spilled, if_neg hno]
        unfold Notices.lowTested
        split
        · exact Notices.marked_same (by simp) _ _
        · exact .refl _ _
      obtain ⟨h1, h2⟩ := (s.notices.marked_self .spill b.val)
      refine ⟨?_, by rw [hnot]; exact hsp.1.trans h1, by rw [hnot]; exact hsp.2.trans h2⟩
      show z.spilled = _
      rw [hpe]
      exact if_neg hno
    · rw [heq, State.reportRise, State.askAllIf_eq, ← hn, Notices.spilled, if_pos hf, Notices.lowTested, if_neg]
      rintro ⟨h1, h2⟩
      have hzl : z.low = x.low := by rw [hpe]
      rcases hlow with hl | hl
      · rw [hzl, hl] at h1
        exact absurd h1 (by simp)
      · have hl' : z.lowAfter = false := hl
        rw [hl'] at h2
        exact absurd h2 (by simp)
    · have hzl : z.low = x.low ∧ z.floor = x.floor ∧ z.restoreMargin = x.restoreMargin := by
        rw [hpe]
        exact ⟨rfl, rfl, rfl⟩
      obtain ⟨h1, h2, h3⟩ := hzl
      have hza := z.lowAfter_iff
      rw [h1, h2, h3] at hza
      have hres : z.reserved = x.reserved := by rw [hpe]
      rw [hres] at hza
      exact hza
    · have hg : ({ s with
          water := { s.water with basins := s.water.basins.put b z.tested }, notices := n } : State).water.basins.get b
          = z.tested := (Table.get_put _ _ _ _).trans (if_pos rfl)
      rw [heq, State.reportRise, State.askAllIf_asked, hg]
      simp only [Bool.and_eq_true, Bool.or_eq_true, decide_eq_true_eq]
  · exact exec_of_event rfl hlive ((if_pos (hx ▸ h0)).trans (State.settled_of_expired hx h0))
  · exact exec_of_event rfl hlive (if_neg (hx ▸ h0))

end Sys2Proof.Machine

/-! PROOFS. The States of the sources and the choice of one (O44). -/

namespace Sys2Proof.Machine

section

variable {s : State} {m : Fin 4} {limit rank volume : Nat} {b d : Fin 5} {x : Fin 6} {y : Basin} {f : Fresh}

/-! ## States and available volumes (04 R68, R74) -/

theorem Basin.state_isolated (h : y.isolated = true) : y.state = .isolated := by simp [Basin.state, h]

theorem Basin.state_low (h : y.isolated = false) (hl : y.low = true) : y.state = .low := by simp [Basin.state, h, hl]

theorem Basin.state_settling (h : y.isolated = false) (hl : y.low = false) (hs : y.settle.isSome = true) :
    y.state = .settling := by simp [Basin.state, h, hl, hs]

theorem Basin.available_add (h : y.floor + y.reserved ≤ y.level) : y.available + y.floor + y.reserved = y.level := by
  unfold Basin.available
  omega

theorem Basin.available_zero (h : y.level ≤ y.floor + y.reserved) : y.available = 0 := by
  unfold Basin.available
  omega

theorem Fresh.available_add (h : f.used + f.reserved ≤ f.today) : f.available + f.used + f.reserved = f.today := by
  unfold Fresh.available
  omega

/-! ## Admissible sources (04 R75, R76) -/

theorem State.basinAdmissible_iff : s.basinAdmissible m limit volume b = true ↔
    (s.engine.mains.get m).sourceMask.get (asSource b) = true ∧ (s.water.basins.get b).state = .ready
      ∧ (s.water.basins.get b).clarity ≤ limit ∧ volume ≤ (s.water.basins.get b).available := by
  simp [State.basinAdmissible, and_assoc]

theorem State.rainComing_iff : s.rainComing = true ↔ ∃ h x, s.clock.hour ≤ h ∧ h ≤ s.clock.hour + 5
    ∧ s.horizon.slotFor h = some x ∧ 2 ≤ x.rainClass := by
  unfold State.rainComing
  rw [List.any_eq_true]
  constructor
  · rintro ⟨k, hk, h⟩
    have hk' := List.mem_range.1 hk
    split at h
    · next x hx => exact ⟨s.clock.hour + k, x, by omega, by omega, hx, of_decide_eq_true h⟩
    · exact absurd h (by simp)
  · rintro ⟨h, x, h1, h2, hx, hr⟩
    refine ⟨h - s.clock.hour, List.mem_range.2 (by omega), ?_⟩
    have hh : s.clock.hour + (h - s.clock.hour) = h := by omega
    rw [hh, hx]
    exact decide_eq_true hr

theorem State.freshAdmissible_iff : s.freshAdmissible m rank volume = true ↔
    (s.engine.mains.get m).sourceMask.get 5 = true ∧ s.water.fresh.isolated = false
      ∧ volume ≤ s.water.fresh.available ∧ ¬ (rank = 1 ∧ s.rainComing = true) := by
  have hw : (decide (rank = 1) && s.rainComing) = false ↔ ¬ (rank = 1 ∧ s.rainComing = true) := by
    rw [Bool.eq_false_iff, ne_eq, Bool.and_eq_true, decide_eq_true_eq]
  unfold State.freshAdmissible
  rw [Bool.and_eq_true, Bool.and_eq_true, Bool.and_eq_true, Bool.not_eq_true', Bool.not_eq_true', decide_eq_true_eq,
    hw, and_assoc, and_assoc]

/-! ## The choice (04 R77) -/

/-- The basin with the greatest available volume is taken, the lowest index on a tie. -/
theorem State.bestBasin_eq (hb : s.basinAdmissible m limit volume b = true)
    (h : ∀ d, s.basinAdmissible m limit volume d = true →
      (s.water.basins.get d).available < (s.water.basins.get b).available
        ∨ ((s.water.basins.get d).available = (s.water.basins.get b).available ∧ b ≤ d)) :
    s.bestBasin m limit volume = some b := by
  obtain ⟨l₁, l₂, hl⟩ := List.append_of_mem (List.mem_finRange b)
  have hlt : (l₁ ++ b :: l₂).Pairwise (· < ·) := hl ▸ List.pairwise_lt_finRange 5
  obtain ⟨-, -, hlt⟩ := List.pairwise_append.1 hlt
  unfold State.bestBasin
  rw [hl, List.foldl_append, List.foldl_cons]
  refine List.foldlRecOn (motive := fun best => best = some b) _ _ ?_ ?_
  · rw [if_pos hb]
    split
    · next _ d hd =>
      have hbest : ∀ j, some d = some j → j ∈ l₁ ∧ s.basinAdmissible m limit volume j = true := by
        rw [← hd]
        refine List.foldlRecOn (motive := fun best : Option (Fin 5) =>
          ∀ j, best = some j → j ∈ l₁ ∧ s.basinAdmissible m limit volume j = true) _ _ (by simp) ?_
        intro best hb k hk j hj
        split at hj
        · next ha =>
          split at hj
          · split at hj
            · obtain rfl := Option.some.inj hj
              exact ⟨hk, ha⟩
            · exact hb j hj
          · obtain rfl := Option.some.inj hj
            exact ⟨hk, ha⟩
        · exact hb j hj
      obtain ⟨hd₁, had⟩ := hbest d rfl
      refine if_pos ((h d had).resolve_right fun hle => ?_)
      exact absurd (hlt d hd₁ b List.mem_cons_self) (not_lt.2 hle.2)
    · rfl
  · rintro _ rfl d -
    split
    · next ha =>
      refine if_neg (Nat.not_lt.2 ?_)
      rcases h d ha with h | h
      · exact h.le
      · exact h.1.le
    · rfl

theorem State.bestBasin_eq_none (h : ∀ b, s.basinAdmissible m limit volume b = false) :
    s.bestBasin m limit volume = none := by
  unfold State.bestBasin
  refine List.foldlRecOn (motive := fun best => best = none) _ _ rfl ?_
  rintro _ rfl b -
  rw [h]
  rfl

/-- What is taken as the best basin is admissible. -/
theorem State.bestBasin_spec (h : s.bestBasin m limit volume = some b) :
    s.basinAdmissible m limit volume b = true := by
  have key : ∀ j, s.bestBasin m limit volume = some j → s.basinAdmissible m limit volume j = true := by
    unfold State.bestBasin
    refine List.foldlRecOn (motive := fun best : Option (Fin 5) =>
      ∀ j, best = some j → s.basinAdmissible m limit volume j = true) _ _ (by simp) ?_
    intro best hb k _ j hj
    split at hj
    · next ha =>
      split at hj
      · split at hj
        · obtain rfl := Option.some.inj hj
          exact ha
        · exact hb j hj
      · obtain rfl := Option.some.inj hj
        exact ha
    · exact hb j hj
  exact key b h

theorem State.openBasin_eq_some : s.openBasin m limit volume = some b ↔
    (s.engine.mains.get m).openSource = some (asSource b) ∧ s.basinAdmissible m limit volume b = true := by
  unfold State.openBasin
  cases (s.engine.mains.get m).openSource with
  | none => simp
  | some x =>
    dsimp only
    cases hx : asBasin x with
    | none =>
      refine ⟨fun h => absurd h (by simp), fun h => ?_⟩
      rw [Option.some.inj h.1, asBasin_of_val (asSource_isBasin b)] at hx
      exact absurd hx (by simp)
    | some d =>
      have hxd : x = asSource d := Fin.ext (asBasin_eq_some.1 hx)
      subst hxd
      dsimp only
      constructor
      · intro h
        split at h
        · next ha =>
          obtain rfl := Option.some.inj h
          exact ⟨rfl, ha⟩
        · exact absurd h (by simp)
      · rintro ⟨h1, h2⟩
        obtain rfl : d = b := isBasin_unique (asSource_isBasin d) (Option.some.inj h1 ▸ asSource_isBasin b)
        exact if_pos h2

theorem State.chooseSource_of_open (h : s.openBasin m limit volume = some b) :
    s.chooseSource m limit rank volume = some (asSource b) := by
  unfold State.chooseSource
  rw [h]

theorem State.chooseSource_of_best (ho : s.openBasin m limit volume = none)
    (h : s.bestBasin m limit volume = some b) : s.chooseSource m limit rank volume = some (asSource b) := by
  unfold State.chooseSource
  rw [ho, h]

theorem State.chooseSource_of_no_basin (ho : s.openBasin m limit volume = none)
    (h : s.bestBasin m limit volume = none) :
    s.chooseSource m limit rank volume = if s.freshAdmissible m rank volume then some 5 else none := by
  unfold State.chooseSource
  rw [ho, h]

/-- What is chosen is admissible. -/
theorem State.chooseSource_spec (h : s.chooseSource m limit rank volume = some x) :
    (∃ b, x = asSource b ∧ s.basinAdmissible m limit volume b = true)
      ∨ (x = 5 ∧ s.freshAdmissible m rank volume = true) := by
  cases ho : s.openBasin m limit volume with
  | some b =>
    rw [State.chooseSource_of_open ho] at h
    exact .inl ⟨b, (Option.some.inj h).symm, (State.openBasin_eq_some.1 ho).2⟩
  | none =>
    cases hb : s.bestBasin m limit volume with
    | some b =>
      rw [State.chooseSource_of_best ho hb] at h
      exact .inl ⟨b, (Option.some.inj h).symm, State.bestBasin_spec hb⟩
    | none =>
      rw [State.chooseSource_of_no_basin ho hb] at h
      split at h
      · next hf => exact .inr ⟨(Option.some.inj h).symm, hf⟩
      · exact absurd h (by simp)

end

/-- Settles O44: the States, the available volumes, and the choice step by step. -/
theorem choiceOfSource : Obligations.ChoiceOfSource := by
  refine ⟨fun s b f => ⟨Basin.state_isolated, Basin.state_low, Basin.state_settling, fun h1 h2 h3 =>
    b.ready_iff.2 ⟨h1, h2, h3⟩, Basin.available_add, Basin.available_zero, Fresh.available_add,
    fun m limit volume x h => (State.basinAdmissible_iff.1 h).2.2.2,
    fun m rank volume h => (State.freshAdmissible_iff.1 h).2.2.1⟩, ?_⟩
  intro s m limit rank volume admits fresh withheld hadm hwith hfresh answer hans
  have ha : ∀ b, admits b ↔ s.basinAdmissible m limit volume b = true := fun b => by
    rw [hadm, State.basinAdmissible_iff]
    constructor
    · rintro ⟨x, hx, h⟩
      obtain rfl : x = asSource b := Fin.ext hx
      exact h
    · exact fun h => ⟨asSource b, rfl, h⟩
  have hf : fresh ↔ s.freshAdmissible m rank volume = true := by
    rw [hfresh, State.freshAdmissible_iff, hwith, State.rainComing_iff]
  subst hans
  refine ⟨fun b x hx ho hb => ?_, fun hno => ?_⟩
  · obtain rfl : x = asSource b := Fin.ext hx
    exact State.chooseSource_of_open (State.openBasin_eq_some.2 ⟨ho, (ha b).1 hb⟩)
  · have hopen : s.openBasin m limit volume = none := by
      refine Option.eq_none_iff_forall_ne_some.2 fun b hb => ?_
      obtain ⟨h1, h2⟩ := State.openBasin_eq_some.1 hb
      exact hno b _ rfl h1 ((ha b).2 h2)
    refine ⟨fun b x hx hb hbest => ?_, fun hnone => ?_⟩
    · obtain rfl : x = asSource b := Fin.ext hx
      exact State.chooseSource_of_best hopen
        (State.bestBasin_eq ((ha b).1 hb) fun d hd => hbest d ((ha d).2 hd))
    · have hbest := State.bestBasin_eq_none fun b => Bool.eq_false_iff.2 fun h => hnone b ((ha b).2 h)
      rw [State.chooseSource_of_no_basin hopen hbest]
      exact ⟨fun h => if_pos (hf.1 h), fun h => if_neg (mt hf.2 h)⟩

end Sys2Proof.Machine

/-! PROOFS. A source that can serve no pass: while the passes on it end, none comes to draw from it (04 R83, R85;
06 R131). -/

namespace Sys2Proof.Machine

/-! ## What attempts and ends keep of the water -/

/-- `P` speaks of the water, and of WATER_LOW pending, and is kept by ends and reservations. -/
structure WaterKept (e : Option (Fin 5)) (P : State → Prop) : Prop where
  same : ∀ s t : State, t.water = s.water →
    t.notices.pending.get NoticeKind.waterLow.place = s.notices.pending.get NoticeKind.waterLow.place → P s → P t
  endPass : ∀ s c r, P s → P (s.endPass e c r true)
  reserve : ∀ s y v, P s → P (s.reserve y v)

section

variable {e : Option (Fin 5)} {P : State → Prop} (K : WaterKept e P) {s : State} {c : Fin 8} {m : Fin 4}
include K

theorem WaterKept.prime (c : Fin 8) (p : Pass) (hs : P s) : P (s.prime e c p) := by
  cases hf : (s.field.lines.flow.get p.main).filtered with
  | false =>
    obtain ⟨-, -, -, hw, hn, -⟩ := State.prime_quiet (e := e) (c := c) rfl hf rfl rfl
    exact K.same s _ hw (by rw [hn]) hs
  | true =>
    obtain ⟨u, hu, -, -, -, hw, hn, -⟩ := State.prime_stray (e := e) (c := c) rfl hf rfl
    rw [hu]
    exact K.endPass u c _ (K.same s u hw (by rw [hn]) hs)

theorem WaterKept.recordReasons (m : Fin 4) (hs : P s) : P (s.recordReasons m) := by
  rcases List.eq_nil_or_concat' (s.unserved m) with h | ⟨l, o, h⟩
  · rw [State.recordReasons_of_nil h]
    exact K.same s _ rfl rfl hs
  · rw [State.recordReasons_of_concat h]
    exact K.same s _ rfl (Notices.marked_same (by simp) s.notices o.pile.val).1 hs

theorem WaterKept.startPass (c : Fin 8) (m : Fin 4) (x : Candidate) (hs : P s) : P (s.startPass e c m x) := by
  obtain h | ⟨p, k, -, -, h⟩ := s.startPass_cases e c m x
  · rwa [h]
  · rw [h]
    exact K.prime c _ (K.reserve s _ _ hs)

theorem WaterKept.attempt (m : Fin 4) (hs : P s) : P (s.attempt e m) := by
  cases ha : s.available m with
  | false => rwa [State.attempt_of_not_available e ha]
  | true =>
    obtain ⟨c, p, -, h⟩ | h | ⟨c, -, h⟩ := State.attempt_cases ha e
    · rw [h]
      exact K.prime c _ hs
    · rwa [h]
    · rw [h]
      obtain h | ⟨k, -, h⟩ := s.requestAndStart_cases e m c
      · rw [h]
        exact K.recordReasons m hs
      · rw [h, State.takeOrder_eq]
        exact K.startPass c m k (K.same (s.recordReasons m) _ rfl rfl (K.recordReasons m hs))

theorem WaterKept.takeTurn (m : Fin 4) (hs : P s) : P (s.takeTurn m) := K.same s _ rfl rfl hs

theorem WaterKept.runAttempts (hs : P s) : P (s.runAttempts e) :=
  State.runAttempts_inv (fun _ m => K.takeTurn m) (fun _ m => K.attempt m) hs

end

section

variable {e : Option (Fin 5)} {P : State → Prop} {s t : State} {c : Fin 8} {m : Fin 4} {x : Fin 6} {p : Pass}

/-! ## The passes that draw from a source -/

/-- None of the contexts of `S` has a pass on source `x`. -/
def State.Clear (t : State) (x : Fin 6) (S : Fin 8 → Prop) : Prop :=
  ∀ c, S c → ∀ p, t.engine.contexts.get c = some p → p.source ≠ x

theorem State.Clear.of_contexts {S : Fin 8 → Prop} (h : s.Clear x S) (ht : t.engine.contexts = s.engine.contexts) :
    t.Clear x S := by
  unfold State.Clear
  rw [ht]
  exact h

theorem State.Clear.of_put {S : Fin 8 → Prop} {o : Option Pass} (h : s.Clear x S)
    (ht : t.engine.contexts = s.engine.contexts.put c o) (ho : S c → ∀ p, o = some p → p.source ≠ x) :
    t.Clear x S := by
  intro d hd p hp
  rw [ht, Table.get_put] at hp
  split at hp
  · next hc =>
    subst hc
    exact ho hd p hp
  · exact h d hd p hp

theorem State.Clear.endPass {S : Fin 8 → Prop} (h : s.Clear x S) (e : Option (Fin 5)) (c : Fin 8) (r : PassEnd) :
    (s.endPass e c r true).Clear x S :=
  h.of_put (s.endPass_contexts e c r true) fun _ _ hp => absurd hp (by simp)

/-- A prime brings to its context its own pass alone. -/
theorem State.Clear.prime {S : Fin 8 → Prop} (h : s.Clear x S) (e : Option (Fin 5)) (c : Fin 8)
    (hp : S c → p.source ≠ x) : (s.prime e c p).Clear x S := by
  obtain hc | ⟨q, hq, hc⟩ := s.prime_contexts e c p
  · exact h.of_put hc fun _ _ hp => absurd hp (by simp)
  · refine h.of_put hc fun hS r hr => ?_
    obtain rfl := Option.some.inj hr
    rw [(Pass.plan_fields hq).2.1]
    exact hp hS

/-- A source that a request chooses can serve passes (04 R75). -/
theorem State.candidate_ready {k : Candidate} (h : s.judge m k.order = .candidate k.cannon k.source) :
    s.water.state k.source = .ready := by
  obtain ⟨y, g, -, -, -, hch⟩ := State.judge_candidate h
  unfold Water.state
  obtain ⟨b, hb, ha⟩ | ⟨hb, ha⟩ := State.chooseSource_spec hch
  · rw [hb, asBasin_of_val (asSource_isBasin b)]
    exact (State.basinAdmissible_iff.1 ha).2.1
  · rw [hb, asBasin_five]
    exact if_neg (by rw [(State.freshAdmissible_iff.1 ha).2.1]; exact Bool.false_ne_true)

/-- Where the source cannot serve passes no attempt brings a pass that draws from it. -/
theorem State.Clear.attempt {S : Fin 8 → Prop} (h : s.Clear x S) (hx : s.water.state x ≠ .ready)
    (e : Option (Fin 5)) (m : Fin 4) : (s.attempt e m).Clear x S := by
  cases ha : s.available m with
  | false => rwa [State.attempt_of_not_available e ha]
  | true =>
    obtain ⟨c, p, hf, ht⟩ | ht | ⟨c, -, ht⟩ := State.attempt_cases ha e
    · rw [ht]
      exact h.prime e c fun hS => h c hS p (State.firstResumable_spec hf).1
    · rwa [ht]
    · rw [ht]
      obtain ht | ⟨k, y, g, -, hj, -, -, ht⟩ := s.requestAndStart_spec e m c
      · rw [ht]
        exact h.of_contexts (by rw [State.recordReasons_engine])
      · rw [ht]
        refine State.Clear.prime (h.of_contexts ?_) e c fun _ hs => hx (hs ▸ State.candidate_ready hj)
        rw [State.reserve_engine, State.takeOrder_engine, State.recordReasons_engine]

/-- What the end of a command adds to its attempts leaves the engine, the water and the notices. -/
theorem State.commandEnd_parts (s : State) (code : Byte) (a : Answer) :
    (s.commandEnd code a).engine = (s.runAttempts none).engine
      ∧ (s.commandEnd code a).water = (s.runAttempts none).water
      ∧ (s.commandEnd code a).notices = (s.runAttempts none).notices := by
  have he := s.commandEnd_eq code a rfl
  refine ⟨?_, ?_, ?_⟩ <;> rw [he]

variable (K : WaterKept e P) (hbar : ∀ t, P t → t.water.state x ≠ .ready)
include K hbar

theorem WaterKept.runAttempts_clear {S : Fin 8 → Prop} (hs : P s) (h : s.Clear x S) :
    P (s.runAttempts e) ∧ (s.runAttempts e).Clear x S :=
  State.runAttempts_inv (P := fun t => P t ∧ t.Clear x S)
    (fun _ m ht => ⟨K.takeTurn m ht.1, ht.2.of_contexts rfl⟩)
    (fun t m ht => ⟨K.attempt m ht.1, ht.2.attempt (hbar t ht.1) e m⟩) ⟨hs, h⟩

/-- After the ends of the passes on a source that can serve none, none is left on it. -/
theorem WaterKept.endWhere_clear (hs : P s) (r : PassEnd) :
    P (s.endWhere e (Pass.draws x) r) ∧ (s.endWhere e (Pass.draws x) r).Clear x fun _ => True := by
  have key : ∀ l : List (Fin 8), P (s.forEach l (State.endStep e (Pass.draws x) r))
      ∧ (s.forEach l (State.endStep e (Pass.draws x) r)).Clear x fun c => c ∈ l := by
    intro l
    induction l using List.reverseRecOn with
    | nil => exact ⟨hs, fun c hc => absurd hc (by simp)⟩
    | append_singleton l c ih =>
      unfold State.forEach at ih ⊢
      rw [List.foldl_append]
      generalize l.foldl _ s = t at ih
      obtain ⟨hP, hC⟩ := ih
      show P (State.endStep e (Pass.draws x) r t c)
        ∧ (State.endStep e (Pass.draws x) r t c).Clear x fun d => d ∈ l ++ [c]
      obtain ⟨hno, he⟩ | ⟨q, -, -, he⟩ := State.endStep_cases e (Pass.draws x) r t c
      · rw [he]
        refine ⟨hP, fun d hd p hp => ?_⟩
        rcases List.mem_append.1 hd with hd | hd
        · exact hC d hd p hp
        · obtain rfl := List.mem_singleton.1 hd
          exact of_decide_eq_false (hno p hp)
      · rw [he]
        refine K.runAttempts_clear hbar (K.endPass t c r hP) fun d hd p hp => ?_
        rw [State.endPass_contexts, Table.get_put] at hp
        split at hp
        · exact absurd hp (by simp)
        · next hne =>
          rcases List.mem_append.1 hd with hd | hd
          · exact hC d hd p hp
          · exact absurd (List.mem_singleton.1 hd).symm hne
  obtain ⟨h1, h2⟩ := key allContexts
  rw [State.endWhere_eq_forEach]
  exact ⟨h1, fun c _ => h2 c (mem_allContexts c)⟩

/-- The end of a command brings no pass to draw from the source. -/
theorem WaterKept.commandEnd_clear (hs : P s) (h : s.Clear x fun _ => True) (he : e = none) (code : Byte)
    (a : Answer) : P (s.commandEnd code a) ∧ (s.commandEnd code a).Clear x fun _ => True := by
  obtain ⟨h1, h2⟩ := K.runAttempts_clear hbar hs h
  obtain ⟨hen, hw, hn⟩ := s.commandEnd_parts code a
  rw [← he] at hen hw hn
  generalize s.commandEnd code a = t at hen hw hn ⊢
  generalize s.runAttempts e = u at h1 h2 hen hw hn
  exact ⟨K.same u t hw (congrArg (fun n : Notices => n.pending.get NoticeKind.waterLow.place) hn) h1,
    h2.of_contexts (congrArg Engine.contexts hen)⟩

end

/-! ## Marks of a source that stop it from serving -/

section

variable {s : State} {c : Fin 8} {b : Fin 5} {x : Fin 6} {e : Option (Fin 5)}

theorem Basin.received_kept (y : Basin) (v : Nat) :
    (y.received v).isolated = y.isolated ∧ (y.received v).baseClarity = y.baseClarity := by
  rw [y.received_eq v]
  exact ⟨rfl, rfl⟩

/-- What a settlement leaves of a basin. -/
theorem State.settle_kept (s : State) (e : Option (Fin 5)) (p : Pass) (v : Nat) (b : Fin 5) :
    ((s.settle e p v).water.basins.get b).isolated = (s.water.basins.get b).isolated
      ∧ ((s.settle e p v).water.basins.get b).baseClarity = (s.water.basins.get b).baseClarity
      ∧ (e = some b → ((s.settle e p v).water.basins.get b).low = (s.water.basins.get b).low) := by
  have hc : ((s.charged p v).water.basins.get b).isolated = (s.water.basins.get b).isolated
      ∧ ((s.charged p v).water.basins.get b).baseClarity = (s.water.basins.get b).baseClarity := by
    rw [State.charged_basin]
    split <;> exact ⟨rfl, rfl⟩
  obtain ⟨h1, h2⟩ := ((s.charged p v).water.basins.get b).received_kept (s.added p.pile v b)
  have hl := ((s.charged p v).water.basins.get b).received_low (s.added p.pile v b)
  rw [State.charged_low] at hl
  rw [State.settle_basin]
  split
  · next h => exact ⟨h1.trans hc.1, h2.trans hc.2, fun he => absurd he h.1⟩
  · exact ⟨h1.trans hc.1, h2.trans hc.2, fun _ => hl⟩

theorem State.endPass_kept (s : State) (e : Option (Fin 5)) (c : Fin 8) (r : PassEnd) (offers : Bool) (b : Fin 5) :
    ((s.endPass e c r offers).water.basins.get b).isolated = (s.water.basins.get b).isolated
      ∧ ((s.endPass e c r offers).water.basins.get b).baseClarity = (s.water.basins.get b).baseClarity
      ∧ (e = some b → ((s.endPass e c r offers).water.basins.get b).low = (s.water.basins.get b).low) := by
  cases hp : s.engine.contexts.get c with
  | none =>
    rw [State.endPass_of_free hp]
    exact ⟨rfl, rfl, fun _ => rfl⟩
  | some p =>
    rw [State.endPass_water hp]
    exact s.settle_kept e p _ b

theorem State.endPass_isolated_fresh (s : State) (e : Option (Fin 5)) (c : Fin 8) (r : PassEnd) (offers : Bool) :
    (s.endPass e c r offers).water.fresh.isolated = s.water.fresh.isolated := by
  cases hp : s.engine.contexts.get c with
  | none => rw [State.endPass_of_free hp]
  | some p =>
    rw [State.endPass_water hp, State.settle_fresh, State.charged_fresh]
    split <;> rfl

theorem State.reserve_kept (s : State) (y : Fin 6) (v : Nat) (b : Fin 5) :
    ((s.reserve y v).water.basins.get b).isolated = (s.water.basins.get b).isolated
      ∧ ((s.reserve y v).water.basins.get b).baseClarity = (s.water.basins.get b).baseClarity
      ∧ ((s.reserve y v).water.basins.get b).low = (s.water.basins.get b).low
      ∧ (s.reserve y v).water.fresh.isolated = s.water.fresh.isolated := by
  rcases source_cases y with rfl | ⟨d, hd⟩
  · rw [State.reserve_fresh]
    exact ⟨rfl, rfl, rfl, rfl⟩
  · rw [State.reserve_basin hd]
    dsimp only
    rw [Table.get_modify]
    split
    · next h =>
      subst h
      exact ⟨rfl, rfl, rfl, rfl⟩
    · exact ⟨rfl, rfl, rfl, rfl⟩

/-- A basin whose passes a GAUGE is cutting stays low (04 R83). -/
theorem low_waterKept (b : Fin 5) : WaterKept (some b) fun t => (t.water.basins.get b).low = true where
  same _ _ hw _ hs := by rw [hw]; exact hs
  endPass s c r hs := by rw [(s.endPass_kept (some b) c r true b).2.2 rfl]; exact hs
  reserve s y v hs := by rw [(s.reserve_kept y v b).2.2.1]; exact hs

/-- A basin keeps its Base clarity. -/
theorem baseClarity_waterKept (e : Option (Fin 5)) (b : Fin 5) (n : Nat) :
    WaterKept e fun t => (t.water.basins.get b).baseClarity = n where
  same _ _ hw _ hs := by rw [hw]; exact hs
  endPass s c r hs := by rw [(s.endPass_kept e c r true b).2.1]; exact hs
  reserve s y v hs := by rw [(s.reserve_kept y v b).2.1]; exact hs

theorem Water.isIsolated_basin {w : Water} (h : IsBasin x b) : w.isIsolated x = (w.basins.get b).isolated := by
  rw [Water.isIsolated, asBasin_of_val h]

theorem Water.isIsolated_fresh (w : Water) : w.isIsolated 5 = w.fresh.isolated := rfl

/-- A source stays isolated (04 R85). -/
theorem isolated_waterKept (e : Option (Fin 5)) (x : Fin 6) : WaterKept e fun t => t.water.isIsolated x = true where
  same _ _ hw _ hs := by rw [hw]; exact hs
  endPass s c r hs := by
    rcases source_cases x with rfl | ⟨b, hb⟩
    · rw [Water.isIsolated_fresh, State.endPass_isolated_fresh]
      exact hs
    · rw [Water.isIsolated_basin hb, (s.endPass_kept e c r true b).1, ← Water.isIsolated_basin hb]
      exact hs
  reserve s y v hs := by
    rcases source_cases x with rfl | ⟨b, hb⟩
    · rw [Water.isIsolated_fresh, (s.reserve_kept y v 0).2.2.2]
      exact hs
    · rw [Water.isIsolated_basin hb, (s.reserve_kept y v b).1, ← Water.isIsolated_basin hb]
      exact hs

theorem Water.not_ready_of_low {w : Water} (h : (w.basins.get b).low = true) : w.state (asSource b) ≠ .ready := by
  rw [Water.state, asBasin_of_val (asSource_isBasin b)]
  dsimp only
  rw [ne_eq, Basin.ready_iff, h]
  simp

theorem Water.not_ready_of_isolated {w : Water} (h : w.isIsolated x = true) : w.state x ≠ .ready := by
  rcases source_cases x with rfl | ⟨b, hb⟩
  · rw [Water.isIsolated_fresh] at h
    rw [Water.state, asBasin_five]
    dsimp only
    rw [Fresh.state, if_pos h]
    simp
  · rw [Water.isIsolated_basin hb] at h
    rw [Water.state, asBasin_of_val hb]
    dsimp only
    rw [ne_eq, Basin.ready_iff, h]
    simp

/-- WATER_LOW stays pending (09 R163). -/
theorem pending_waterKept (e : Option (Fin 5)) :
    WaterKept e fun t => t.notices.pending.get NoticeKind.waterLow.place = true where
  same _ _ _ hn hs := hn.trans hs
  endPass s c r hs := by
    cases hp : s.engine.contexts.get c with
    | none =>
      rw [State.endPass_of_free hp]
      exact hs
    | some p =>
      have h1 := ((State.endPass_notices hp e r true).2 .waterLow (by simp)).1
      have h2 := ((s.settle e p (p.finalDelivered r)).mainAfterEnd_sameBut p r .waterLow (by simp)).1
      obtain ⟨h3, h4⟩ := s.settle_lowReported e p (p.finalDelivered r)
      rw [h1, h2]
      by_cases hex : ∃ b, s.Enters (s.settle e p (p.finalDelivered r)) b
      · exact (h3 hex).1
      · exact (h4 (not_exists.1 hex)).1.trans hs
  reserve s y v hs := by
    rw [(s.reserve_keeps y v).2.2.2.2.2]
    exact hs

end

end Sys2Proof.Machine

/-! PROOFS. GAUGE (O42). -/

namespace Sys2Proof.Machine

section

variable {s : State} {b : Fin 5} {p : Pass} {c : Fin 8} {x : Basin} {level clarity : Nat}

/-! ## The baselines moved (04 R83 step 1) -/

/-- What the pass in a context has drawn from the basin since its last deduction. -/
def State.undeducted (s : State) (b : Fin 5) (c : Fin 8) : Nat :=
  match s.engine.contexts.get c with
  | some p => if p.source.val = b.val then p.delivered - p.deducted else 0
  | none => 0

/-- A pass on the basin with its baseline moved to what it has delivered. -/
def Pass.rebased (b : Fin 5) (p : Pass) : Pass :=
  if p.source.val = b.val then { p with deducted := p.delivered } else p

/-- The state with the baselines of some contexts moved. -/
def State.rebased (s : State) (b : Fin 5) (l : List (Fin 8)) : State := { s with
  water := { s.water with
    basins := s.water.basins.put b { s.water.basins.get b with
      reserved := (s.water.basins.get b).reserved - (l.map (s.undeducted b)).sum } }
  engine := { s.engine with
    contexts := Table.tab fun c => if c ∈ l then (s.engine.contexts.get c).map (Pass.rebased b)
      else s.engine.contexts.get c } }

theorem draws_iff : p.draws (asSource b) = true ↔ p.source.val = b.val := by
  rw [Pass.draws, decide_eq_true_eq]
  exact ⟨fun h => congrArg Fin.val h, fun h => Fin.ext h⟩

/-- One context's turn in the move. -/
def State.rebaseStep (b : Fin 5) (t : State) (c : Fin 8) : State :=
  match t.engine.contexts.get c with
  | some p =>
    if p.draws (asSource b) then
      (t.mapBasin b fun y => { y with reserved := y.reserved - (p.delivered - p.deducted) }).setContext c
        (some { p with deducted := p.delivered })
    else t
  | none => t

theorem State.moveBaselines_eq_forEach (s : State) (b : Fin 5) :
    s.moveBaselines b = s.forEach allContexts (State.rebaseStep b) := rfl

theorem State.rebased_context {l : List (Fin 8)} (hc : c ∉ l) :
    (s.rebased b l).engine.contexts.get c = s.engine.contexts.get c :=
  (Table.get_tab _ c).trans (if_neg hc)

/-- A context whose pass, if any, does not draw from the basin moves nothing. -/
theorem State.rebased_concat_of_other {l : List (Fin 8)} (hc : c ∉ l)
    (h : ∀ p, s.engine.contexts.get c = some p → p.source.val ≠ b.val) :
    s.rebased b (l ++ [c]) = s.rebased b l := by
  have hu : s.undeducted b c = 0 := by
    unfold State.undeducted
    split
    · next p hp => exact if_neg (h p hp)
    · rfl
  have hctx : (Table.tab fun d => if d ∈ l ++ [c] then (s.engine.contexts.get d).map (Pass.rebased b)
      else s.engine.contexts.get d) = Table.tab fun d => if d ∈ l then (s.engine.contexts.get d).map (Pass.rebased b)
      else s.engine.contexts.get d := by
    refine congrArg Table.tab (funext fun d => ?_)
    by_cases hd : d = c
    · subst hd
      rw [if_neg hc, if_pos (by simp)]
      cases hp : s.engine.contexts.get d with
      | none => rfl
      | some p => rw [Option.map_some, Pass.rebased, if_neg (h p hp)]
    · simp [hd]
  unfold State.rebased
  rw [hctx, List.map_append, List.sum_append, List.map_singleton, hu]
  rfl

theorem State.rebased_concat_of_draws {l : List (Fin 8)} (hc : c ∉ l) (hp : s.engine.contexts.get c = some p)
    (h : p.source.val = b.val) : s.rebased b (l ++ [c])
      = ((s.rebased b l).mapBasin b fun y => { y with reserved := y.reserved - (p.delivered - p.deducted) }).setContext c
          (some { p with deducted := p.delivered }) := by
  have hu : s.undeducted b c = p.delivered - p.deducted := by
    unfold State.undeducted
    rw [hp]
    exact if_pos h
  have hctx : (Table.tab fun d => if d ∈ l ++ [c] then (s.engine.contexts.get d).map (Pass.rebased b)
      else s.engine.contexts.get d)
      = (Table.tab fun d => if d ∈ l then (s.engine.contexts.get d).map (Pass.rebased b)
          else s.engine.contexts.get d).put c (some { p with deducted := p.delivered }) := by
    refine Table.ext_get fun d => ?_
    rw [Table.get_tab, Table.get_put, Table.get_tab]
    by_cases hd : d = c
    · subst hd
      rw [if_pos (by simp), if_pos rfl, hp, Option.map_some, Pass.rebased, if_pos h]
    · rw [if_neg (Ne.symm hd)]
      simp [hd]
  have hbas : (s.water.basins.put b { s.water.basins.get b with
      reserved := (s.water.basins.get b).reserved - (l.map (s.undeducted b)).sum }).modify b
        (fun y => { y with reserved := y.reserved - (p.delivered - p.deducted) })
      = s.water.basins.put b { s.water.basins.get b with
          reserved := (s.water.basins.get b).reserved - ((l.map (s.undeducted b)).sum + (p.delivered - p.deducted)) } := by
    simp only [Table.modify_eq_put, Table.put_put, Table.get_put, if_true, Nat.sub_sub]
  unfold State.rebased
  rw [hctx, List.map_append, List.sum_append, List.map_singleton, hu, List.sum_singleton, ← hbas]
  rfl

theorem State.forEach_rebase (s : State) (b : Fin 5) {l : List (Fin 8)} (hl : l.Nodup) :
    s.forEach l (State.rebaseStep b) = s.rebased b l := by
  induction l using List.reverseRecOn with
  | nil =>
    have ht : (Table.tab fun c => if c ∈ ([] : List (Fin 8)) then (s.engine.contexts.get c).map (Pass.rebased b)
        else s.engine.contexts.get c) = s.engine.contexts :=
      Table.ext_get fun d => (Table.get_tab _ d).trans (if_neg (by simp))
    unfold State.rebased
    rw [ht]
    show s = { s with water := { s.water with basins := s.water.basins.put b (s.water.basins.get b) } }
    rw [Table.put_get_self]
  | append_singleton l c ih =>
    obtain ⟨hl, -, hd⟩ := List.nodup_append.1 hl
    have hc : c ∉ l := fun h => hd c h c (by simp) rfl
    have hih := ih hl
    unfold State.forEach at hih ⊢
    rw [List.foldl_append, hih, List.foldl_cons, List.foldl_nil, State.rebaseStep]
    have hget := State.rebased_context (s := s) (b := b) hc
    cases hp : s.engine.contexts.get c with
    | none =>
      rw [hget, hp, State.rebased_concat_of_other hc fun p h => by rw [hp] at h; exact absurd h (by simp)]
    | some p =>
      rw [hget, hp]
      dsimp only
      by_cases h : p.source.val = b.val
      · rw [if_pos (draws_iff.2 h), State.rebased_concat_of_draws hc hp h]
      · rw [if_neg (mt draws_iff.1 h), State.rebased_concat_of_other hc fun q hq => by
          rw [← Option.some.inj (hp.symm.trans hq)]
          exact h]

/-- The passes with their baselines moved. -/
def State.rebasedContexts (s : State) (b : Fin 5) : Table 8 (Option Pass) :=
  Table.tab fun c => (s.engine.contexts.get c).map (Pass.rebased b)

theorem State.moveBaselines_eq (s : State) (b : Fin 5) : s.moveBaselines b = { s with
    water := { s.water with
      basins := s.water.basins.put b { s.water.basins.get b with
        reserved := (s.water.basins.get b).reserved - ((List.finRange 8).map (s.undeducted b)).sum } }
    engine := { s.engine with contexts := s.rebasedContexts b } } := by
  have hc : (Table.tab fun c => if c ∈ allContexts then (s.engine.contexts.get c).map (Pass.rebased b)
      else s.engine.contexts.get c) = s.rebasedContexts b := by
    refine congrArg Table.tab (funext fun d => if_pos (mem_allContexts d))
  rw [State.moveBaselines_eq_forEach, State.forEach_rebase s b allContexts_nodup, State.rebased, hc]
  rfl

/-! ## The basin gauged (04 R83 steps 2, 3) -/

/-- The basin with the gauge's account, before its low test. -/
def Basin.gauged (x : Basin) (level clarity reserved : Nat) : Basin :=
  { x with level, reserved, clarity, baseClarity := clarity }

/-- The state in which the low test of a GAUGE is made. -/
def State.gauged (s : State) (b : Fin 5) (y : Basin) : State := { s with
  water := { s.water with basins := s.water.basins.put b y }
  engine := { s.engine with contexts := s.rebasedContexts b } }

theorem State.gauged_basin (s : State) (b : Fin 5) (y : Basin) : (s.gauged b y).water.basins.get b = y :=
  (Table.get_put _ _ _ _).trans (if_pos rfl)

/-- A GAUGE as its low test, the cut where that enters the low condition, and the report. -/
theorem State.takeGauge_eq {y : Basin} (hx : x = s.water.basins.get b)
    (hy : y = x.gauged level clarity (x.reserved - ((List.finRange 8).map (s.undeducted b)).sum)) :
    s.takeGauge b level clarity =
      (if !x.low && (((s.gauged b y).lowTest b).water.basins.get b).low then ((s.gauged b y).lowTest b).cutLow b
        else (s.gauged b y).lowTest b).reportRise b x := by
  have hg : (s.moveBaselines b).mapBasin b (fun z => { z with level, baseClarity := clarity, clarity })
      = s.gauged b y := by
    have hput : (s.water.basins.put b { s.water.basins.get b with
        reserved := (s.water.basins.get b).reserved - ((List.finRange 8).map (s.undeducted b)).sum }).modify b
          (fun z => { z with level, baseClarity := clarity, clarity })
        = s.water.basins.put b y := by
      rw [hy, hx]
      simp only [Table.modify_eq_put, Table.put_put, Table.get_put, if_true]
      rfl
    rw [State.moveBaselines_eq]
    refine (congrArg (fun basins => ({ s with
      water := { s.water with basins }
      engine := { s.engine with contexts := s.rebasedContexts b } } : State)) hput)
  unfold State.takeGauge
  dsimp only
  rw [hg, ← hx]

theorem State.gauge_of_refused {source gauge : Byte} {reading : Word16}
    (h : 4 < source.toNat ∨ 3 < gauge.toNat
      ∨ ∃ b : Fin 5, b.val = source.toNat ∧ (s.water.basins.get b).capacity < reading.toNat) :
    s.gauge source reading gauge = (s, some (.range, source)) := by
  unfold State.gauge
  cases hi : index? 5 source with
  | none => rfl
  | some b =>
    refine if_pos ?_
    rcases h with h | h | ⟨d, hd, h⟩
    · rw [index?_of_le h] at hi
      exact absurd hi (by simp)
    · exact .inr h
    · rw [index?_of_toNat_eq hd.symm] at hi
      rw [← Option.some.inj hi]
      exact .inl h

theorem State.gauge_of_taken {source gauge : Byte} {reading : Word16} (hb : b.val = source.toNat)
    (hl : reading.toNat ≤ (s.water.basins.get b).capacity) (hg : gauge.toNat ≤ 3) :
    s.gauge source reading gauge = (s.takeGauge b reading.toNat gauge.toNat, some (.done, source)) := by
  unfold State.gauge
  rw [index?_of_toNat_eq hb.symm]
  exact if_neg (by omega)

/-! ## The cut (04 R83 step 4) -/

/-- A cut leaves its basin's Base clarity. -/
theorem State.cutLow_baseClarity {n : Nat} (h : (s.water.basins.get b).baseClarity = n) :
    ((s.cutLow b).water.basins.get b).baseClarity = n := by
  have hk : ((s.endWhere (some b) (Pass.draws (asSource b)) (.cutShort .water)).water.basins.get b).baseClarity = n := by
    rw [State.endWhere_eq_forEach]
    refine s.forEach_inv (fun t => (t.water.basins.get b).baseClarity = n) _ _ (fun t c _ ht => ?_) h
    obtain ⟨-, he⟩ | ⟨q, -, -, he⟩ := State.endStep_cases (some b) (Pass.draws (asSource b)) (.cutShort .water) t c
    · rw [he]
      exact ht
    · rw [he]
      exact (baseClarity_waterKept (some b) b n).runAttempts ((baseClarity_waterKept (some b) b n).endPass t c _ ht)
  unfold State.cutLow
  generalize s.endWhere (some b) (Pass.draws (asSource b)) (.cutShort .water) = w at hk
  dsimp only
  rw [State.reportReady_eq rfl, State.lowTest_eq]
  show ((w.water.basins.put b _).get b).baseClarity = n
  rw [Table.get_put, if_pos rfl]
  exact hk

/-- The cut of a basin that has come low: the ends, one low test, and attempts where it leaves the basin READY. -/
theorem State.cutLow_eq {w z : State} (h : (s.water.basins.get b).low = true)
    (hw : w = s.endWhere (some b) (Pass.draws (asSource b)) (.cutShort .water)) (hz : z = w.lowTest b) :
    s.cutLow b = { z with
      engine := { z.engine with
        asked := if (z.water.basins.get b).state = .ready then Table.fill 4 true else z.engine.asked } } := by
  obtain ⟨hl, -⟩ := (low_waterKept b).endWhere_clear (fun t ht => Water.not_ready_of_low ht) h (.cutShort .water)
  rw [← hw] at hl
  have hn : (w.water.basins.get b).state ≠ .ready := fun hr => by
    rw [((w.water.basins.get b).ready_iff.1 hr).2.1] at hl
    exact absurd hl (by simp)
  unfold State.cutLow
  rw [← hw]
  dsimp only
  rw [← hz, State.reportReady_eq rfl]
  simp only [ne_eq, hn, not_false_eq_true, and_true]

/-! ## A GAUGE by its low test (O42) -/

theorem State.lowTest_baseClarity (t : State) (b : Fin 5) :
    ((t.lowTest b).water.basins.get b).baseClarity = (t.water.basins.get b).baseClarity := by
  rw [State.lowTest_eq]
  show (((t.water.basins.put b _).get b)).baseClarity = _
  rw [Table.get_put, if_pos rfl]

theorem State.takeGauge_baseClarity (s : State) (b : Fin 5) (level clarity : Nat) :
    ((s.takeGauge b level clarity).water.basins.get b).baseClarity = clarity := by
  generalize hy : (s.water.basins.get b).gauged level clarity
    ((s.water.basins.get b).reserved - ((List.finRange 8).map (s.undeducted b)).sum) = y
  have hl : (((s.gauged b y).lowTest b).water.basins.get b).baseClarity = clarity := by
    rw [State.lowTest_baseClarity, State.gauged_basin, ← hy]
    rfl
  rw [State.takeGauge_eq rfl hy.symm]
  generalize (s.gauged b y).lowTest b = t at hl
  rw [State.reportRise_eq rfl]
  dsimp only
  split
  · exact State.cutLow_baseClarity hl
  · exact hl

/-- The gauge of a basin whose low condition it does not enter. -/
theorem State.takeGauge_of_stays {y z : Basin} (hx : x = s.water.basins.get b)
    (hy : y = x.gauged level clarity (x.reserved - ((List.finRange 8).map (s.undeducted b)).sum))
    (h : x.low = true ∨ (x.floor ≤ level ∧ x.floor + y.reserved ≤ level))
    (hz : z = { y with low := x.low && decide (level < x.floor + x.restoreMargin) }) :
    s.takeGauge b level clarity = (s.gauged b z).reportRise b x := by
  have hlow : y.low = x.low := by rw [hy]; rfl
  have hafter : y.lowAfter = (x.low && decide (level < x.floor + x.restoreMargin)) := by
    have hi := y.lowAfter_iff
    rw [hlow, show y.level = level by rw [hy]; rfl, show y.floor = x.floor by rw [hy]; rfl,
      show y.restoreMargin = x.restoreMargin by rw [hy]; rfl] at hi
    rw [Bool.eq_iff_iff, hi, Bool.and_eq_true, decide_eq_true_eq]
    split
    · next hl => exact ⟨fun h => ⟨hl, h⟩, And.right⟩
    · next hl =>
      obtain ⟨h1, h2⟩ := h.resolve_left hl
      exact ⟨fun h => by omega, fun h => absurd h.1 hl⟩
  have hstay : ¬ (y.low = false ∧ y.lowAfter = true) := by
    rw [hlow, hafter, Bool.and_eq_true]
    exact fun h => absurd (h.1.symm.trans h.2.1) (by simp)
  have ht : (s.gauged b y).lowTest b = s.gauged b z := by
    rw [State.lowTest_of_other (s.gauged_basin b y).symm hstay, hafter, ← hz]
    show ({ s with
      water := { s.water with basins := (s.water.basins.put b y).put b z }
      engine := { s.engine with contexts := s.rebasedContexts b } } : State) = _
    rw [Table.put_put]
    rfl
  have hzl : z.low = (x.low && decide (level < x.floor + x.restoreMargin)) := by rw [hz]
  rw [State.takeGauge_eq hx hy, ht, s.gauged_basin b z, hzl, if_neg (by cases x.low <;> simp)]

/-- The gauge of a basin whose low condition it enters: the report after the cut asks for nothing more. -/
theorem State.takeGauge_of_enters {y : Basin} {v w z : State} (hx : x = s.water.basins.get b)
    (hy : y = x.gauged level clarity (x.reserved - ((List.finRange 8).map (s.undeducted b)).sum))
    (hl : x.low = false) (h : level < x.floor ∨ level < x.floor + y.reserved)
    (hv : v = { s.gauged b { y with low := true } with notices := s.notices.marked .waterLow b.val })
    (hw : w = v.endWhere (some b) (Pass.draws (asSource b)) (.cutShort .water)) (hz : z = w.lowTest b) :
    s.takeGauge b level clarity = { z with
      engine := { z.engine with
        asked := if (z.water.basins.get b).state = .ready then Table.fill 4 true else z.engine.asked } } := by
  have hlow : y.low = false := by rw [hy]; exact hl
  have hafter : y.lowAfter = true := by
    rw [Basin.lowAfter_iff, if_neg (by simp [hlow])]
    rw [show y.level = level by rw [hy]; rfl, show y.floor = x.floor by rw [hy]; rfl]
    exact h
  have hbv : v.water.basins.get b = { y with low := true } := by
    rw [hv]
    exact s.gauged_basin b _
  have ht : (s.gauged b y).lowTest b = v := by
    rw [State.lowTest_of_enters (s.gauged_basin b y).symm hlow hafter, hv]
    show ({ s with
      water := { s.water with basins := (s.water.basins.put b y).put b { y with low := true } }
      engine := { s.engine with contexts := s.rebasedContexts b }
      notices := s.notices.marked .waterLow b.val } : State) = _
    rw [Table.put_put]
    rfl
  rw [State.takeGauge_eq hx hy, ht, hbv, hl, Bool.not_false, Bool.true_and, if_pos rfl, State.cutLow_eq (by rw [hbv]) hw hz]
  generalize hr : ({ z with
      engine := { z.engine with
        asked := if (z.water.basins.get b).state = .ready then Table.fill 4 true else z.engine.asked } } : State) = r
  have hrb : r.water.basins.get b = z.water.basins.get b := by rw [← hr]
  rw [State.reportRise_eq hrb]
  have ha : (if (z.water.basins.get b).state = .ready
        ∧ (x.state ≠ .ready ∨ x.available < (z.water.basins.get b).available)
      then Table.fill 4 true else r.engine.asked) = r.engine.asked := by
    rw [← hr]
    split
    · next hc => exact (if_pos hc.1).symm
    · rfl
  rw [ha]

theorem WaterKept.and {e : Option (Fin 5)} {P Q : State → Prop} (hP : WaterKept e P) (hQ : WaterKept e Q) :
    WaterKept e fun t => P t ∧ Q t where
  same s t hw hn hs := ⟨hP.same s t hw hn hs.1, hQ.same s t hw hn hs.2⟩
  endPass s c r hs := ⟨hP.endPass s c r hs.1, hQ.endPass s c r hs.2⟩
  reserve s y v hs := ⟨hP.reserve s y v hs.1, hQ.reserve s y v hs.2⟩

/-- What a cut of a basin that has come low has done: no pass draws from it, and WATER_LOW stays pending. -/
theorem State.endWhere_low {v : State} (hl : (v.water.basins.get b).low = true)
    (hn : v.notices.pending.get NoticeKind.waterLow.place = true) :
    (v.endWhere (some b) (Pass.draws (asSource b)) (.cutShort .water)).notices.pending.get
        NoticeKind.waterLow.place = true
      ∧ (v.endWhere (some b) (Pass.draws (asSource b)) (.cutShort .water)).Clear (asSource b) fun _ => True := by
  obtain ⟨⟨-, hp⟩, hc⟩ := ((low_waterKept b).and (pending_waterKept (some b))).endWhere_clear
    (fun t ht => Water.not_ready_of_low ht.1) ⟨hl, hn⟩ (.cutShort .water)
  exact ⟨hp, hc⟩

theorem State.lowTest_pending {t : State} (h : t.notices.pending.get NoticeKind.waterLow.place = true) :
    (t.lowTest b).notices.pending.get NoticeKind.waterLow.place = true := by
  rw [State.lowTest_eq]
  dsimp only
  split
  · exact (Notices.marked_self _ _ _).1
  · exact h

/-- Settles O42: the baselines moved in one sweep over the contexts, then the low test of the gauged basin. -/
theorem gaugeSetsTheAccount : Obligations.GaugeSetsTheAccount := by
  intro s source level clarity h
  refine ⟨fun hr => exec_of_command rfl h (State.gauge_of_refused hr), fun b x reserved hb hx hl hg hres => ?_⟩
  have hsum : reserved = x.reserved - ((List.finRange 8).map (s.undeducted b)).sum := by
    rw [hres]
    refine congrArg (fun f => x.reserved - ((List.finRange 8).map f).sum) (funext fun c => ?_)
    unfold State.undeducted
    cases s.engine.contexts.get c <;> rfl
  have hex : exec (.gauge source level clarity) s
      = .next ((s.takeGauge b level.toNat clarity.toNat).commandEnd Code.gauge (some (.done, source))) :=
    exec_of_command rfl h (State.gauge_of_taken hb (by rw [← hx]; exact hl) hg)
  have hy : x.gauged level.toNat clarity.toNat reserved
      = x.gauged level.toNat clarity.toNat (x.reserved - ((List.finRange 8).map (s.undeducted b)).sum) := by
    rw [hsum]
  refine ⟨⟨_, hex, ?_, ?_⟩, fun hstay => ?_, fun hlow henters next v w hfree hother hends hv hw => ?_⟩
  · have hf := State.takeGauge_frame (s := s) b level.toNat clarity.toNat
    have hp : (s.takeGauge b level.toNat clarity.toNat).port = s.port := congrArg Frame.port hf
    rw [State.commandEnd_frame_eq rfl, hf, hp]
  · rw [(State.commandEnd_parts _ _ _).2.1]
    exact (baseClarity_waterKept none b clarity.toNat).runAttempts (s.takeGauge_baseClarity b _ _)
  · have ht := State.takeGauge_of_stays hx hy hstay rfl
    rw [ht, State.reportRise_eq (s.gauged_basin b _)] at hex
    refine ⟨_, _, hex, rfl, rfl, fun c => Table.get_tab _ c, fun m => ?_⟩
    dsimp only
    split
    · next hc => exact ⟨fun _ => .inr hc, fun _ => by simp⟩
    · next hc => exact ⟨.inl, fun h => h.resolve_right hc⟩
  · have hv' : v = { s.gauged b { x.gauged level.toNat clarity.toNat reserved with low := true } with
        notices := s.notices.marked .waterLow b.val } := hv
    have hfold : v.endWhere (some b) (Pass.draws (asSource b)) (.cutShort .water)
        = (List.finRange 8).foldl next v :=
      State.endWhere_eq v hfree (fun t c q hq hd => hother t c q hq (mt draws_iff.2 (Bool.eq_false_iff.1 hd)))
        (fun t c q hq hd => hends t c q hq (draws_iff.1 hd))
    have hvl : (v.water.basins.get b).low = true := by
      rw [hv']
      exact congrArg Basin.low (s.gauged_basin b _)
    have hvn : v.notices.pending.get NoticeKind.waterLow.place = true := by
      rw [hv']
      exact (Notices.marked_self _ _ _).1
    obtain ⟨hpend, hclear⟩ := State.endWhere_low hvl hvn
    rw [State.takeGauge_of_enters hx hy hlow henters hv' hfold.symm hw] at hex
    rw [hfold] at hpend hclear
    refine ⟨_, hex, rfl, fun c p hp hs => ?_, ?_⟩
    · refine hclear c trivial p ?_ (Fin.ext hs)
      rw [← hp, hw, State.lowTest_eq]
    · show w.notices.pending.get _ = true
      rw [hw]
      exact State.lowTest_pending hpend

end

end Sys2Proof.Machine

/-! PROOFS. ISOLATE and RESTORE (O43). -/

namespace Sys2Proof.Machine

section

variable {s t : State} {x : Fin 6} {m k : Fin 4} {b : Fin 5}

/-! ## No attempt opens a main -/

/-- A prime leaves each main as it was, or not OPEN. -/
theorem State.prime_main (ht : t.engine = s.engine) (e : Option (Fin 5)) (c : Fin 8) (p : Pass) (k : Fin 4) :
    (t.prime e c p).engine.mains.get k = s.engine.mains.get k
      ∨ ((t.prime e c p).engine.mains.get k).state ≠ .opened := by
  obtain ⟨-, hs⟩ | hs := t.prime_mains e c p <;> rw [hs, ht, Table.get_modify] <;> split
  · exact .inr (by simp)
  · exact .inl rfl
  · exact .inr (by simp [Main.shut])
  · exact .inl rfl

theorem State.attempt_main (s : State) (e : Option (Fin 5)) (m k : Fin 4) :
    (s.attempt e m).engine.mains.get k = s.engine.mains.get k
      ∨ ((s.attempt e m).engine.mains.get k).state ≠ .opened := by
  cases h : s.available m with
  | false =>
    rw [State.attempt_of_not_available e h]
    exact .inl rfl
  | true =>
    obtain ⟨c, p, -, ha⟩ | ha | ⟨c, -, ha⟩ := State.attempt_cases h e <;> rw [ha]
    · exact State.prime_main rfl e c _ k
    · exact .inl rfl
    · obtain hr | ⟨y, -, hr⟩ := s.requestAndStart_cases e m c <;> rw [hr]
      · exact .inl (by simp)
      · obtain hs | ⟨p, q, -, -, hs⟩ := ((s.recordReasons m).takeOrder y.order.pile).startPass_cases e c m y <;>
          rw [hs]
        · exact .inl (by simp)
        · exact State.prime_main (by simp) e c _ k

/-! ## The mains closed on a source (06 R131) -/

/-- No main is OPEN on the source. -/
def State.Unopened (x : Fin 6) (t : State) : Prop :=
  ∀ m, (t.engine.mains.get m).state = .opened → (t.engine.mains.get m).openSource ≠ some x

theorem State.Unopened.of_mains (h : s.Unopened x) (ht : t.engine.mains = s.engine.mains) : t.Unopened x := by
  unfold State.Unopened
  rw [ht]
  exact h

theorem State.Unopened.attempt (h : s.Unopened x) (e : Option (Fin 5)) (m : Fin 4) : (s.attempt e m).Unopened x := by
  intro k hk
  obtain he | he := s.attempt_main e m k
  · rw [he] at hk ⊢
    exact h k hk
  · exact absurd hk he

theorem State.Unopened.runAttempts (h : s.Unopened x) (e : Option (Fin 5)) : (s.runAttempts e).Unopened x :=
  State.runAttempts_inv (P := State.Unopened x) (fun _ _ ht => ht.of_mains rfl) (fun _ m ht => ht.attempt e m) h

theorem State.Unopened.commandEnd (h : s.Unopened x) (code : Byte) (a : Answer) : (s.commandEnd code a).Unopened x := by
  have hm : (s.commandEnd code a).engine.mains = (s.runAttempts none).engine.mains :=
    congrArg Engine.mains (s.commandEnd_parts code a).1
  exact (h.runAttempts none).of_mains hm

/-- One main's turn in the closing of a source. -/
def State.shutStep (x : Fin 6) (t : State) (m : Fin 4) : State :=
  if (t.engine.mains.get m).state = .opened ∧ (t.engine.mains.get m).openSource = some x then
    (t.mapMain m fun y => y.shut .closed).follow
  else t

theorem State.closeSource_eq_forEach (s : State) (x : Fin 6) :
    s.closeSource x = s.forEach (List.finRange 4) (State.shutStep x) := rfl

/-- What one turn leaves, and that it leaves its own main not OPEN on the source. -/
theorem State.shutStep_spec (x : Fin 6) (t : State) (m : Fin 4) :
    (t.shutStep x m).water = t.water ∧ (t.shutStep x m).engine.contexts = t.engine.contexts
      ∧ (∀ k, (t.shutStep x m).engine.mains.get k = t.engine.mains.get k
        ∨ ((t.shutStep x m).engine.mains.get k).state ≠ .opened)
      ∧ ¬ (((t.shutStep x m).engine.mains.get m).state = .opened
        ∧ ((t.shutStep x m).engine.mains.get m).openSource = some x) := by
  rw [State.shutStep]
  split
  · have hm : ∀ k, (t.mapMain m fun y => y.shut .closed).follow.engine.mains.get k
        = if m = k then (t.engine.mains.get m).shut .closed else t.engine.mains.get k :=
      fun k => Table.get_modify _ _ _ _
    refine ⟨rfl, rfl, fun k => ?_, ?_⟩
    · rw [hm]
      split
      · exact .inr (by simp [Main.shut])
      · exact .inl rfl
    · rw [hm, if_pos rfl]
      simp [Main.shut]
  · next h => exact ⟨rfl, rfl, fun _ => .inl rfl, h⟩

/-- The closing of a source leaves the water and the passes, and no main OPEN on the source. -/
theorem State.closeSource_spec (s : State) (x : Fin 6) :
    (s.closeSource x).water = s.water ∧ (s.closeSource x).engine.contexts = s.engine.contexts
      ∧ (s.closeSource x).Unopened x := by
  rw [State.closeSource_eq_forEach]
  have key : ∀ l : List (Fin 4), (s.forEach l (State.shutStep x)).water = s.water
      ∧ (s.forEach l (State.shutStep x)).engine.contexts = s.engine.contexts
      ∧ ∀ m ∈ l, ¬ (((s.forEach l (State.shutStep x)).engine.mains.get m).state = .opened
        ∧ ((s.forEach l (State.shutStep x)).engine.mains.get m).openSource = some x) := by
    intro l
    induction l using List.reverseRecOn with
    | nil => exact ⟨rfl, rfl, fun m hm => absurd hm (by simp)⟩
    | append_singleton l m ih =>
      unfold State.forEach at ih ⊢
      rw [List.foldl_append, List.foldl_cons, List.foldl_nil]
      generalize l.foldl (State.shutStep x) s = t at ih
      obtain ⟨hw, hc, ho⟩ := ih
      obtain ⟨hw', hc', ho', hm⟩ := State.shutStep_spec x t m
      refine ⟨hw'.trans hw, hc'.trans hc, fun k hk => ?_⟩
      rcases List.mem_append.1 hk with hk | hk
      · obtain he | he := ho' k
        · rw [he]
          exact ho k hk
        · exact fun h => he h.1
      · rw [List.mem_singleton.1 hk]
        exact hm
  obtain ⟨hw, hc, ho⟩ := key (List.finRange 4)
  exact ⟨hw, hc, fun m hm hx => ho m (List.mem_finRange m) ⟨hm, hx⟩⟩

/-- The closing as a walk over the mains whose step is known by its outcomes. -/
theorem State.closeSource_eq (s : State) {shut : State → Fin 4 → State}
    (other : ∀ w m y, y = w.engine.mains.get m → ¬ (y.state = .opened ∧ y.openSource = some x) → shut w m = w)
    (closes : ∀ (w z : State) m y, y = w.engine.mains.get m → y.state = .opened → y.openSource = some x →
      z = { w with
        engine := { w.engine with
          mains := w.engine.mains.put m { y with state := .closed, openSource := none, context := none } } } →
      shut w m = { z with
        field := { z.field with
          pins := z.pinsFollowed
          made := z.field.made ++ pinChanges z.field.pins z.pinsFollowed } }) :
    s.closeSource x = (List.finRange 4).foldl shut s := by
  rw [State.closeSource_eq_forEach]
  refine foldl_of_step (fun t m => ?_) _ s
  rw [State.shutStep]
  split
  · next h =>
    rw [closes t (t.mapMain m fun y => y.shut .closed) m _ rfl h.1 h.2 ?_]
    · rfl
    · unfold State.mapMain
      rw [Table.modify_eq_put]
      rfl
  · next h => exact (other t m _ rfl h).symm

/-! ## The two commands -/

theorem State.isolate_of_refused {source : Byte} (h : 5 < source.toNat) : s.isolate source = (s, some (.range, source)) := by
  unfold State.isolate
  rw [index?_of_le h]

theorem State.isolate_of_taken {source : Byte} (h : x.val = source.toNat) : s.isolate source
    = (if s.water.isIsolated x then s else s.isolateSource x, some (.done, source)) := by
  unfold State.isolate
  rw [index?_of_toNat_eq h.symm]

theorem State.restore_of_refused {source : Byte} (h : 5 < source.toNat) : s.restore source = (s, some (.range, source)) := by
  unfold State.restore
  rw [index?_of_le h]

theorem State.restore_of_taken {source : Byte} (h : x.val = source.toNat) : s.restore source
    = (if s.water.isIsolated x then s.restoreSource x else s, some (.done, source)) := by
  unfold State.restore
  rw [index?_of_toNat_eq h.symm]

theorem State.setIsolated_basin {v : Bool} (h : x.val = b.val) : s.setIsolated x v = { s with
    water := { s.water with
      basins := s.water.basins.put b { s.water.basins.get b with isolated := v } } } := by
  unfold State.setIsolated
  rw [asBasin_of_val h]
  dsimp only
  unfold State.mapBasin
  rw [Table.modify_eq_put]

theorem State.setIsolated_fresh (s : State) (v : Bool) : s.setIsolated 5 v = { s with
    water := { s.water with fresh := { s.water.fresh with isolated := v } } } := rfl

theorem State.setIsolated_isolated (s : State) (x : Fin 6) : (s.setIsolated x true).water.isIsolated x = true := by
  rcases source_cases x with rfl | ⟨b, hb⟩
  · rfl
  · rw [State.setIsolated_basin hb, Water.isIsolated_basin hb]
    dsimp only
    rw [Table.get_put, if_pos rfl]

/-- An ISOLATE leaves its source isolated, with no pass that draws from it and no main OPEN on it. -/
theorem State.isolateSource_spec (s : State) (x : Fin 6) :
    (s.isolateSource x).water.isIsolated x = true ∧ (s.isolateSource x).Clear x (fun _ => True)
      ∧ (s.isolateSource x).Unopened x := by
  obtain ⟨hi, hc⟩ := (isolated_waterKept none x).endWhere_clear (fun _ ht => Water.not_ready_of_isolated ht)
    (s.setIsolated_isolated x) (.cutShort .water)
  unfold State.isolateSource
  generalize (s.setIsolated x true).endWhere none (Pass.draws x) (.cutShort .water) = w at hi hc
  obtain ⟨hw, hctx, ho⟩ := w.closeSource_spec x
  exact ⟨by rw [hw]; exact hi, hc.of_contexts hctx, ho⟩

/-- A RESTORE of a basin asks for attempts exactly where the basin is then READY. -/
theorem State.restoreSource_basin {y : Basin} (hb : x.val = b.val)
    (hy : y = { s.water.basins.get b with isolated := false }) : s.restoreSource x = { s with
      water := { s.water with basins := s.water.basins.put b y }
      engine := { s.engine with
        asked := if y.low = false ∧ y.settle = none then Table.fill 4 true else s.engine.asked } } := by
  have hr : y.state = .ready ↔ y.low = false ∧ y.settle = none := by
    rw [Basin.ready_iff]
    exact ⟨fun h => h.2, fun h => ⟨by rw [hy], h⟩⟩
  have hst : (s.setIsolated x false).water.state x = y.state := by
    rw [State.setIsolated_basin hb, ← hy, Water.state, asBasin_of_val hb]
    dsimp only
    rw [Table.get_put, if_pos rfl]
  have hs : (s.setIsolated x false).water.serves x = decide (y.low = false ∧ y.settle = none) := by
    rw [Water.serves, hst]
    exact decide_eq_decide.2 hr
  unfold State.restoreSource
  dsimp only
  rw [hs, State.setIsolated_basin hb, ← hy, State.askAllIf_eq]
  split <;> simp_all

theorem State.restoreSource_fresh (s : State) : s.restoreSource 5 = { s with
    water := { s.water with fresh := { s.water.fresh with isolated := false } }
    engine := { s.engine with asked := Table.fill 4 true } } := rfl

end

theorem State.commandEnd_frame_of {s t : State} (h : t.frame = s.frame) (code : Byte) (r : Result) (x : Byte) :
    (t.commandEnd code (some (r, x))).frame = { s.frame with
      port := { s.port with
        command := code, result := r, index := x, dataOut := [], transaction := .idle, selectLeft := 30 }
      log := (t.commandEnd code (some (r, x))).field.log } := by
  have hp : t.port = s.port := congrArg Frame.port h
  rw [State.commandEnd_frame_eq rfl, h, hp]

/-- Settles O43: the ISOLATE through its walk of ends, in which an isolated source starts no pass, and its walk of
closings, after which no attempt opens a main; the RESTORE through the State that it leaves. -/
theorem isolateAndRestore : Obligations.IsolateAndRestore := by
  refine ⟨fun s source h => ⟨fun hr => exec_of_command rfl h (State.isolate_of_refused hr), fun x hx => ⟨fun hi => ?_,
    fun hi => ?_⟩⟩, fun s source h => ⟨fun hr => exec_of_command rfl h (State.restore_of_refused hr), fun b hb =>
    ⟨fun hi => ?_, fun y hi hy => ?_⟩, fun h5 => ⟨fun hi => ?_, fun hi => ?_⟩⟩⟩
  · refine exec_of_command rfl h ?_
    rw [State.isolate_of_taken hx, if_pos hi]
  · have hex : exec (.isolate source) s
        = .next ((s.isolateSource x).commandEnd Code.isolate (some (.done, source))) := by
      refine exec_of_command rfl h ?_
      rw [State.isolate_of_taken hx, if_neg (by rw [hi]; simp)]
    obtain ⟨his, hclear, hopen⟩ := s.isolateSource_spec x
    obtain ⟨hwk, hck⟩ := (isolated_waterKept none x).commandEnd_clear (fun _ ht => Water.not_ready_of_isolated ht)
      his hclear rfl Code.isolate (some (.done, source))
    have hopen' := hopen.commandEnd Code.isolate (some (.done, source))
    have hfe := State.commandEnd_frame_of (State.isolateSource_frame (s := s) x) Code.isolate .done source
    generalize ht : (s.isolateSource x).commandEnd Code.isolate (some (.done, source)) = t at hex hwk hck hopen' hfe
    refine ⟨t, hex, hfe, hwk, fun c p hc => hck c trivial p hc, hopen', ?_⟩
    · intro next shut v hfree hother hends hsame hshut hv5 hvb
      have hv : v = s.setIsolated x true := by
        rcases source_cases x with rfl | ⟨b, hb⟩
        · exact hv5 rfl
        · rw [State.setIsolated_basin hb]
          exact hvb b hb
      have hw : v.endWhere none (Pass.draws x) (.cutShort .water) = (List.finRange 8).foldl next v :=
        State.endWhere_eq v hfree
          (fun t c p hp hd => hother t c p hp (of_decide_eq_false hd))
          (fun t c p hp hd => hends t c p hp (of_decide_eq_true hd))
      rw [← hw, ← State.closeSource_eq _ hsame hshut, hv, ← ht, State.isolateSource]
  · refine exec_of_command rfl h ?_
    rw [State.restore_of_taken (x := asSource b) ((asSource_isBasin b).trans hb), Water.isIsolated_basin (asSource_isBasin b),
      if_neg (by rw [hi]; simp)]
  · refine exec_of_command rfl h ?_
    rw [State.restore_of_taken (x := asSource b) ((asSource_isBasin b).trans hb), Water.isIsolated_basin (asSource_isBasin b),
      if_pos hi, State.restoreSource_basin (asSource_isBasin b) hy]
  · refine exec_of_command rfl h ?_
    rw [State.restore_of_taken (x := 5) (by rw [h5]; rfl), Water.isIsolated_fresh, if_neg (by rw [hi]; simp)]
  · refine exec_of_command rfl h ?_
    rw [State.restore_of_taken (x := 5) (by rw [h5]; rfl), Water.isIsolated_fresh, if_pos hi, State.restoreSource_fresh]

end Sys2Proof.Machine

/-! PROOFS. HOLD and FROST (O45). -/

namespace Sys2Proof.Machine

section

variable {s t v w : State} {i : Line} {l : InputLine} {m : Fin 4} {x : Option (Fin 5)}

/-! ## A line that reads as it did (07 R134) -/

/-- The line leaves its qualifying time without a change to hand over. -/
theorem exec_qualified_of_same (h : s.live = true) (hl : l = s.field.lines.get i) (hq : l.qualify = some 0)
    (hr : l.reads = l.filtered) : exec (.qualifyingTimerExpiry i) s = .next ({ s with
      field := { s.field with lines := s.field.lines.put i { l with qualify := none } } } : State).eventEnd := by
  generalize hw : ({ s with
    field := { s.field with lines := s.field.lines.put i { l with qualify := none } } } : State) = w
  have hmw : (s.mapLine i fun x => { x with qualify := none }) = w := by
    rw [← hw, hl]
    rfl
  have hwl : w.field.lines.get i = { l with qualify := none } := by
    rw [← hw]
    exact Lines.get_put_self _ _ _
  have hsame : (w.field.lines.get i).reads = (w.field.lines.get i).filtered := by
    rw [hwl]
    exact hr
  have hqual : s.qualified i = w := by
    rw [State.qualified, hmw]
    exact if_pos hsame
  refine exec_of_event (t := s.qualified i) rfl h (if_pos (hl ▸ hq)) |>.trans ?_
  rw [hqual]

/-! ## The yard HELD (07 R140) -/

/-- No pass is live and every main is CLOSED, or FAULTED (06 R132). -/
def State.AtRest (t : State) : Prop :=
  t.NoPass ∧ ∀ m, (t.engine.mains.get m).state = .faulted ∨ (t.engine.mains.get m).state = .closed
    ∧ (t.engine.mains.get m).openSource = none ∧ (t.engine.mains.get m).context = none

theorem State.AtRest.of_same (h : s.AtRest) (hc : t.engine.contexts = s.engine.contexts)
    (hm : t.engine.mains = s.engine.mains) : t.AtRest := by
  unfold State.AtRest State.NoPass
  rw [hc, hm]
  exact h

theorem State.holdYard_mode (s : State) : s.holdYard.control.mode = .held := by
  have hf := s.holdYard_frame
  generalize s.holdYard = t at hf ⊢
  exact congrArg Frame.mode hf

theorem State.holdYard_ne (s : State) : s.holdYard.control.mode ≠ .active := by
  rw [s.holdYard_mode]
  decide

theorem State.holdYard_atRest (s : State) : s.holdYard.AtRest := by
  rw [State.holdYard_eq rfl]
  have hp := State.endWhere_noPass s.setMode_held_ne none (.cutShort .hold)
  generalize (s.setMode .held).endWhere none (fun _ => true) (.cutShort .hold) = w at hp
  refine ⟨hp, fun m => ?_⟩
  dsimp only
  rw [Table.get_tab, Main.halted]
  split
  · next h => exact .inl h
  · exact .inr ⟨rfl, rfl, rfl⟩

/-- The end of a pass leaves a FAULTED main, which no pass is primed or run on (06 R108). -/
theorem State.endPass_faulted_main (hs : s.MainLaw) (h : (s.engine.mains.get m).state = .faulted)
    (c : Fin 8) {e : PassEnd} (he : ∀ cause, e ≠ .noFlow cause) :
    (s.endPass x c e true).engine.mains.get m = s.engine.mains.get m := by
  cases hp : s.engine.contexts.get c with
  | none => rw [State.endPass_of_free hp]
  | some p =>
    have hm := s.settle_mains x p (p.finalDelivered e)
    rw [State.endPass_mains hp]
    generalize s.settle x p (p.finalDelivered e) = u at hm
    rw [← hm] at h ⊢
    by_cases hk : m = p.main
    · by_cases hq : p.state = .suspended
      · subst hk
        rw [State.mainAfterEnd_of_suspended u hq he, if_neg (by rw [h]; simp)]
      · have hrest : (s.engine.mains.get m).Resting := by
          refine (((State.mainLaw_iff s).1 hs).1 m).resolve_right ?_
          rintro ⟨_, _, -, -, hserve, -, -⟩
          rw [← hm, h] at hserve
          obtain ⟨hx, -⟩ | ⟨hx, -⟩ := hserve <;> exact absurd hx (by decide)
        exact absurd hk.symm (hs.main_ne hrest hp hq)
    · exact u.mainAfterEnd_other_main p e hk

/-- Outside ACTIVE the ends leave a FAULTED main. -/
theorem State.endWhere_faulted_main (hs : s.MainsAgree) (hm : s.control.mode ≠ .active)
    (h : (s.engine.mains.get m).state = .faulted) (p : Pass → Bool) {e : PassEnd} (he : ∀ cause, e ≠ .noFlow cause) :
    (s.endWhere x p e).engine.mains.get m = s.engine.mains.get m := by
  rw [State.endWhere_eq_forEach]
  refine (State.forEach_inv s (fun t => t.control.mode ≠ .active ∧ t.MainsAgree
    ∧ t.engine.mains.get m = s.engine.mains.get m) allContexts (State.endStep x p e) (fun t c _ ht => ?_)
    ⟨hm, hs, rfl⟩).2.2
  obtain ⟨hmode, hagree, hmain⟩ := ht
  refine ⟨State.endStep_not_active hmode x p e c, ?_⟩
  obtain ⟨-, hstep⟩ | ⟨q, -, -, hstep⟩ := State.endStep_cases x p e t c
  · rw [hstep]
    exact ⟨hagree, hmain⟩
  · rw [hstep, State.runAttempts_mains_of_not_active (State.endPass_not_active hmode x c e true)]
    refine ⟨(State.mainsAgree_attempts x).runAttempts (hagree.endPass_of x c e he true), ?_⟩
    rw [State.endPass_faulted_main ((State.mainsAgree_iff t).1 hagree) (by rw [hmain]; exact h) c he, hmain]

theorem State.holdYard_faulted_main (hs : s.MainLaw) (h : (s.engine.mains.get m).state = .faulted) :
    s.holdYard.engine.mains.get m = s.engine.mains.get m := by
  have hw : ((s.setMode .held).endWhere none (fun _ => true) (.cutShort .hold)).engine.mains.get m
      = s.engine.mains.get m :=
    State.endWhere_faulted_main (s := s.setMode .held) ((State.mainsAgree_iff _).2 hs) s.setMode_held_ne h _
      (fun _ => by simp)
  rw [State.holdYard_eq rfl]
  generalize (s.setMode .held).endWhere none (fun _ => true) (.cutShort .hold) = w at hw
  dsimp only
  rw [Table.get_tab, hw, Main.halted, if_pos h]

/-- The change to HELD as a walk over the contexts, then the mains. -/
theorem State.holdYard_eq_walk {next : State → Fin 8 → State}
    (free : ∀ v c, v.engine.contexts.get c = none → next v c = v)
    (ends : ∀ v c p, v.engine.contexts.get c = some p →
      next v c = (v.endPass none c (.cutShort .hold) true).runAttempts none)
    (hw : w = (List.finRange 8).foldl next (s.setMode .held)) :
    s.holdYard = { w with
      engine := { w.engine with mains := Table.tab fun m => (w.engine.mains.get m).halted } } := by
  refine State.holdYard_eq ?_
  rw [hw]
  exact State.endWhere_eq _ free (fun _ _ _ _ h => absurd h (by simp)) fun v c p hp _ => ends v c p hp

/-- Outside ACTIVE the end of an event or a command leaves passes, mains and notices. -/
theorem State.eventEnd_of_not_active (h : s.control.mode ≠ .active) :
    s.eventEnd.engine.contexts = s.engine.contexts ∧ s.eventEnd.engine.mains = s.engine.mains
      ∧ s.eventEnd.notices = s.notices := by
  obtain ⟨turns, ht⟩ := State.runAttempts_of_not_active h none
  have he := s.eventEnd_eq rfl
  rw [he, ht]
  exact ⟨rfl, rfl, rfl⟩

theorem State.commandEnd_of_not_active (h : s.control.mode ≠ .active) (code : Byte) (a : Answer) :
    (s.commandEnd code a).engine.contexts = s.engine.contexts
      ∧ (s.commandEnd code a).engine.mains = s.engine.mains := by
  obtain ⟨hen, -, -⟩ := s.commandEnd_parts code a
  obtain ⟨turns, ht⟩ := State.runAttempts_of_not_active h none
  rw [hen, ht]
  exact ⟨rfl, rfl⟩

theorem State.commandEnd_frame_held (h : t.frame = { s.frame with mode := .held }) (code : Byte) (r : Result)
    (x : Byte) : (t.commandEnd code (some (r, x))).frame = { s.frame with
      port := { s.port with
        command := code, result := r, index := x, dataOut := [], transaction := .idle, selectLeft := 30 }
      mode := .held
      log := (t.commandEnd code (some (r, x))).field.log } := by
  have hp : t.port = s.port := congrArg Frame.port h
  rw [State.commandEnd_frame_eq rfl, h, hp]

/-! ## FROST (07 R141) -/

theorem State.frostHold_of_active (h : s.control.mode = .active) : s.frostHold = s.holdYard.raise .mode 0 := if_pos h

theorem State.frostHold_of_other (h : s.control.mode ≠ .active) : s.frostHold = s := if_neg h

/-- What the delivery of FROST in ACTIVE leaves, before the end of the event. -/
theorem State.frostHold_spec (hm : s.control.mode = .active) (ht : t = (s.frostHold.runAttempts none).eventEnd) :
    t.frame = { s.frame with mode := .held, port := t.port, log := t.field.log }
      ∧ t.AtRest ∧ t.engine.mains = s.holdYard.engine.mains
      ∧ t.notices.pending.get NoticeKind.mode.place = true ∧ t.notices.subjects.get NoticeKind.mode.place = 0 := by
  have hf := s.holdYard_frame
  have hr := s.holdYard_atRest
  have hne := s.holdYard_ne
  rw [State.frostHold_of_active hm] at ht
  generalize s.holdYard = y at hf hr hne ht ⊢
  have hye : y.raise .mode 0 = { y with notices := y.notices.marked .mode 0 } := rfl
  rw [hye] at ht
  generalize hz : ({ y with notices := y.notices.marked .mode 0 } : State) = z at ht
  have hzf : z.frame = y.frame := by rw [← hz]; rfl
  have hzn : z.control.mode ≠ .active := by rw [← hz]; exact hne
  have hze : z.engine = y.engine := by rw [← hz]
  have hzo : z.notices = y.notices.marked .mode 0 := by rw [← hz]
  obtain ⟨turns, hrun⟩ := State.runAttempts_of_not_active hzn none
  have htf := (z.runAttempts none).eventEnd_frame
  rw [State.runAttempts_frame, hzf, hf, ← ht] at htf
  obtain ⟨hc, hmains, hno⟩ := State.eventEnd_of_not_active (s := z.runAttempts none) (by rw [hrun]; exact hzn)
  rw [← ht, hrun] at hc hmains hno
  dsimp only at hc hmains hno
  rw [hze] at hc hmains
  rw [hzo] at hno
  refine ⟨htf, hr.of_same hc hmains, hmains, ?_⟩
  rw [hno]
  exact Notices.marked_self _ _ _

end

/-- Settles O45: the change to HELD by its walk of ends, which starts no pass; FROST by the same change. -/
theorem holdAndFrost : Obligations.HoldAndFrost := by
  refine ⟨fun s h => ⟨fun hm => ?_, fun hm => ?_, fun hm => ?_, fun hm => ?_⟩,
    fun s hl hq => ⟨fun hfil hraw hm => ?_, fun hno hnone => ?_⟩⟩
  · have hex : exec .hold s = .next (s.holdYard.commandEnd Code.hold (some (.done, 0))) := by
      refine exec_of_command rfl h ?_
      rw [State.hold, hm]
    obtain ⟨hc, hmains⟩ := State.commandEnd_of_not_active s.holdYard_ne Code.hold (some (.done, 0))
    have hrest := s.holdYard_atRest.of_same hc hmains
    have hframe := State.commandEnd_frame_held s.holdYard_frame Code.hold .done 0
    generalize ht : s.holdYard.commandEnd Code.hold (some (.done, 0)) = t at hex hmains hrest hframe
    refine ⟨t, hex, hframe, hrest.1, hrest.2, fun hs m hf => ?_, fun next w hfree hends hw => ?_⟩
    · rw [hmains]
      exact State.holdYard_faulted_main hs hf
    · rw [← ht, State.holdYard_eq_walk hfree hends hw]
      rfl
  · exact exec_of_command rfl h (by rw [State.hold, hm])
  · exact exec_of_command rfl h (by rw [State.hold, hm])
  · exact exec_of_command rfl h (by rw [State.hold, hm])
  · have hreads : s.field.lines.frost.reads = true := by
      rw [InputLine.reads, hraw]
      exact beq_self_eq_true _
    generalize hv : ({ s with
      field := { s.field with
        lines := s.field.lines.put .frost { s.field.lines.frost with filtered := true, qualify := none } } } :
          State) = v
    have hex := exec_qualified (i := .frost) (v := v) hl rfl hq
      (by rw [show (s.field.lines.get .frost) = s.field.lines.frost from rfl, hreads, hfil]; simp) (by
        rw [← hv, show (s.field.lines.get .frost) = s.field.lines.frost from rfl, hreads])
    rw [show (s.field.lines.get .frost) = s.field.lines.frost from rfl, hreads] at hex
    have hhand : v.handTo true .frost = v.frostHold := rfl
    rw [hhand] at hex
    have hvm : v.control.mode = .active := by rw [← hv]; exact hm
    have hve : v.engine = s.engine := by rw [← hv]
    have hvf : v.frame = { s.frame with
        lines := s.field.lines.put .frost { s.field.lines.frost with filtered := true, qualify := none } } := by
      rw [← hv]
      rfl
    generalize ht : (v.frostHold.runAttempts none).eventEnd = t at hex
    obtain ⟨hframe, hrest, hmains, hpend, hsub⟩ := State.frostHold_spec hvm ht.symm
    rw [hvf] at hframe
    refine ⟨t, hex, hframe, hrest.1, hrest.2, fun hs m hf => ?_, hpend, hsub, fun next w hfree hends hw => ?_⟩
    · have hvs : v.MainLaw := hs.congr (congrArg Engine.mains hve) (congrArg Engine.contexts hve)
      rw [hmains, State.holdYard_faulted_main hvs (by rw [hve]; exact hf), hve]
    · have hlines : t.field.lines = v.field.lines := by
        rw [show t.field.lines = _ from congrArg Frame.lines hframe, ← hv]
      have hstart : ({ s with
          field := { s.field with lines := t.field.lines }
          control := { s.control with mode := .held } } : State) = v.setMode .held := by
        rw [hlines, ← hv]
        rfl
      rw [← ht, State.frostHold_of_active hvm, State.holdYard_eq_walk hfree hends (hw.trans (by rw [hstart]))]
      rfl
  · by_cases hr : s.field.lines.frost.reads = s.field.lines.frost.filtered
    · rw [exec_qualified_of_same (i := .frost) hl rfl hq hr, State.eventEnd_of_noneAsked (by exact hnone), hr]
      rfl
    · have hex := exec_qualified (i := .frost) hl rfl hq hr rfl
      generalize hv : ({ s with
        field := { s.field with
          lines := s.field.lines.put .frost { s.field.lines.get .frost with
            filtered := (s.field.lines.get .frost).reads, qualify := none } } } : State) = v at hex
      have hvn : v.NoneAsked := by rw [← hv]; exact hnone
      have hhand : v.handTo (s.field.lines.get .frost).reads .frost = v := by
        unfold State.handTo
        dsimp only
        split
        · next ha =>
          refine State.frostHold_of_other ?_
          rw [← hv]
          exact hno (eq_of_beq ha)
        · rfl
      rw [hhand, State.runAttempts_of_noneAsked none hvn, State.eventEnd_of_noneAsked hvn, ← hv] at hex
      exact hex

end Sys2Proof.Machine

/-! PROOFS. DRAIN and the drain timers (O46). -/

namespace Sys2Proof.Machine

section

variable {s t w : State} {m : Fin 4} {x : Option (Fin 5)}

/-! ## What an end leaves of a main that a change to DRAINING keeps (06 R128, R132) -/

/-- A main after the end of a pass is the same once it drains. -/
theorem State.mainAfterEnd_draining (s : State) (p : Pass) {e : PassEnd} (he : ∀ cause, e ≠ .noFlow cause) (m : Fin 4) :
    ((s.mainAfterEnd p e).engine.mains.get m).draining = (s.engine.mains.get m).draining := by
  by_cases hm : m = p.main
  · subst hm
    by_cases hp : p.state = .suspended
    · rw [State.mainAfterEnd_of_suspended s hp he]
      split
      · rw [State.mapMain_at]
        rfl
      · rfl
    · rw [State.mainAfterEnd_of_other s hp he]
      split
      · rw [State.mapMain_at]
        rfl
      · rw [State.mapMain_at]
        rfl
  · rw [State.mainAfterEnd_other_main s p e hm]

theorem State.endPass_main_draining (s : State) (c : Fin 8) {e : PassEnd} (he : ∀ cause, e ≠ .noFlow cause) (m : Fin 4) :
    ((s.endPass x c e true).engine.mains.get m).draining = (s.engine.mains.get m).draining := by
  cases hp : s.engine.contexts.get c with
  | none => rw [State.endPass_of_free hp]
  | some p => rw [State.endPass_mains hp, State.mainAfterEnd_draining _ p he, State.settle_mains]

theorem State.endWhere_main_draining (h : s.control.mode ≠ .active) (p : Pass → Bool) {e : PassEnd}
    (he : ∀ cause, e ≠ .noFlow cause) (m : Fin 4) :
    ((s.endWhere x p e).engine.mains.get m).draining = (s.engine.mains.get m).draining := by
  rw [State.endWhere_eq_forEach]
  refine (State.forEach_inv s (fun t => t.control.mode ≠ .active
    ∧ (t.engine.mains.get m).draining = (s.engine.mains.get m).draining) allContexts (State.endStep x p e)
    (fun t c _ ht => ?_) ⟨h, rfl⟩).2
  obtain ⟨hmode, hmain⟩ := ht
  refine ⟨State.endStep_not_active hmode x p e c, ?_⟩
  obtain ⟨-, hstep⟩ | ⟨q, -, -, hstep⟩ := State.endStep_cases x p e t c
  · rw [hstep]
    exact hmain
  · rw [hstep, State.runAttempts_mains_of_not_active (State.endPass_not_active hmode x c e true),
      State.endPass_main_draining t c he]
    exact hmain

/-! ## The change to DRAINING (07 R142) -/

theorem State.drainYard_frame (s : State) : s.drainYard.frame = { s.frame with
    mode := .draining
    drainTimers := Table.tab fun m => some (60 * (s.engine.mains.get m).drainTime) } := by
  have hf := State.endWhere_frame (s.setMode .draining) none (fun _ => true) (.cutShort .drain)
  have hd := fun m => State.endWhere_main_draining (x := none) s.setMode_draining_ne (fun _ => true)
    (e := .cutShort .drain) (fun _ => by simp) m
  rw [State.drainYard_eq rfl]
  generalize (s.setMode .draining).endWhere none (fun _ => true) (.cutShort .drain) = w at hf hd
  have ht : ∀ m, (w.engine.mains.get m).drainTime = (s.engine.mains.get m).drainTime := by
    intro m
    have h := congrArg Main.drainTime (hd m)
    exact h
  have hw : ({ w.frame with drainTimers := Table.tab fun m => some (60 * (w.engine.mains.get m).drainTime) } : Frame)
      = { s.frame with
          mode := .draining
          drainTimers := Table.tab fun m => some (60 * (s.engine.mains.get m).drainTime) } := by
    simp only [ht]
    rw [hf]
    rfl
  exact hw

theorem State.drainYard_mode (s : State) : s.drainYard.control.mode = .draining := by
  have hf := s.drainYard_frame
  generalize s.drainYard = t at hf ⊢
  exact congrArg Frame.mode hf

theorem State.drainYard_ne (s : State) : s.drainYard.control.mode ≠ .active := by
  rw [s.drainYard_mode]
  decide

/-- What a change to DRAINING leaves: no pass, no order, and every main DRAINING. -/
theorem State.drainYard_spec (s : State) : s.drainYard.NoPass ∧ s.drainYard.queue = []
    ∧ ∀ m, s.drainYard.engine.mains.get m = (s.engine.mains.get m).draining := by
  generalize hw : (s.setMode .draining).endWhere none (fun _ => true) (.cutShort .drain) = w
  have hp : w.NoPass := by
    rw [← hw]
    exact State.endWhere_noPass s.setMode_draining_ne none (.cutShort .drain)
  have hd : ∀ m, (w.engine.mains.get m).draining = (s.engine.mains.get m).draining := by
    rw [← hw]
    exact State.endWhere_main_draining s.setMode_draining_ne _ (fun _ => by simp)
  have hy := State.drainYard_eq hw
  generalize s.drainYard = y at hy ⊢
  rw [hy]
  refine ⟨fun c => hp c, rfl, fun m => ?_⟩
  dsimp only
  rw [Table.get_tab]
  exact hd m

theorem State.drainYard_eq_walk {next : State → Fin 8 → State}
    (free : ∀ v c, v.engine.contexts.get c = none → next v c = v)
    (ends : ∀ v c p, v.engine.contexts.get c = some p →
      next v c = (v.endPass none c (.cutShort .drain) true).runAttempts none)
    (hw : w = (List.finRange 8).foldl next (s.setMode .draining)) :
    s.drainYard = { w with
      queue := []
      watch := { w.watch with
        living := Table.tab fun i => if w.hasOrder i then { w.watch.living.get i with carried := false }
          else w.watch.living.get i }
      engine := { w.engine with mains := Table.tab fun m => (w.engine.mains.get m).draining }
      control := { w.control with
        drainTimers := Table.tab fun m => some (60 * (w.engine.mains.get m).drainTime) } } := by
  refine State.drainYard_eq ?_
  rw [hw]
  exact State.endWhere_eq _ free (fun _ _ _ _ h => absurd h (by simp)) fun v c p hp _ => ends v c p hp

/-- Outside ACTIVE the end of a command leaves the queue and the mode's control. -/
theorem State.commandEnd_queue_of_not_active (h : s.control.mode ≠ .active) (code : Byte) (a : Answer) :
    (s.commandEnd code a).queue = s.queue ∧ (s.commandEnd code a).control = s.control := by
  obtain ⟨turns, ht⟩ := State.runAttempts_of_not_active h none
  rw [s.commandEnd_eq code a rfl, ht]
  exact ⟨rfl, rfl⟩

theorem State.commandEnd_frame_drained {timers : Table 4 (Option Nat)}
    (h : t.frame = { s.frame with mode := .draining, drainTimers := timers }) (code : Byte) (r : Result)
    (x : Byte) : (t.commandEnd code (some (r, x))).frame = { s.frame with
      port := { s.port with
        command := code, result := r, index := x, dataOut := [], transaction := .idle, selectLeft := 30 }
      mode := .draining, drainTimers := timers
      log := (t.commandEnd code (some (r, x))).field.log } := by
  have hp : t.port = s.port := congrArg Frame.port h
  rw [State.commandEnd_frame_eq rfl, h, hp]

/-! ## A drain timer (07 R143) -/

theorem Engine.allDrained_iff (e : Engine) : e.allDrained = true ↔ ∀ m, (e.mains.get m).state = .drained := by
  unfold Engine.allDrained Table.all
  rw [List.all_eq_true]
  exact ⟨fun h m => of_decide_eq_true (h m (List.mem_finRange m)), fun h m _ => decide_eq_true (h m)⟩

/-- The state with one main drained. -/
def State.mainDrained (s : State) (m : Fin 4) : State := { s with
  control := { s.control with drainTimers := s.control.drainTimers.put m none }
  engine := { s.engine with mains := s.engine.mains.put m { s.engine.mains.get m with state := .drained } } }

theorem State.drained_eq (s : State) (m : Fin 4) : s.drained m =
    if (s.mainDrained m).engine.allDrained then ((s.mainDrained m).setMode .drained).raise .mode 0
    else s.mainDrained m := by
  have hm : ({ s with control := { s.control with
      drainTimers := s.control.drainTimers.put m none } } : State).mapMain m (fun x => { x with state := .drained })
      = s.mainDrained m := by
    unfold State.mapMain
    rw [Table.modify_eq_put]
    rfl
  unfold State.drained
  dsimp only
  rw [hm]

theorem State.mainDrained_allDrained (s : State) (m : Fin 4) : (s.mainDrained m).engine.allDrained = true
    ↔ ∀ n, n ≠ m → (s.engine.mains.get n).state = .drained := by
  have hn : ∀ n, ((s.mainDrained m).engine.mains.get n).state
      = if m = n then .drained else (s.engine.mains.get n).state := by
    intro n
    unfold State.mainDrained
    dsimp only
    rw [Table.get_put]
    split
    · next h => subst h; rfl
    · rfl
  rw [Engine.allDrained_iff]
  refine forall_congr' fun n => ?_
  rw [hn]
  by_cases h : m = n
  · simp [h]
  · simp [h, Ne.symm h]

end

/-- Settles O46: the change to DRAINING by its walk of ends, which starts no pass; the timer through the test that
every main is drained. -/
theorem drainAndItsTimers : Obligations.DrainAndItsTimers := by
  refine ⟨fun s h => ⟨fun hm => ?_, fun hm => ?_⟩, fun s t m hl ht => ⟨fun h0 => ⟨fun hn => ?_, fun hn => ?_⟩,
    fun h0 => ?_⟩⟩
  · have hex : exec .drain s = .next (s.drainYard.commandEnd Code.drain (some (.done, 0))) := by
      refine exec_of_command rfl h ?_
      rw [State.drain]
      rcases hm with hm | hm <;> rw [hm]
    obtain ⟨hc, hmains⟩ := State.commandEnd_of_not_active s.drainYard_ne Code.drain (some (.done, 0))
    obtain ⟨hq, hcontrol⟩ := State.commandEnd_queue_of_not_active s.drainYard_ne Code.drain (some (.done, 0))
    obtain ⟨hp, hqueue, hdrain⟩ := s.drainYard_spec
    have hframe := State.commandEnd_frame_drained s.drainYard_frame Code.drain .done 0
    generalize ht : s.drainYard.commandEnd Code.drain (some (.done, 0)) = t at hex hc hmains hq hcontrol hframe
    refine ⟨t, hex, hframe, fun c => ?_, hq.trans hqueue, fun m => ?_, fun next w hfree hends hw => ?_⟩
    · rw [hc]
      exact hp c
    · rw [hmains]
      exact hdrain m
    · have hy := State.drainYard_eq_walk hfree hends hw
      rw [hmains, hcontrol, hy, ← ht, hy]
  · refine exec_of_command rfl h ?_
    rw [State.drain]
    rcases hm with hm | hm <;> rw [hm]
  · obtain ⟨n, hnm, hne⟩ := hn
    refine exec_of_event rfl hl ((if_pos h0).trans ?_)
    rw [State.drained_eq, if_neg (mt (s.mainDrained_allDrained m).1 fun h => hne (h n hnm)), ht]
    rfl
  · refine exec_of_event rfl hl ((if_pos h0).trans ?_)
    rw [State.drained_eq, if_pos ((s.mainDrained_allDrained m).2 hn), ht]
    rfl
  · exact exec_of_event rfl hl (if_neg h0)

end Sys2Proof.Machine

/-! PROOFS. RESUME (O47). -/

namespace Sys2Proof.Machine

section

variable {s t : State} {i j : Fin 48} {p : Pile} {l : Living} {w : WindBasis}

/-! ## A sweep of re-evaluations (03 R60) -/

/-- What a re-evaluation leaves of a pile's living part: moisture and deferral, and the basis of the wind. -/
def State.Reevaluated (t : State) (i : Fin 48) (l : Living) (w : WindBasis) : Prop :=
  (t.watch.living.get i).moisture = l.moisture ∧ (t.watch.living.get i).basis = w.kind
    ∧ (t.watch.living.get i).deferral = l.deferral

/-- One pile's turn in a sweep of re-evaluations. -/
def State.reevaluateStep (q : Pile → Bool) (t : State) (i : Fin 48) : State :=
  match t.geometry.piles.get i with
  | some x => if q x then t.reevaluate i true else t
  | none => t

theorem State.reevaluateWhere_eq_forEach (s : State) (q : Pile → Bool) :
    s.reevaluateWhere q = s.forEach (List.finRange 48) (State.reevaluateStep q) := rfl

theorem State.reevaluateStep_frame (t : State) (q : Pile → Bool) (i : Fin 48) :
    (t.reevaluateStep q i).frame = t.frame := by
  unfold State.reevaluateStep
  split
  · split
    · exact t.reevaluate_frame i true
    · rfl
  · rfl

/-- A turn leaves every other pile's living part, but for its Carried and Unqueued. -/
theorem State.reevaluateStep_other (t : State) (q : Pile → Bool) (hj : j ≠ i) :
    (t.watch.living.get j).Apart ((t.reevaluateStep q i).watch.living.get j) := by
  unfold State.reevaluateStep
  split
  · next x hx =>
    split
    · exact (State.evaluate_other hx _ false true hj).1
    · exact .refl _
  · exact .refl _

theorem State.reevaluate_self (h : t.geometry.piles.get i = some p) :
    (t.reevaluate i true).Reevaluated i (t.watch.living.get i) (t.windBasis t.clock.now) := by
  obtain ⟨hm, -, hb, -, -, -, -, hd, -⟩ := State.evaluate_living (s := t) (counts := false) (offers := true)
    (w := t.windBasis t.clock.now) h rfl rfl rfl rfl rfl
  exact ⟨hm, hb, hd.trans (if_neg fun hc => absurd hc.1 (by simp))⟩

theorem State.Reevaluated.of_apart (h : s.Reevaluated i l w)
    (ha : (s.watch.living.get i).Apart (t.watch.living.get i)) : t.Reevaluated i l w := by
  obtain ⟨hm, hb, hd⟩ := h
  unfold Living.Apart at ha
  unfold State.Reevaluated
  rw [ha]
  exact ⟨hm, hb, hd⟩

/-- The wind basis depends on the horizon and the wind model. -/
theorem State.windBasis_of_frame (h : t.frame = s.frame) (time : Stamp) : t.windBasis time = s.windBasis time := by
  have hz : t.horizon = s.horizon := congrArg Frame.horizon h
  have hm : t.watch.model = s.watch.model := congrArg Frame.model h
  unfold State.windBasis
  rw [hz, hm]

/-- A sweep over every pile re-evaluates each present one with the basis that held before it. -/
theorem State.reevaluateWhere_present (h : s.geometry.piles.get i = some p) :
    (s.reevaluateWhere fun _ => true).Reevaluated i (s.watch.living.get i) (s.windBasis s.clock.now) := by
  obtain ⟨l₁, l₂, hl⟩ := List.append_of_mem (List.mem_finRange i)
  have hnd : (l₁ ++ i :: l₂).Nodup := hl ▸ List.nodup_finRange 48
  obtain ⟨-, hn₂, hd⟩ := List.nodup_append.1 hnd
  obtain ⟨hi₂, -⟩ := List.nodup_cons.1 hn₂
  rw [State.reevaluateWhere_eq_forEach, hl, State.forEach, List.foldl_append, List.foldl_cons]
  refine State.forEach_inv _ (fun t => t.Reevaluated i _ _) l₂ _
    (fun t j hj ht => ht.of_apart (t.reevaluateStep_other _ fun hij => hi₂ (hij ▸ hj))) ?_
  obtain ⟨hf, ha⟩ := s.forEach_inv (s.Untouched i) l₁ (State.reevaluateStep fun _ => true)
    (fun t j hj ht => ⟨(t.reevaluateStep_frame _ j).trans ht.1,
      ht.2.trans (t.reevaluateStep_other _ fun hij => hd j hj i List.mem_cons_self hij.symm)⟩) ⟨rfl, .refl _⟩
  unfold State.forEach at hf ha
  generalize l₁.foldl _ s = u at hf ha
  have hp : u.geometry.piles.get i = some p := by
    rw [show u.geometry = s.geometry from congrArg Frame.geometry hf]
    exact h
  have hstep : u.reevaluateStep (fun _ => true) i = u.reevaluate i true := by
    unfold State.reevaluateStep
    rw [hp]
    rfl
  obtain ⟨hm, hb, hdf⟩ := State.reevaluate_self hp
  rw [State.windBasis_of_frame hf, show u.clock = s.clock from congrArg Frame.clock hf] at hb
  unfold Living.Apart at ha
  rw [ha] at hm hdf
  rw [hstep]
  exact ⟨hm, hb, hdf⟩

/-! ## RESUME (07 R144, R145) -/

/-- The state in which the re-evaluations of a RESUME from DRAINED are made. -/
def State.reopened (s : State) : State := { s with
  control := { s.control with mode := .active }
  engine := { s.engine with
    mains := Table.tab fun m => { s.engine.mains.get m with
      state := .closed, openSource := none, context := none, fault := none } } }

theorem State.resumeDrained_eq (s : State) :
    s.resumeDrained = (s.reopened.reevaluateWhere fun _ => true).askAll := by
  unfold State.resumeDrained
  rw [State.closeMains_eq]
  rfl

theorem State.resume_of_frost (hm : s.control.mode = .held ∨ s.control.mode = .drained)
    (hf : s.field.lines.frost.filtered = true) : s.resume = (s, some (.frost, 0)) := by
  unfold State.resume
  rcases hm with hm | hm <;> rw [hm] <;> exact if_pos hf

theorem State.resume_of_held (hm : s.control.mode = .held) (hf : s.field.lines.frost.filtered = false) :
    s.resume = (s.resumeHeld, some (.done, 0)) := by
  unfold State.resume
  rw [hm]
  exact if_neg (by rw [hf]; simp)

theorem State.resume_of_drained (hm : s.control.mode = .drained) (hf : s.field.lines.frost.filtered = false) :
    s.resume = (s.resumeDrained, some (.done, 0)) := by
  unfold State.resume
  rw [hm]
  exact if_neg (by rw [hf]; simp)

end

/-- Settles O47: RESUME from DRAINED through its sweep of re-evaluations, which touches Pile Watch and the queue
alone. -/
theorem resumeReturnsToActive : Obligations.ResumeReturnsToActive := by
  refine fun s h => ⟨fun hm => exec_of_command rfl h (by rw [State.resume, hm]),
    fun hm => exec_of_command rfl h (by rw [State.resume, hm]),
    fun hm hf => exec_of_command rfl h (State.resume_of_frost hm hf),
    fun hm hf => exec_of_command rfl h (State.resume_of_held hm hf),
    fun hm hf next habs hpres w hw => ?_⟩
  have hex : exec .resume s = .next (s.resumeDrained.commandEnd Code.resume (some (.done, 0))) :=
    exec_of_command rfl h (State.resume_of_drained hm hf)
  have hwalk : (s.reopened.reevaluateWhere fun _ => true) = w := by
    rw [hw]
    exact State.reevaluateWhere_eq habs (fun _ _ _ _ hq => absurd hq (by simp)) fun t i x hx _ => hpres t i x hx
  have hframe := s.reopened.reevaluateWhere_frame fun _ => true
  have hbeyond := s.reopened.reevaluateWhere_beyondWatch fun _ => true
  have hpile := fun i p => State.reevaluateWhere_present (s := s.reopened) (i := i) (p := p)
  rw [s.resumeDrained_eq] at hex
  rw [hwalk] at hex hframe hbeyond hpile
  have heng := State.beyondWatch_engine hbeyond
  have hwater := congrArg State.water hbeyond
  refine ⟨w.askAll, hex, rfl, hframe, fun m => ?_, rfl, ?_, hwater, fun i p hp => ?_⟩
  · show w.engine.mains.get m = _
    rw [heng]
    exact Table.get_tab _ m
  · show w.engine.contexts = _
    rw [heng]
    rfl
  · obtain ⟨hmo, hb, hd⟩ := hpile i p hp
    exact ⟨hmo, hb, hd⟩

end Sys2Proof.Machine

/-! PROOFS. The writes of the Nonvolatile Store: FIX, CLOSE and TAG (O49). -/

namespace Sys2Proof.Machine

section

variable {s : State} {b : Byte} {i : Fin 16} {e : Exclusion}

theorem State.fix_of_refused (h : 15 < b.toNat) : s.fix b = (s, some (.range, b)) := by
  unfold State.fix
  rw [index?_of_le h]

theorem State.fix_of_absent (h : b.toNat = i.val) (he : s.geometry.exclusions.get i = none) :
    s.fix b = (s, some (.noSuch, b)) := by
  unfold State.fix
  rw [index?_of_toNat_eq h]
  dsimp only
  rw [he]

/-- FIX on an exclusion that stands: CLOSED, then DONE where it is already fixed, then the write. -/
theorem State.fix_of_present (h : b.toNat = i.val) (he : s.geometry.exclusions.get i = some e) :
    s.fix b = if s.store.closed then (s, some (.closed, b))
      else if e.fixed then (s, some (.done, b)) else (s.beginWrite (.fix i), none) := by
  unfold State.fix
  rw [index?_of_toNat_eq h]
  dsimp only
  rw [he]

theorem State.endFix_of_present (he : s.geometry.exclusions.get i = some e) : s.endFix i = { s with
    store := { s.store with
      entries := s.store.entries.put i (some { bed := e.bed, start := e.start, length := e.length })
      write := none }
    geometry := { s.geometry with
      exclusions := s.geometry.exclusions.put i (some { e with fixed := true, revision := e.revision + 1 }) } } := by
  unfold State.endFix
  rw [he]
  rfl

theorem State.busy_of_write (h : s.store.write.isSome = true) : s.busy = true := by
  unfold State.busy
  rw [h]
  simp

end

/-- Settles O49: each command by its tests in order, each end by the write in progress. -/
theorem storeWrites : Obligations.StoreWrites := by
  refine ⟨fun s exclusion data h begun hbegun => ?_, fun s hl => ?_⟩
  · have hb : ∀ w, begun w = s.beginWrite w := fun w => by rw [hbegun]; rfl
    refine ⟨fun hr => exec_of_command rfl h (State.fix_of_refused hr), fun i hi => ⟨fun hn =>
      exec_of_command rfl h (State.fix_of_absent hi hn), fun e he => ⟨fun hc => ?_, fun hc hf => ?_, fun hc hf => ?_⟩⟩,
      fun hc => exec_of_command rfl h (if_pos hc), fun hc => ?_, fun ht => exec_of_command rfl h (if_pos ht),
      fun ht => ?_, fun w => ?_⟩
    · exact exec_of_command rfl h ((State.fix_of_present hi he).trans (if_pos hc))
    · refine exec_of_command rfl h ((State.fix_of_present hi he).trans ?_)
      rw [hc, hf]
      rfl
    · refine exec_of_command rfl h ((State.fix_of_present hi he).trans ?_)
      rw [hc, hf, hb]
      rfl
    · refine exec_of_command rfl h ?_
      rw [State.closeStore, hc, hb]
      rfl
    · refine exec_of_command rfl h ?_
      rw [State.tag, ht, hb]
      rfl
    · rw [hb]
      exact State.busy_of_write rfl
  · refine ⟨fun i e hw he => ?_, fun hw => ?_, fun hw => ?_, fun hw => ?_, fun bytes hw => ?_, fun hw => ?_⟩
    · refine exec_of_event rfl hl ?_
      dsimp only
      rw [hw]
      simp only [State.endFix_of_present he]
      rfl
    · refine exec_of_event rfl hl ?_
      split
      · next i hi => exact absurd hi (hw i)
      · rfl
    · refine exec_of_event rfl hl ?_
      dsimp only
      rw [hw]
      rfl
    · refine exec_of_event rfl hl ?_
      split
      · next hi => exact absurd hi hw
      · rfl
    · refine exec_of_event rfl hl ?_
      dsimp only
      rw [hw]
      rfl
    · refine exec_of_event rfl hl ?_
      split
      · next bytes hi => exact absurd hi (hw bytes)
      · rfl

end Sys2Proof.Machine

/-! PROOFS. Resets and the initialisation (O50). -/

namespace Sys2Proof.Machine

/-- What a reset leaves of the state, over the state right after power-on. -/
theorem State.resetTo_afterReset (s : State) (clock : Clock) (horizon : Horizon) (startup : Startup) :
    s.resetTo (State.afterReset s.pending clock horizon s.field.lines s.store startup s.engine.turns)
      = { State.reset with
        pending := s.pending, clock, horizon, startup
        geometry := { State.reset.geometry with exclusions := s.store.rebuild }
        engine := { State.reset.engine with turns := s.engine.turns }
        field :=
          { lines := s.field.lines.reset, pins := State.reset.field.pins
            log := pinChanges s.field.pins State.reset.field.pins, made := [] }
        store := { s.store with write := none } } := rfl

theorem initialising_of_powered (resetLow : Bool) :
    initialising true resetLow = if resetLow then none else some 1 := by
  cases resetLow <;> rfl

theorem initialising_of_low (powered : Bool) : initialising powered true = none := by
  cases powered <;> rfl

theorem initialising_of_unpowered (resetLow : Bool) : initialising false resetLow = none := rfl

theorem exec_resetLineRelease (s : State) : exec .resetLineRelease s = .next ((if s.startup.resetLow then
    { s with
      startup := { s.startup with
        resetLow := false, initialising := initialising s.startup.powered false } } else s).conclude) := rfl

/-- Settles O50: every reset is one reset with its own clock, horizon and start-up state. -/
theorem resetsAndInitialisation : Obligations.ResetsAndInitialisation := by
  refine ⟨fun s left hleft => ?_, fun s => ⟨fun hl hi => ?_, fun hl hi => ?_, fun hr => ?_, fun hr => ?_⟩⟩
  · have hto : ∀ clock horizon startup,
        s.resetTo (State.afterReset s.pending clock horizon s.field.lines s.store startup s.engine.turns)
          = left clock horizon startup := fun clock horizon startup => by
      rw [hleft, State.resetTo_afterReset]
      rfl
    refine ⟨?_, ?_, ?_, fun h => ?_⟩
    · rw [← initialising_of_powered, ← hto]
      rfl
    · rw [← initialising_of_low s.startup.powered, ← hto]
      rfl
    · rw [← initialising_of_unpowered s.startup.resetLow, ← hto]
      rfl
    · obtain ⟨hl, hb⟩ := h
      have hreset : exec .reset s = .next (if s.live then
          if s.busy then s.refuseBusy Code.reset 0 else s.resetCommand else s.conclude) := rfl
      rw [hreset, hl, hb, ← hto]
      rfl
  · exact exec_of_event rfl hl (if_pos hi)
  · exact exec_of_event rfl hl (if_neg hi)
  · rw [exec_resetLineRelease, if_pos hr, initialising, Bool.not_false, Bool.and_true]
  · rw [exec_resetLineRelease, if_neg (by rw [hr]; simp)]

end Sys2Proof.Machine

/-! PROOFS. The filters of the input lines (O51). -/

namespace Sys2Proof.Machine

section

variable {s : State} {i : Line} {l : InputLine} {high : Bool}

/-! ## A line replaced -/

/-- The state with a line replaced. -/
def State.setLine (s : State) (i : Line) (x : InputLine) : State :=
  { s with field := { s.field with lines := s.field.lines.put i x } }

theorem State.setLine_get (s : State) (i : Line) (x : InputLine) : (s.setLine i x).field.lines.get i = x :=
  Lines.get_put_self _ _ _

theorem State.setLine_setLine (s : State) (i : Line) (x y : InputLine) : (s.setLine i x).setLine i y = s.setLine i y := by
  have h : (s.field.lines.put i x).put i y = s.field.lines.put i y := by
    cases i <;> simp [Lines.put]
  unfold State.setLine
  dsimp only
  rw [h]

theorem State.mapLine_eq (hl : s.field.lines.get i = l) (f : InputLine → InputLine) :
    s.mapLine i f = s.setLine i (f l) := by
  subst hl
  rfl

theorem State.setLine_mapLine (s : State) (i : Line) (x : InputLine) (f : InputLine → InputLine) :
    (s.setLine i x).mapLine i f = s.setLine i (f x) := by
  rw [State.mapLine_eq (s.setLine_get i x), State.setLine_setLine]

/-! ## The state a line reads (07 R134) -/

theorem State.takeLine_of_same (hl : s.field.lines.get i = l) (h : l.reads = l.filtered) : s.takeLine i = s := by
  subst hl
  exact if_pos h

theorem State.takeLine_of_new (hl : s.field.lines.get i = l) (h : l.reads ≠ l.filtered) :
    s.takeLine i = s.deliver i l.reads := by
  subst hl
  exact if_neg h

theorem State.qualified_eq (hl : s.field.lines.get i = l) :
    s.qualified i = (s.setLine i { l with qualify := none }).takeLine i := by
  unfold State.qualified
  rw [State.mapLine_eq hl]

/-- A delivery sets its line, and leaves the rest of the lines. -/
theorem State.deliver_lines (s : State) (i : Line) (active : Bool) : (s.deliver i active).field.lines
    = s.field.lines.put i { s.field.lines.get i with filtered := active } := by
  have h := State.deliver_frame s i active rfl
  generalize s.deliver i active = t at h ⊢
  exact congrArg Frame.lines h

/-- A line whose qualifying time has run out reads as it then filters. -/
theorem State.qualified_line (hl : s.field.lines.get i = l) :
    (s.qualified i).field.lines.get i = { l with filtered := l.reads, qualify := none } := by
  rw [State.qualified_eq hl]
  have hget := s.setLine_get i { l with qualify := none }
  by_cases h : l.reads = l.filtered
  · rw [State.takeLine_of_same hget h, State.setLine_get, h]
  · rw [State.takeLine_of_new hget h, State.deliver_lines, Lines.get_put_self, State.setLine_get]
    rfl

/-! ## A raw change (07 R134) -/

theorem State.rawChange_of_same (hl : s.field.lines.get i = l) (h : l.raw = high) : s.rawChange i high = s := by
  subst hl
  exact if_pos h

/-- A raw change of a line whose qualifying time has not run out. -/
theorem State.rawChange_of_change (hl : s.field.lines.get i = l) (h : l.raw ≠ high) (hq : l.qualify ≠ some 0) :
    s.rawChange i high =
      if l.retake.isSome then s.setLine i { l with raw := high }
      else if (high == l.activeHigh) = l.filtered then s.setLine i { l with raw := high, qualify := none }
      else if l.filter = .zero then (s.setLine i { l with raw := high }).takeLine i
      else s.setLine i { l with raw := high, qualify := some l.filter.units } := by
  subst hl
  unfold State.rawChange State.takeQualified
  rw [if_neg h, if_neg hq]
  dsimp only
  rw [State.mapLine_eq rfl, State.setLine_mapLine, State.setLine_mapLine]

/-- A raw change of a line whose qualifying time has run out takes the earlier change first. -/
theorem State.rawChange_of_due (hl : s.field.lines.get i = l) (h : l.raw ≠ high) (hq : l.qualify = some 0) :
    s.rawChange i high = (s.qualified i).rawChange i high := by
  have hline := State.qualified_line hl
  have hraw : ((s.qualified i).field.lines.get i).raw ≠ high := by
    rw [hline]
    exact h
  have hqual : ((s.qualified i).field.lines.get i).qualify ≠ some 0 := by
    rw [hline]
    simp
  have hu : (s.qualified i).takeQualified i = s.qualified i := if_neg hqual
  subst hl
  unfold State.rawChange
  rw [if_neg h, if_neg hraw, hu, State.takeQualified, if_pos hq]

theorem exec_rawLineChange (h : s.live = true) (i : Line) (high : Bool) :
    exec (.rawLineChange i high) s = .next (s.rawChange i high).eventEnd := by
  have hx : exec (.rawLineChange i high) s = .next (if s.live then (s.rawChange i high).eventEnd
      else (s.mapLine i fun x => { x with raw := high }).conclude) := rfl
  rw [hx, if_pos h]

/-- A delivery leaves the part live. -/
theorem State.deliver_live (s : State) (i : Line) (active : Bool) : (s.deliver i active).live = s.live := by
  have h := State.deliver_frame s i active rfl
  generalize s.deliver i active = t at h ⊢
  have hs : t.startup = s.startup := congrArg Frame.startup h
  unfold State.live
  rw [hs]

end

/-- Settles O51: a raw change and an expiry by what the line then reads, a delivery by its owner. -/
theorem lineFilters : Obligations.LineFilters := by
  refine ⟨fun s i high l hl hline after hafter => ?_, fun s i l hl hline after hafter => ?_,
    fun s bed active after hafter => ?_⟩
  · have ha : ∀ x, after x = s.setLine i x := fun x => by rw [hafter]; rfl
    have hex := exec_rawLineChange hl i high
    refine ⟨fun h => ?_, fun h hq hr => ?_, fun h hq hr hf => ?_, fun h hq hr hf hz => ?_, fun h hq hr hf hz => ?_,
      fun h hq u hsame hnew => ?_⟩
    · rw [hex, State.rawChange_of_same hline.symm h]
    · rw [hex, State.rawChange_of_change hline.symm h hq, if_pos hr, ha]
    · rw [hex, State.rawChange_of_change hline.symm h hq, if_neg (by rw [hr]; simp), if_pos hf, ha]
    · rw [hex, State.rawChange_of_change hline.symm h hq, if_neg (by rw [hr]; simp), if_neg hf, if_neg hz, ha]
      refine congrArg (fun n => Host.Outcome.next (s.setLine i { l with raw := high, qualify := some n }).eventEnd) ?_
      cases l.filter <;> rfl
    · rw [hex, State.rawChange_of_change hline.symm h hq, if_neg (by rw [hr]; simp), if_neg hf, if_pos hz, ha,
        State.takeLine_of_new (s.setLine_get i { l with raw := high }) hf]
      rfl
    · have hu : u = s.qualified i := by
        rw [State.qualified_eq hline.symm, ← ha]
        have hget : (after { l with qualify := none }).field.lines.get i = { l with qualify := none } := by
          rw [ha]
          exact s.setLine_get i _
        by_cases hr : (l.raw == l.activeHigh) = l.filtered
        · rw [hsame hr, State.takeLine_of_same hget hr]
        · rw [hnew hr, State.takeLine_of_new hget hr]
          rfl
      have hlive : u.live = true := by
        rw [hu, State.qualified_eq hline.symm]
        have hget := s.setLine_get i { l with qualify := none }
        by_cases hr : l.reads = l.filtered
        · rw [State.takeLine_of_same hget hr]
          exact hl
        · rw [State.takeLine_of_new hget hr, State.deliver_live]
          exact hl
      refine ⟨?_, ?_⟩
      · rw [hex, exec_rawLineChange hlive, hu, State.rawChange_of_due hline.symm h hq]
      · rw [hu]
        exact State.qualified_line hline.symm
  · have ha : ∀ x, after x = s.setLine i x := fun x => by rw [hafter]; rfl
    refine ⟨fun hq => ⟨fun hr => ?_, fun hr => ?_⟩, fun hq => ?_, fun hq => ⟨fun hr => ?_, fun hr => ?_⟩, fun hq => ?_⟩
    · refine exec_of_event rfl hl ((if_pos (hline ▸ hq)).trans ?_)
      rw [State.qualified_eq hline.symm, State.takeLine_of_same (s.setLine_get i { l with qualify := none }) hr, ha]
    · refine exec_of_event rfl hl ((if_pos (hline ▸ hq)).trans ?_)
      rw [State.qualified_eq hline.symm, State.takeLine_of_new (s.setLine_get i { l with qualify := none }) hr, ha]
      rfl
    · exact exec_of_event rfl hl (if_neg (hline ▸ hq))
    · refine exec_of_event rfl hl ((if_pos (hline ▸ hq)).trans ?_)
      rw [State.mapLine_eq hline.symm, State.takeLine_of_same (s.setLine_get i { l with retake := none }) hr, ha]
    · refine exec_of_event rfl hl ((if_pos (hline ▸ hq)).trans ?_)
      rw [State.mapLine_eq hline.symm, State.takeLine_of_new (s.setLine_get i { l with retake := none }) hr, ha]
      rfl
    · exact exec_of_event rfl hl (if_neg (hline ▸ hq))
  · rw [hafter]
    exact ⟨State.deliver_eq s _ active rfl, State.deliver_eq s _ active rfl, State.deliver_eq s _ active rfl⟩

end Sys2Proof.Machine

/-! PROOFS. The repeats of every cannon (01 R10): the part of the laws of the sources (O60) that is a law of the
records. -/

namespace Sys2Proof.Machine

section

variable {s t : State}

/-- The Repeats field of a CANNON record. -/
def Repeats (v : List Nat) : Prop := 1 ≤ fieldValue v 8

theorem repeats_of_cannonValues {c : Cannon} (h : 1 ≤ c.repeats) : Repeats (cannonValues c) := h

theorem repeats_of_default : Repeats (defaultValues .cannon) := le_refl 1

theorem cannonFrom_repeats {v : List Nat} (h : Repeats v) (r : Word16) : 1 ≤ (cannonFrom v r).repeats := h

/-- A buffer that holds a CANNON record holds its Repeats. -/
theorem State.RepeatLaw.of_holds (hs : s.RepeatLaw) {v : List Nat} (h : s.Holds .cannon v) : Repeats v := by
  obtain ⟨k, b, hb, hc, rfl⟩ := h
  exact hs.2 k b hb hc

/-- What STAGE takes of a cannon has its Repeats, live or default. -/
theorem State.RepeatLaw.stagedOf (hs : s.RepeatLaw) (i : Nat) : Repeats (s.stagedOf .cannon i).values := by
  show Repeats (((s.geometry.cannons.get (Fin.ofNat 24 i)).map cannonValues).getD (defaultValues .cannon))
  cases hc : s.geometry.cannons.get (Fin.ofNat 24 i) with
  | none => exact repeats_of_default
  | some c => exact repeats_of_cannonValues (hs.1 _ c hc)

/-- The eighth field of a CANNON record is in its range where it is 1 or more. -/
theorem repeats_of_range {i n : Nat} {f : FieldSpec} (hf : (layout .cannon i)[7]? = some f)
    (hr : f.range.holds n = true) : 1 ≤ n := by
  cases hf
  simp only [hostField, Range.holds, Bool.and_eq_true, decide_eq_true_eq] at hr
  exact hr.1

theorem State.RepeatLaw.buffer (hs : s.RepeatLaw) (h : s.BufferStep t) : t.RepeatLaw := by
  refine ⟨fun i c hc => ?_, fun k y hy hcls => ?_⟩
  · rw [h.eq] at hc
    exact hs.1 i c hc
  · obtain ⟨i, he⟩ | ⟨j, b, hb, hbc, -, hv⟩ := h.value hy 7
    · rw [hcls] at he
      rw [he]
      exact hs.stagedOf i
    · rw [hcls] at hbc
      obtain hv | ⟨f, hf, hr⟩ := hv
      · show 1 ≤ y.values.getD 7 0
        rw [hv]
        exact hs.2 j b hb hbc
      · rw [hbc] at hf
        exact repeats_of_range hf hr

theorem State.RepeatLaw.of_same (hs : s.RepeatLaw) (hc : t.geometry.cannons = s.geometry.cannons)
    (hb : t.staging = s.staging) : t.RepeatLaw := by
  unfold State.RepeatLaw
  rw [hc, hb]
  exact hs

theorem State.RepeatLaw.putCannon (hs : s.RepeatLaw) (i : Fin 24) {o : Option Cannon}
    (ho : ∀ c, o = some c → 1 ≤ c.repeats) (hc : t.geometry.cannons = s.geometry.cannons.put i o)
    (hb : t.staging = s.staging) : t.RepeatLaw := by
  refine ⟨fun j c hj => ?_, hb ▸ hs.2⟩
  rw [hc, Table.get_put] at hj
  split at hj
  · exact ho c hj
  · exact hs.1 j c hj

/-- Every effect keeps the repeats of the cannons, live and staged (01 R10). -/
theorem repeatLaw_keptByRecords : KeptByRecords State.RepeatLaw where
  congr s t h hs := hs.of_same (congrArg (fun r : Records => r.geometry.cannons) h) (congrArg Records.staging h)
  time s t h hs := by rw [h.eq]; exact hs
  stored s t h hs := by rw [h.eq]; exact hs
  buffer s t h hs := hs.buffer h
  place s t h hs := by
    cases h with
    | bed | retireExclusion => exact hs.of_same rfl rfl
    | cannon i v r hv ht =>
      refine hs.putCannon i (fun c hc => ?_) rfl rfl
      rw [← Option.some.inj hc]
      exact cannonFrom_repeats (hs.of_holds hv) r
    | retireCannon i => exact hs.putCannon i (by simp) rfl rfl
  placePile _ _ _ _ hs := hs.of_same rfl rfl
  removePile _ _ hs := hs.of_same rfl rfl
  setExclusion _ _ _ _ _ hs := hs.of_same rfl rfl
  resetWhole _ _ _ _ := by simp [State.RepeatLaw, State.resetWhole, State.resetTo, State.afterReset]
  resetCommand _ _ := by simp [State.RepeatLaw, State.resetCommand, State.resetTo, State.afterReset]

end

end Sys2Proof.Machine

/-! PROOFS. The accounts of the sources (04 R69 to R73): what each operation on the water does to Reserved and to the
law of a basin. -/

namespace Sys2Proof.Machine

section

variable {s t : State} {w : Water} {x z : Fin 6} {b : Fin 5} {y y' : Basin} {v : Nat} {cut out : Prop}
  {g i : Option (Fin 5)}

/-! ## The law of a basin, operation by operation -/

/-- The law of a basin, but for its reservation while a GAUGE (`cut`) or an ISOLATE (`out`) ends its passes. -/
structure Basin.Sound (cut out : Prop) (y : Basin) : Prop where
  fits : y.level ≤ y.capacity
  covers : y.low = false → y.floor + y.reserved ≤ y.level
  low : ¬ cut → y.low = true → y.reserved = 0
  isolated : ¬ out → y.isolated = true → y.reserved = 0

theorem Basin.law_iff_sound (hc : ¬ cut) (ho : ¬ out) : y.Law ↔ y.Sound cut out :=
  ⟨fun ⟨h1, h2, h3⟩ => ⟨h1, h2, fun _ h => h3 (.inl h), fun _ h => h3 (.inr h)⟩,
    fun h => ⟨h.fits, h.covers, fun h' => h'.elim (h.low hc) (h.isolated ho)⟩⟩

/-- What the law of a basin speaks of. -/
def Basin.account (y : Basin) : Basin := { y with
  restoreMargin := 0, settleTime := 0, baseClarity := 0, clarity := 0, settle := none, spilled := 0, revision := 0 }

theorem Basin.Sound.congr (h : y.Sound cut out) (ha : y'.account = y.account) : y'.Sound cut out := by
  have hf : ∀ {β : Type} (f : Basin → β), f y'.account = f y.account := fun f => congrArg f ha
  have hlevel : y'.level = y.level := hf Basin.level
  have hcap : y'.capacity = y.capacity := hf Basin.capacity
  have hlow : y'.low = y.low := hf Basin.low
  have hfloor : y'.floor = y.floor := hf Basin.floor
  have hres : y'.reserved = y.reserved := hf Basin.reserved
  have hiso : y'.isolated = y.isolated := hf Basin.isolated
  refine ⟨?_, ?_, ?_, ?_⟩
  · rw [hlevel, hcap]; exact h.fits
  · rw [hlow, hfloor, hres, hlevel]; exact h.covers
  · rw [hlow, hres]; exact h.low
  · rw [hiso, hres]; exact h.isolated

theorem Basin.stir_account (y : Basin) : y.stir.account = y.account := by
  unfold Basin.stir Basin.startSettle
  split <;> rfl

theorem Basin.Sound.drawn (h : y.Sound cut out) (hv : v ≤ y.reserved) : (y.drawn v).Sound cut out := by
  refine ⟨(Nat.sub_le _ _).trans h.fits, fun hl => ?_, fun hc hl => ?_, fun ho hi => ?_⟩
  · have := h.covers hl
    show y.floor + (y.reserved - v) ≤ y.level - v
    omega
  · show y.reserved - v = 0
    rw [h.low hc hl, Nat.zero_sub]
  · show y.reserved - v = 0
    rw [h.isolated ho hi, Nat.zero_sub]

theorem Basin.Sound.released (h : y.Sound cut out) (v : Nat) : (y.released v).Sound cut out := by
  refine ⟨h.fits, fun hl => ?_, fun hc hl => ?_, fun ho hi => ?_⟩
  · have := h.covers hl
    show y.floor + (y.reserved - v) ≤ y.level
    omega
  · show y.reserved - v = 0
    rw [h.low hc hl, Nat.zero_sub]
  · show y.reserved - v = 0
    rw [h.isolated ho hi, Nat.zero_sub]

theorem Basin.Sound.filled (h : y.Sound cut out) (v : Nat) : (y.filled v).Sound cut out := by
  unfold Basin.filled
  split
  · next hv => exact ⟨hv, fun hl => (h.covers hl).trans (Nat.le_add_right _ _), h.low, h.isolated⟩
  · exact ⟨le_refl _, fun hl => (h.covers hl).trans h.fits, h.low, h.isolated⟩

/-- The low test of a basin that holds a reservation only where it covers it. -/
theorem Basin.tested_sound (hl : y.level ≤ y.capacity)
    (hr : y.reserved = 0 ∨ (y.low = false ∧ y.floor + y.reserved ≤ y.level))
    (hi : ¬ out → y.isolated = true → y.reserved = 0) : y.tested.Sound cut out := by
  have hlow := y.lowAfter_iff
  refine ⟨hl, fun hn => ?_, fun _ hn => ?_, hi⟩
  · have hn' : ¬ y.lowAfter = true := by rw [show y.lowAfter = false from hn]; simp
    rw [hlow] at hn'
    show y.floor + y.reserved ≤ y.level
    split at hn'
    · next h =>
      have h0 := hr.resolve_right fun hf => absurd (hf.1.symm.trans h) (by simp)
      omega
    · omega
  · show y.reserved = 0
    refine hr.resolve_right fun hf => ?_
    have hn' := hlow.1 hn
    rw [if_neg (by rw [hf.1]; simp)] at hn'
    omega

theorem Basin.Sound.tested (h : y.Sound cut out) (hc : ¬ cut) : y.tested.Sound cut out := by
  refine Basin.tested_sound h.fits ?_ h.isolated
  cases hl : y.low with
  | true => exact .inl (h.low hc hl)
  | false => exact .inr ⟨rfl, h.covers hl⟩

/-! ## Reserved, source by source -/

theorem Water.reserved_basin (h : IsBasin x b) : w.reserved x = (w.basins.get b).reserved := by
  rw [Water.reserved, asBasin_of_val h]

theorem Water.reserved_fresh (w : Water) : w.reserved 5 = w.fresh.reserved := rfl

theorem State.mapBasin_basin (s : State) (b d : Fin 5) (f : Basin → Basin) :
    (s.mapBasin b f).water.basins.get d = if b = d then f (s.water.basins.get b) else s.water.basins.get d :=
  Table.get_modify _ _ _ _

theorem State.mapBasin_reserved {f : Basin → Basin} (hf : (f (s.water.basins.get b)).reserved = (s.water.basins.get b).reserved)
    (x : Fin 6) : (s.mapBasin b f).water.reserved x = s.water.reserved x := by
  rcases source_cases x with rfl | ⟨d, hd⟩
  · rfl
  · rw [Water.reserved_basin hd, Water.reserved_basin hd, State.mapBasin_basin]
    split
    · next h => rw [← h]; exact hf
    · rfl

/-- A source's Reserved changed changes no other's. -/
theorem State.mapReserved_reserved (s : State) (x : Fin 6) (f : Nat → Nat) (z : Fin 6) :
    (s.mapReserved x f).water.reserved z = if x = z then f (s.water.reserved x) else s.water.reserved z := by
  rcases source_cases x with rfl | ⟨b, hb⟩ <;> rcases source_cases z with rfl | ⟨d, hd⟩
  · rfl
  · have hne : (5 : Fin 6) ≠ z := by
      rintro rfl
      exact not_isBasin_five hd
    rw [if_neg hne, Water.reserved_basin hd, Water.reserved_basin hd]
    rfl
  · have hne : x ≠ 5 := by
      rintro rfl
      exact not_isBasin_five hb
    rw [if_neg hne, State.mapReserved, asBasin_of_val hb]
    rfl
  · rw [Water.reserved_basin hd, Water.reserved_basin hd, Water.reserved_basin hb, State.mapReserved,
      asBasin_of_val hb]
    dsimp only
    rw [State.mapBasin_basin]
    by_cases h : b = d
    · subst h
      rw [if_pos rfl, if_pos (Fin.ext (hb.trans hd.symm))]
    · rw [if_neg h, if_neg fun hx => h (isBasin_unique hb (by rw [hx]; exact hd))]

theorem State.release_water (s : State) (x : Fin 6) (v : Nat) :
    (s.release x v).water = (s.mapReserved x (· - v)).water := State.askAllIf_water _ _

theorem State.release_reserved (s : State) (x : Fin 6) (v : Nat) (z : Fin 6) :
    (s.release x v).water.reserved z = if x = z then s.water.reserved x - v else s.water.reserved z := by
  rw [State.release_water, State.mapReserved_reserved]

/-- A deduction lowers Reserved as a release does. -/
theorem State.deduct_reserved (s : State) (x : Fin 6) (v : Nat) (z : Fin 6) :
    (s.deduct x v).water.reserved z = if x = z then s.water.reserved x - v else s.water.reserved z := by
  rw [← State.mapReserved_reserved s x (· - v) z]
  rcases source_cases x with rfl | ⟨b, hb⟩ <;> rcases source_cases z with rfl | ⟨d, hd⟩
  · rfl
  · rw [Water.reserved_basin hd, Water.reserved_basin hd]
    rfl
  · rw [State.deduct, State.mapReserved, asBasin_of_val hb]
    rfl
  · rw [Water.reserved_basin hd, Water.reserved_basin hd, State.deduct, State.mapReserved, asBasin_of_val hb]
    dsimp only
    rw [State.mapBasin_basin, State.mapBasin_basin]
    split <;> rfl

theorem State.lowTest_water (s : State) (b : Fin 5) : (s.lowTest b).water = (s.mapBasin b Basin.tested).water := by
  unfold State.lowTest
  dsimp only
  split <;> rfl

theorem State.lowTest_reserved (s : State) (b : Fin 5) (x : Fin 6) :
    (s.lowTest b).water.reserved x = s.water.reserved x := by
  rw [State.lowTest_water]
  exact State.mapBasin_reserved rfl x

theorem State.lowTestUnless_reserved (s : State) (e : Option (Fin 5)) (z x : Fin 6) :
    (s.lowTestUnless e z).water.reserved x = s.water.reserved x := by
  unfold State.lowTestUnless
  split
  · split
    · rfl
    · exact s.lowTest_reserved _ x
  · rfl

theorem Basin.filled_reserved (y : Basin) (v : Nat) : (y.filled v).reserved = y.reserved := by
  unfold Basin.filled
  split <;> rfl

theorem State.addLevel_water (s : State) (b : Fin 5) (v : Nat) :
    (s.addLevel b v).water = (s.mapBasin b fun y => y.filled v).water := by
  rw [State.addLevel_eq]
  unfold State.mapBasin
  rw [Table.modify_eq_put]

theorem State.addRunoff_water (s : State) (b : Fin 5) (v : Nat) :
    (s.addRunoff b v).water = (s.mapBasin b fun y => (y.filled v).stir).water := by
  rw [State.addRunoff_eq]
  unfold State.mapBasin
  rw [Table.modify_eq_put]

theorem Basin.stir_reserved (y : Basin) : y.stir.reserved = y.reserved := by
  unfold Basin.stir Basin.startSettle
  split <;> rfl

theorem State.addRunoff_reserved (s : State) (b : Fin 5) (v : Nat) (x : Fin 6) :
    (s.addRunoff b v).water.reserved x = s.water.reserved x := by
  rw [State.addRunoff_water]
  refine State.mapBasin_reserved ?_ x
  rw [Basin.stir_reserved, Basin.filled_reserved]

/-- A settlement lowers its source's Reserved by what the pass still held of it (04 R73). -/
theorem State.settle_reserved (s : State) (e : Option (Fin 5)) (p : Pass) (v : Nat) (x : Fin 6) :
    (s.settle e p v).water.reserved x = if p.source = x
      then s.water.reserved x - (v - p.deducted) - (p.planned - v) else s.water.reserved x := by
  have hc : (s.charged p v).water.reserved x = if p.source = x
      then s.water.reserved x - (v - p.deducted) - (p.planned - v) else s.water.reserved x := by
    rw [State.charged, State.release_reserved, State.deduct_reserved, if_pos rfl, State.deduct_reserved]
    split
    · next h => rw [h]
    · rfl
  rw [← hc]
  cases hr : s.runoff p.pile v with
  | none =>
    rw [State.settle_of_dry hr]
    split
    · exact State.lowTestUnless_reserved _ _ _ x
    · rfl
  | some a =>
    obtain ⟨d, n⟩ := a
    rw [State.settle_of_runoff hr, State.lowTestUnless_reserved, State.watered]
    split
    · rw [State.lowTestUnless_reserved, State.addRunoff_reserved]
    · exact State.addRunoff_reserved _ _ _ x

/-! ## The law of the sources, operation by operation -/

/-- The laws of the sources, but for the basin `g` whose passes a GAUGE cuts and the basin `i` whose passes an
ISOLATE cuts. -/
structure Water.Sound (g i : Option (Fin 5)) (w : Water) : Prop where
  basins : ∀ b, (w.basins.get b).Sound (g = some b) (i = some b)
  fresh : w.fresh.used + w.fresh.reserved ≤ w.fresh.today

theorem Water.Sound.mapBasin (h : s.water.Sound g i) {f : Basin → Basin}
    (hf : (f (s.water.basins.get b)).Sound (g = some b) (i = some b)) : (s.mapBasin b f).water.Sound g i := by
  refine ⟨fun d => ?_, h.fresh⟩
  rw [State.mapBasin_basin]
  split
  · next hd => exact hd ▸ hf
  · exact h.basins d

theorem Water.Sound.lowTest (h : s.water.Sound g i) (hb : g ≠ some b) : (s.lowTest b).water.Sound g i := by
  rw [State.lowTest_water]
  exact h.mapBasin ((h.basins b).tested hb)

theorem Water.Sound.lowTestUnless (h : s.water.Sound g i) (x : Fin 6) : (s.lowTestUnless g x).water.Sound g i := by
  unfold State.lowTestUnless
  split
  · split
    · exact h
    · next hb => exact h.lowTest hb
  · exact h

theorem Water.Sound.deduct (h : s.water.Sound g i) (hv : v ≤ s.water.reserved x) : (s.deduct x v).water.Sound g i := by
  rcases source_cases x with rfl | ⟨b, hb⟩
  · rw [Water.reserved_fresh] at hv
    have hf := h.fresh
    refine ⟨h.basins, ?_⟩
    show s.water.fresh.used + v + (s.water.fresh.reserved - v) ≤ s.water.fresh.today
    omega
  · rw [Water.reserved_basin hb] at hv
    rw [State.deduct, asBasin_of_val hb]
    exact h.mapBasin ((h.basins b).drawn hv)

theorem Water.Sound.release (h : s.water.Sound g i) (x : Fin 6) (v : Nat) : (s.release x v).water.Sound g i := by
  rw [State.release_water]
  rcases source_cases x with rfl | ⟨b, hb⟩
  · have hf := h.fresh
    refine ⟨h.basins, ?_⟩
    show s.water.fresh.used + (s.water.fresh.reserved - v) ≤ s.water.fresh.today
    omega
  · rw [State.mapReserved, asBasin_of_val hb]
    exact h.mapBasin ((h.basins b).released v)

/-- A reservation that a choice of source admits (04 R75, R76). -/
theorem Water.Sound.reserve (h : s.water.Sound g i) {m : Fin 4} {limit rank : Nat}
    (hc : s.chooseSource m limit rank v = some x) : (s.reserve x v).water.Sound g i := by
  obtain ⟨b, rfl, ha⟩ | ⟨rfl, ha⟩ := State.chooseSource_spec hc
  · obtain ⟨-, hready, -, hv⟩ := State.basinAdmissible_iff.1 ha
    obtain ⟨hiso, hlow, -⟩ := (Basin.ready_iff _).1 hready
    rw [State.reserve, State.mapReserved, asBasin_of_val (asSource_isBasin b)]
    have hcov := (h.basins b).covers hlow
    refine h.mapBasin ⟨(h.basins b).fits, fun _ => ?_, fun _ hl => absurd (hlow.symm.trans hl) (by simp),
      fun _ hi => absurd (hiso.symm.trans hi) (by simp)⟩
    unfold Basin.available at hv
    dsimp only
    omega
  · obtain ⟨-, -, hv, -⟩ := State.freshAdmissible_iff.1 ha
    have hf := h.fresh
    refine ⟨h.basins, ?_⟩
    unfold Fresh.available at hv
    show s.water.fresh.used + (s.water.fresh.reserved + v) ≤ s.water.fresh.today
    omega

theorem Water.Sound.addRunoff (h : s.water.Sound g i) (b : Fin 5) (v : Nat) : (s.addRunoff b v).water.Sound g i := by
  rw [State.addRunoff_water]
  exact h.mapBasin (((h.basins b).filled v).congr (Basin.stir_account _))

theorem Water.Sound.settle (h : s.water.Sound g i) {p : Pass} (hv : v - p.deducted ≤ s.water.reserved p.source) :
    (s.settle g p v).water.Sound g i := by
  have hc : (s.charged p v).water.Sound g i := (h.deduct hv).release _ _
  cases hr : s.runoff p.pile v with
  | none =>
    rw [State.settle_of_dry hr]
    split
    · exact hc.lowTestUnless _
    · exact hc
  | some a =>
    obtain ⟨d, n⟩ := a
    rw [State.settle_of_runoff hr]
    refine Water.Sound.lowTestUnless ?_ _
    unfold State.watered
    split
    · exact (hc.addRunoff d n).lowTestUnless _
    · exact hc.addRunoff d n

end

end Sys2Proof.Machine

/-! PROOFS. The accounts of the passes: what they hold of each source is what it has reserved, through pass ends and
attempts (04 R70 to R73, 06 R113). -/

namespace Sys2Proof.Machine

section

variable {s t u : State} {x : Fin 6} {c : Fin 8} {p q : Pass} {g i g' i' : Option (Fin 5)} {o : Option Pass}

/-! ## What the passes hold (04 R70) -/

/-- What a context holds of a source. -/
def heldIn (x : Fin 6) : Option Pass → Nat
  | some p => if p.source = x then p.planned - p.deducted else 0
  | none => 0

theorem heldIn_some (x : Fin 6) (p : Pass) :
    heldIn x (some p) = if p.source = x then p.planned - p.deducted else 0 := rfl

theorem State.heldAt_eq_sum (s : State) (x : Fin 6) :
    s.heldAt x = ∑ c, heldIn x (s.engine.contexts.get c) := by
  rw [Fin.sum_univ_def]
  unfold State.heldAt
  refine congrArg (fun f => ((List.finRange 8).map f).sum) (funext fun c => ?_)
  unfold heldIn
  cases s.engine.contexts.get c <;> rfl

theorem State.heldIn_le (s : State) (x : Fin 6) (c : Fin 8) : heldIn x (s.engine.contexts.get c) ≤ s.heldAt x := by
  rw [State.heldAt_eq_sum]
  exact Finset.single_le_sum (f := fun c => heldIn x (s.engine.contexts.get c)) (fun _ _ => Nat.zero_le _)
    (Finset.mem_univ c)

/-- One context moved moves what is held by what it holds. -/
theorem State.heldAt_put (h : t.engine.contexts = s.engine.contexts.put c o) (x : Fin 6) :
    t.heldAt x + heldIn x (s.engine.contexts.get c) = s.heldAt x + heldIn x o := by
  have hc : t.engine.contexts.get c = o := by rw [h, Table.get_put, if_pos rfl]
  have hrest : ∑ d ∈ Finset.univ.erase c, heldIn x (t.engine.contexts.get d)
      = ∑ d ∈ Finset.univ.erase c, heldIn x (s.engine.contexts.get d) :=
    Finset.sum_congr rfl fun d hd => by rw [h, Table.get_put, if_neg (Ne.symm (Finset.ne_of_mem_erase hd))]
  rw [State.heldAt_eq_sum, State.heldAt_eq_sum, ← Finset.add_sum_erase _ _ (Finset.mem_univ c),
    ← Finset.add_sum_erase Finset.univ (fun d => heldIn x (s.engine.contexts.get d)) (Finset.mem_univ c), hrest, hc]
  omega

theorem State.heldAt_of_contexts (h : t.engine.contexts = s.engine.contexts) (x : Fin 6) : t.heldAt x = s.heldAt x := by
  unfold State.heldAt
  rw [h]

/-- A source that no pass draws from holds nothing. -/
theorem State.heldAt_of_clear (h : s.Clear x fun _ => True) : s.heldAt x = 0 := by
  rw [State.heldAt_eq_sum]
  refine Finset.sum_eq_zero fun c _ => ?_
  cases hp : s.engine.contexts.get c with
  | none => rfl
  | some p => exact if_neg (h c trivial p hp)

/-! ## The plan of a pass (06 R113, R114) -/

theorem planVolume_mono {m n : Nat} (h : m ≤ n) (dwell flow : Nat) : planVolume m dwell flow ≤ planVolume n dwell flow :=
  Nat.div_le_div_right (Nat.add_le_add_right (Nat.mul_le_mul_right flow (Nat.mul_le_mul_right dwell h)) 59)

/-- What the laws of the sources see of a pass. -/
theorem Pass.plan_account (h : q.plan = p.plan) : q.source = p.source ∧ q.planned = p.planned
    ∧ q.deducted = p.deducted ∧ q.delivered = p.delivered := by
  have hf : ∀ {β : Type} (f : Pass → β), f q.plan = f p.plan := fun f => congrArg f h
  exact ⟨hf Pass.source, hf Pass.planned, hf Pass.deducted, hf Pass.delivered⟩

theorem Pass.PlanLaw.of_plan (hp : p.PlanLaw) (h : q.plan = p.plan) : q.PlanLaw := by
  have hf : ∀ {β : Type} (f : Pass → β), f q.plan = f p.plan := fun f => congrArg f h
  have hr : q.rest = p.rest := hf Pass.rest
  have hv : planVolume (q.baysDone + q.remaining) q.dwell q.flow
      = planVolume (p.baysDone + p.remaining) p.dwell p.flow :=
    hf fun r => planVolume (r.baysDone + r.remaining) r.dwell r.flow
  have hpl : q.planned = p.planned := hf Pass.planned
  unfold Pass.PlanLaw
  rw [hr, hv, hpl]
  exact hp

/-- A new pass plans every bay of every repeat (06 R113 step 4). -/
theorem newPass_planLaw {f : Geometry} {j : Fin 48} {y : Pile} {kn : Fin 24} {k : Cannon} (hk : 1 ≤ k.repeats)
    (hb : 0 < (k.bays f y).length) (m : Fin 4) (src : Fin 6) (cl : Nat) :
    (newPass f j y kn k m src cl).PlanLaw := by
  refine ⟨List.length_pos_iff.1 hb, ?_⟩
  have hn : 0 + ((k.bays f y).length + (k.repeats - 1 - 0) * (k.bays f y).length) = k.baysPlanned f y := by
    unfold Cannon.baysPlanned
    generalize (k.bays f y).length = n
    obtain ⟨r, hr⟩ := Nat.exists_eq_add_of_le hk
    rw [hr, Nat.sub_zero, Nat.add_sub_cancel_left]
    ring
  show planVolume (0 + ((k.bays f y).length + (k.repeats - 1 - 0) * (k.bays f y).length)) k.dwell k.flow ≤ _
  rw [hn]
  exact le_refl _

theorem Pass.walk_length (p : Pass) (n : Nat) : (p.walk n).length = p.bays.length := by
  unfold Pass.walk
  split
  · exact List.length_reverse
  · rfl

/-- The remaining bays after the cursor has moved: the rest of the walk, and every repeat after it (06 R114). -/
theorem Pass.moveCursor_remaining (p : Pass) (l : List Nat) :
    (p.moveCursor l).remaining = l.length + (p.repeats - 1 - p.cursorRepeat) * p.bays.length := by
  unfold Pass.moveCursor
  split
  · next h =>
    obtain ⟨hnil, hc⟩ : l = [] ∧ p.cursorRepeat + 1 < p.repeats := by simpa using h
    have hr : p.repeats - 1 - p.cursorRepeat = (p.repeats - 1 - (p.cursorRepeat + 1)) + 1 := by omega
    show (p.walk (p.cursorRepeat + 1)).length + (p.repeats - 1 - (p.cursorRepeat + 1)) * p.bays.length = _
    rw [p.walk_length, hnil, hr, Nat.add_mul, List.length_nil]
    omega
  · rfl

theorem Pass.moveCursor_same (p : Pass) (rest : List Nat) : (p.moveCursor rest).baysDone = p.baysDone
    ∧ (p.moveCursor rest).dwell = p.dwell ∧ (p.moveCursor rest).flow = p.flow
    ∧ (p.moveCursor rest).planned = p.planned := by
  unfold Pass.moveCursor
  split <;> exact ⟨rfl, rfl, rfl, rfl⟩

theorem Pass.PlanLaw.finishBay (hp : p.PlanLaw)
    (hq : q = ({ p with baysDone := p.baysDone + 1 } : Pass).moveCursor p.rest.tail) (hr : q.rest ≠ []) : q.PlanLaw := by
  obtain ⟨hrest, hplan⟩ := hp
  have hrem := ({ p with baysDone := p.baysDone + 1 } : Pass).moveCursor_remaining p.rest.tail
  rw [List.length_tail] at hrem
  have hlen := List.length_pos_iff.2 hrest
  have hp : p.remaining = p.rest.length + (p.repeats - 1 - p.cursorRepeat) * p.bays.length := rfl
  obtain ⟨h1, h2, h3, h4⟩ := ({ p with baysDone := p.baysDone + 1 } : Pass).moveCursor_same p.rest.tail
  rw [← hq] at hrem h1 h2 h3 h4
  refine ⟨hr, ?_⟩
  have hb : q.baysDone + q.remaining = p.baysDone + p.remaining := by
    rw [h1, hrem, hp]
    dsimp only
    omega
  rw [hb, h2, h3, h4]
  exact hplan

theorem Pass.PlanLaw.second (hp : p.PlanLaw) : p.second.PlanLaw := by
  unfold Pass.second
  dsimp only
  split <;> exact hp

theorem Pass.second_account (p : Pass) : p.second.source = p.source ∧ p.second.planned = p.planned
    ∧ p.second.deducted = p.deducted ∧ p.delivered ≤ p.second.delivered := by
  unfold Pass.second
  dsimp only
  split
  · refine ⟨rfl, rfl, rfl, ?_⟩
    unfold Pass.delivered
    exact min_le_min_left _ (Nat.div_le_div_right (Nat.mul_le_mul_left _ (Nat.le_succ _)))
  · exact ⟨rfl, rfl, rfl, le_refl _⟩

/-! ## The accounts -/

/-- Reserved is what the passes hold, no pass is charged more than it has delivered, and the law of the sources. -/
structure State.Account (g i : Option (Fin 5)) (s : State) : Prop where
  reserved : ∀ x, s.water.reserved x = s.heldAt x
  charged : s.EachPass fun _ p => p.deducted ≤ p.delivered
  sound : s.water.Sound g i

theorem State.Account.of_same (hs : s.Account g i) (hc : t.engine.contexts = s.engine.contexts)
    (hr : ∀ x, t.water.reserved x = s.water.reserved x) (hw : t.water.Sound g' i') : t.Account g' i' :=
  ⟨fun x => by rw [hr, State.heldAt_of_contexts hc, hs.reserved], hs.charged.of_contexts hc, hw⟩

theorem State.Account.of_water (hs : s.Account g i) (hc : t.engine.contexts = s.engine.contexts)
    (hw : t.water = s.water) : t.Account g i :=
  hs.of_same hc (fun x => by rw [hw]) (by rw [hw]; exact hs.sound)

/-- One context moved, with its source's Reserved. -/
theorem State.Account.put (hs : s.Account g i) (hc : t.engine.contexts = s.engine.contexts.put c o)
    (ho : ∀ q, o = some q → q.deducted ≤ q.delivered)
    (hr : ∀ x, t.water.reserved x + heldIn x (s.engine.contexts.get c) = s.water.reserved x + heldIn x o)
    (hw : t.water.Sound g' i') : t.Account g' i' := by
  refine ⟨fun x => ?_, hs.charged.put hc ho, hw⟩
  have h1 := State.heldAt_put hc x
  have h2 := hr x
  have h3 := hs.reserved x
  omega

/-- A live pass is moved to one that holds the same. -/
theorem State.Account.replace (hs : s.Account g i) (hp : s.engine.contexts.get c = some p)
    (hc : t.engine.contexts = s.engine.contexts.put c (some q)) (hw : t.water = s.water)
    (h : q.source = p.source ∧ q.planned = p.planned ∧ q.deducted = p.deducted ∧ p.delivered ≤ q.delivered) :
    t.Account g i := by
  obtain ⟨h1, h2, h3, h4⟩ := h
  refine hs.put hc ?_ (fun x => ?_) (by rw [hw]; exact hs.sound)
  · rintro _ ⟨⟩
    rw [h3]
    exact (hs.charged c p hp).trans h4
  · rw [hw, hp, heldIn_some, heldIn_some, h1, h2, h3]

/-- A live pass holds its part of its source's Reserved. -/
theorem State.Account.holds (hs : s.Account g i) (hp : s.engine.contexts.get c = some p) :
    p.planned - p.deducted ≤ s.water.reserved p.source := by
  have h := s.heldIn_le p.source c
  rw [hp, ← hs.reserved] at h
  simpa [heldIn] using h

theorem Pass.finalDelivered_bounds (h : p.deducted ≤ p.delivered) (e : PassEnd) :
    p.deducted ≤ p.finalDelivered e ∧ p.finalDelivered e ≤ p.planned := by
  have hle : p.delivered ≤ p.planned := min_le_left _ _
  unfold Pass.finalDelivered
  split
  · exact ⟨h.trans hle, le_refl _⟩
  · exact ⟨h, hle⟩

/-- The end of a pass frees what it held (04 R73). -/
theorem State.Account.endPass (hs : s.Account g i) (c : Fin 8) (e : PassEnd) (offers : Bool) :
    (s.endPass g c e offers).Account g i := by
  cases hp : s.engine.contexts.get c with
  | none => rwa [State.endPass_of_free hp]
  | some p =>
    obtain ⟨h1, h2⟩ := Pass.finalDelivered_bounds (hs.charged c p hp) e
    have hh := hs.holds hp
    refine hs.put (s.endPass_contexts g c e offers) (by simp) (fun x => ?_) ?_
    · rw [State.endPass_water hp, State.settle_reserved, hp]
      unfold heldIn
      dsimp only
      by_cases hx : p.source = x
      · subst hx
        rw [if_pos rfl, if_pos rfl]
        omega
      · rw [if_neg hx, if_neg hx]
    · rw [State.endPass_water hp]
      exact hs.sound.settle (by omega)

/-- A prime over accounts that hold its pass. -/
theorem State.Account.prime (hs : (s.setContext c (some p)).Account g i) : (s.prime g c p).Account g i := by
  have hget : (s.setContext c (some p)).engine.contexts.get c = some p := (Table.get_put _ _ _ _).trans (if_pos rfl)
  have hput : ∀ q : Pass, s.engine.contexts.put c (some q)
      = (s.setContext c (some p)).engine.contexts.put c (some q) := fun q => (Table.put_put _ _ _ _).symm
  cases h : s.flowActive p.main with
  | false =>
    rw [State.prime_of_quiet h]
    refine hs.replace (q := { p with
      prime := s.primeKind p.main p.source, state := .priming
      primeTimer := some ((s.engine.mains.get p.main).primeTime (s.primeKind p.main p.source)) }) hget ?_ rfl
      ⟨rfl, rfl, rfl, le_refl _⟩
    rw [← hput]
    simp [State.selected]
  | true =>
    rw [State.prime_of_flow h]
    have hsel : ((s.selected c p).follow).Account g i := by
      refine hs.replace (q := { p with prime := s.primeKind p.main p.source }) hget ?_ rfl ⟨rfl, rfl, rfl, le_refl _⟩
      rw [← hput]
      rfl
    exact hsel.endPass c _ true

theorem State.reserve_water_congr (h : t.water = s.water) (x : Fin 6) (v : Nat) :
    (t.reserve x v).water = (s.reserve x v).water := by
  unfold State.reserve State.mapReserved
  split
  · unfold State.mapBasin
    rw [h]
  · unfold State.mapFresh
    rw [h]

/-- What a taken candidate reserves is what its new pass holds (06 R115 steps 1 to 3). -/
theorem State.Account.requestAndStart (hs : s.Account g i) (hc : s.engine.contexts.get c = none) (m : Fin 4) :
    (s.requestAndStart g m c).Account g i := by
  obtain h | ⟨k, y, a, -, hj, hy, ha, h⟩ := s.requestAndStart_spec g m c
  · rw [h]
    exact hs.of_water (by rw [State.recordReasons_engine])
      (State.beyondWatch_fields (s.recordReasons_beyondWatch m)).2.2.1
  · obtain ⟨y', a', hy', ha', -, hch⟩ := State.judge_candidate hj
    obtain rfl : y = y' := Option.some.inj (hy.symm.trans hy')
    obtain rfl : a = a' := Option.some.inj (ha.symm.trans ha')
    have hw : ((s.recordReasons m).takeOrder k.order.pile).water = s.water :=
      (State.beyondWatch_fields (((s.recordReasons m).takeOrder_beyondWatch k.order.pile).trans
        (s.recordReasons_beyondWatch m))).2.2.1
    have he : ((s.recordReasons m).takeOrder k.order.pile).engine.contexts = s.engine.contexts := by
      rw [State.takeOrder_engine, State.recordReasons_engine]
    rw [h]
    generalize (s.recordReasons m).takeOrder k.order.pile = u at hw he
    refine State.Account.prime (hs.put (c := c) (o := some (newPass s.geometry k.order.pile y k.cannon a m k.source
      (s.water.clarity k.source))) ?_ ?_ (fun x => ?_) ?_)
    · show (u.reserve k.source _).engine.contexts.put c _ = _
      rw [State.reserve_engine, he]
    · rintro _ ⟨⟩
      exact Nat.zero_le _
    · show (u.reserve k.source _).water.reserved x + _ = _
      rw [State.reserve_reserved, hw, hc]
      show s.water.reserved x + (if x = k.source then a.plannedVolume s.geometry y else 0)
        = s.water.reserved x + if k.source = x then a.plannedVolume s.geometry y else 0
      simp only [eq_comm]
    · show (u.reserve k.source _).water.Sound g i
      rw [State.reserve_water_congr hw]
      exact hs.sound.reserve hch

/-! ## The laws of the sources through ends and attempts -/

/-- The laws of the sources, kept folded while they are carried through the steps; a GAUGE cuts the passes of basin
`g`, an ISOLATE those of basin `i`. -/
@[irreducible] def State.Waters (g i : Option (Fin 5)) (s : State) : Prop :=
  s.RepeatLaw ∧ (s.EachPass fun _ p => p.PlanLaw) ∧ s.Account g i

theorem State.waters_iff (g i : Option (Fin 5)) (s : State) :
    s.Waters g i ↔ s.RepeatLaw ∧ (s.EachPass fun _ p => p.PlanLaw) ∧ s.Account g i := by
  unfold State.Waters
  exact Iff.rfl

theorem State.waters_iff_waterLaw (s : State) : s.Waters none none ↔ s.WaterLaw := by
  have hb : ∀ y : Basin, ∀ b : Fin 5, y.Law ↔ y.Sound ((none : Option (Fin 5)) = some b) ((none : Option (Fin 5)) = some b) :=
    fun y b => Basin.law_iff_sound (by simp) (by simp)
  rw [State.waters_iff]
  constructor
  · rintro ⟨hrep, hplan, hres, hcharged, hbasins, hfresh⟩
    exact ⟨⟨hres, hcharged⟩, fun b => (hb _ b).2 (hbasins b), hfresh, hplan, hrep⟩
  · rintro ⟨⟨hres, hcharged⟩, hbasins, hfresh, hplan, hrep⟩
    exact ⟨hrep, hplan, hres, hcharged, fun b => (hb _ b).1 (hbasins b), hfresh⟩

theorem State.RepeatLaw.of_frame (hs : s.RepeatLaw) (h : t.frame = s.frame) : t.RepeatLaw :=
  repeatLaw_keptByRecords.of_frame h hs

/-- The plans through ends and attempts (06 R113). -/
theorem State.planLaw_attempts (x : Option (Fin 5)) (f : Geometry)
    (hf : ∀ i c, f.cannons.get i = some c → 1 ≤ c.repeats) :
    KeptByAttempts x fun s => s.geometry = f ∧ s.EachPass fun _ p => p.PlanLaw :=
  State.eachPass_attempts x f _ (fun _ _ _ h hp => hp.of_plan h)
    fun _ _ _ _ _ m src cl _ hk hb => newPass_planLaw (hf _ _ hk) hb m src cl

theorem State.waters_attempts (g i : Option (Fin 5)) : KeptByAttempts g (State.Waters g i) where
  core s := by
    rw [State.waters_iff, State.waters_iff]
    exact and_congr Iff.rfl (and_congr Iff.rfl ⟨fun h => h.of_water rfl rfl, fun h => h.of_water rfl rfl⟩)
  endPass s c e _ hs := by
    obtain ⟨hr, hp, ha⟩ := (State.waters_iff g i s).1 hs
    exact (State.waters_iff g i _).2 ⟨hr.of_frame (s.endPass_frame g c e true),
      hp.put (s.endPass_contexts g c e true) (by simp), ha.endPass c e true⟩
  resume s c p hc hres hav hs := by
    obtain ⟨hr, hp, ha⟩ := (State.waters_iff g i s).1 hs
    refine (State.waters_iff g i _).2 ⟨hr.of_frame (s.resumePass_frame g c p),
      ((State.planLaw_attempts g s.geometry hr.1).resume s c p hc hres hav ⟨rfl, hp⟩).2, ?_⟩
    exact State.Account.prime (ha.replace hc rfl rfl ⟨rfl, rfl, rfl, le_refl _⟩)
  request s m c hav hf hs := by
    obtain ⟨hr, hp, ha⟩ := (State.waters_iff g i s).1 hs
    exact (State.waters_iff g i _).2 ⟨hr.of_frame (s.requestAndStart_frame g m c),
      ((State.planLaw_attempts g s.geometry hr.1).request s m c hav hf ⟨rfl, hp⟩).2,
      ha.requestAndStart (State.freeContext_spec hf) m⟩

end

end Sys2Proof.Machine

/-! PROOFS. The accounts of the sources through the work of the passes: bays, flow, suspensions and trims
(04 R71, 06 R117 to R121, R130). -/

namespace Sys2Proof.Machine

section

variable {s t : State} {x : Fin 6} {b : Fin 5} {c : Fin 8} {p q : Pass} {g i : Option (Fin 5)} {start length : Nat}

/-! ## The folded law -/

theorem State.Waters.repeats (hs : s.Waters g i) : s.RepeatLaw := ((State.waters_iff g i s).1 hs).1

theorem State.Waters.plans (hs : s.Waters g i) : s.EachPass fun _ p => p.PlanLaw := ((State.waters_iff g i s).1 hs).2.1

theorem State.Waters.account (hs : s.Waters g i) : s.Account g i := ((State.waters_iff g i s).1 hs).2.2

theorem State.waters_of (hr : s.RepeatLaw) (hp : s.EachPass fun _ p => p.PlanLaw) (ha : s.Account g i) : s.Waters g i :=
  (State.waters_iff g i s).2 ⟨hr, hp, ha⟩

/-- The passes and the water stay. -/
theorem State.Waters.of_same (hs : s.Waters g i) (hr : t.RepeatLaw) (hc : t.engine.contexts = s.engine.contexts)
    (hw : t.water = s.water) : t.Waters g i :=
  State.waters_of hr (hs.plans.of_contexts hc) (hs.account.of_water hc hw)

theorem State.Waters.of_beyondWatch (hs : s.Waters g i) (hr : t.RepeatLaw) (h : t.beyondWatch = s.beyondWatch) :
    t.Waters g i :=
  hs.of_same hr (State.beyondWatch_fields h).2.1 (State.beyondWatch_fields h).2.2.1

/-- The water changes, and Reserved does not. -/
theorem State.Waters.of_water (hs : s.Waters g i) (hr : t.RepeatLaw) (h : t.beyondWater = s.beyondWater)
    (hres : ∀ x, t.water.reserved x = s.water.reserved x) (hw : t.water.Sound g i) : t.Waters g i :=
  State.waters_of hr (hs.plans.of_contexts (State.beyondWater_fields h).2.1)
    (hs.account.of_same (State.beyondWater_fields h).2.1 hres hw)

theorem State.Waters.endPass (hs : s.Waters g i) (c : Fin 8) (e : PassEnd) (offers : Bool) :
    (s.endPass g c e offers).Waters g i :=
  State.waters_of (hs.repeats.of_frame (s.endPass_frame g c e offers))
    (hs.plans.put (s.endPass_contexts g c e offers) (by simp)) (hs.account.endPass c e offers)

/-- A live pass on the same plan. -/
theorem State.Waters.setContext (hs : s.Waters g i) (hp : s.engine.contexts.get c = some p) (hq : q.plan = p.plan) :
    (s.setContext c (some q)).Waters g i := by
  obtain ⟨h1, h2, h3, h4⟩ := Pass.plan_account hq
  refine State.waters_of (hs.repeats.of_same rfl rfl) (hs.plans.put rfl ?_)
    (hs.account.replace hp rfl rfl ⟨h1, h2, h3, h4.ge⟩)
  rintro _ ⟨⟩
  exact (hs.plans c p hp).of_plan hq

theorem State.Waters.mapMain (hs : s.Waters g i) (m : Fin 4) (f : Main → Main) : (s.mapMain m f).Waters g i :=
  hs.of_same (hs.repeats.of_same rfl rfl) rfl rfl

theorem State.Waters.follow (hs : s.Waters g i) : s.follow.Waters g i :=
  (State.waters_attempts g i).of_core hs s.follow_core

/-! ## Bays and flow (06 R117 to R120) -/

theorem Pass.moveCursor_eq (p : Pass) (l : List Nat) :
    ∃ n rest, p.moveCursor l = { p with cursorRepeat := n, rest, cursorSeconds := 0 } := by
  unfold Pass.moveCursor
  split
  · exact ⟨_, _, rfl⟩
  · exact ⟨_, _, rfl⟩

theorem Pass.moveCursor_account (p : Pass) (l : List Nat) : (p.moveCursor l).source = p.source
    ∧ (p.moveCursor l).planned = p.planned ∧ (p.moveCursor l).deducted = p.deducted
    ∧ p.delivered ≤ (p.moveCursor l).delivered := by
  obtain ⟨n, rest, h⟩ := p.moveCursor_eq l
  rw [h]
  exact ⟨rfl, rfl, rfl, le_refl _⟩

theorem State.Waters.finishBay (hs : s.Waters none i) (hp : s.engine.contexts.get c = some p) :
    (s.finishBay none c p).Waters none i := by
  generalize hq : ({ p with baysDone := p.baysDone + 1 } : Pass).moveCursor p.rest.tail = q
  have hacc := ({ p with baysDone := p.baysDone + 1 } : Pass).moveCursor_account p.rest.tail
  rw [hq] at hacc
  have hf := repeatLaw_keptByRecords.of_frame (s.finishBay_frame none c p) hs.repeats
  have he : s.finishBay none c p = if q.rest.isEmpty then (s.setContext c (some q)).endPass none c .full true
      else s.setContext c (some { q with dwellTimer := some q.dwell }) := by
    rw [← hq]
    rfl
  by_cases hr : q.rest.isEmpty = true
  · rw [he, if_pos hr] at hf ⊢
    have ha := hs.account.replace (t := s.setContext c (some q)) hp rfl rfl hacc
    refine State.waters_of hf (hs.plans.put (c := c) (o := none) ?_ (by simp)) (ha.endPass c .full true)
    rw [State.endPass_contexts]
    exact Table.put_put _ _ _ _
  · rw [he, if_neg hr] at hf ⊢
    have hl : q.PlanLaw := (hs.plans c p hp).finishBay hq.symm (by simpa using hr)
    refine State.waters_of hf (hs.plans.put (c := c) rfl ?_) (hs.account.replace hp rfl rfl hacc)
    rintro _ ⟨⟩
    exact hl.of_plan rfl

theorem State.Waters.confirmFlow (hs : s.Waters none i) (m : Fin 4) : (s.confirmFlow m).Waters none i := by
  unfold State.confirmFlow
  dsimp only
  split
  · split
    · exact hs
    · next c hc =>
      split
      · exact hs
      · next p hp =>
        have hset : ∀ (f : Main → Main) (q : Pass), q.plan = p.plan →
            ((s.mapMain m f).setContext c (some q)).follow.Waters none i :=
          fun f q hq => (State.Waters.setContext (hs.mapMain m f) hp hq).follow
        split
        · exact State.Waters.finishBay (hset _ _ rfl) ((Table.get_put _ _ _ _).trans (if_pos rfl))
        · exact hset _ _ rfl
  · exact hs

theorem State.Waters.loseFlow (hs : s.Waters none i) (m : Fin 4) : (s.loseFlow m).Waters none i := by
  unfold State.loseFlow
  dsimp only
  split
  · split
    · exact hs
    · exact hs.endPass _ _ _
  · exact hs

/-! ## Suspensions (06 R121) -/

/-- The water after a suspension: what was drawn deducted, and the low test. -/
theorem State.suspendPass_water (s : State) (c : Fin 8) (p : Pass) : ∃ u : State, u.water = s.water
    ∧ (s.suspendPass c p).water = (if 0 < p.delivered - p.deducted
      then (u.deduct p.source (p.delivered - p.deducted)).lowTestUnless none p.source
      else u.deduct p.source (p.delivered - p.deducted)).water := by
  refine ⟨((s.mapMain p.main fun x =>
    { x with state := .opened, openSource := some p.source, context := none }).setContext c
      (some (s.suspended p))).countSuspension, rfl, ?_⟩
  rfl

theorem State.Waters.suspendPass (hs : s.Waters none i) (hp : s.engine.contexts.get c = some p) :
    (s.suspendPass c p).Waters none i := by
  have hd := hs.account.charged c p hp
  have hle := p.delivered_le
  have hh := hs.account.holds hp
  obtain ⟨u, hu, hw⟩ := s.suspendPass_water c p
  have hsound : (u.deduct p.source (p.delivered - p.deducted)).water.Sound none i := by
    refine Water.Sound.deduct (by rw [hu]; exact hs.account.sound) ?_
    rw [hu]
    omega
  have hres : ∀ x, (s.suspendPass c p).water.reserved x = if p.source = x
      then s.water.reserved p.source - (p.delivered - p.deducted) else s.water.reserved x := by
    intro x
    rw [hw, ← hu, ← State.deduct_reserved]
    split
    · exact State.lowTestUnless_reserved _ _ _ _
    · rfl
  refine State.waters_of (repeatLaw_keptByRecords.of_frame (s.suspendPass_frame c p) hs.repeats)
    (hs.plans.put (s.suspendPass_contexts c p) ?_)
    (hs.account.put (s.suspendPass_contexts c p) ?_ (fun x => ?_) ?_)
  · rintro _ ⟨⟩
    exact hs.plans c p hp
  · rintro _ ⟨⟩
    exact le_refl _
  · rw [hres, hp, heldIn_some, heldIn_some]
    show _ = s.water.reserved x + if p.source = x then p.planned - p.delivered else 0
    by_cases hx : p.source = x
    · subst hx
      rw [if_pos rfl, if_pos rfl, if_pos rfl]
      omega
    · rw [if_neg hx, if_neg hx, if_neg hx]
  · rw [hw]
    split
    · exact hsound.lowTestUnless _
    · exact hsound

/-! ## Trims (06 R130) -/

/-- A trim leaves no more remaining bays. -/
theorem Pass.trimWalk_remaining (p : Pass) (start length : Nat) (h : (p.trimWalk start length).rest ≠ []) :
    (p.trimWalk start length).remaining ≤ p.remaining := by
  have hk : (p.bays.filter fun b => !inWindow start length b).length ≤ p.bays.length := List.length_filter_le _ _
  have hr : (p.rest.filter fun b => !inWindow start length b).length ≤ p.rest.length := List.length_filter_le _ _
  have hmul := Nat.mul_le_mul_left (p.repeats - 1 - p.cursorRepeat) hk
  have hp : p.remaining = p.rest.length + (p.repeats - 1 - p.cursorRepeat) * p.bays.length := rfl
  unfold Pass.trimWalk at h ⊢
  by_cases h1 : (p.rest.filter fun b => !inWindow start length b).isEmpty = true
  · rw [if_pos h1] at h ⊢
    by_cases h2 : (p.bays.filter fun b => !inWindow start length b).isEmpty = true
    · rw [if_pos h2] at h
      exact absurd rfl h
    · rw [if_neg h2, Pass.moveCursor_remaining]
      show ([] : List Nat).length + (p.repeats - 1 - p.cursorRepeat)
        * (p.bays.filter fun b => !inWindow start length b).length ≤ p.remaining
      rw [List.length_nil]
      omega
  · rw [if_neg h1]
    show (p.rest.filter fun b => !inWindow start length b).length + (p.repeats - 1 - p.cursorRepeat)
      * (p.bays.filter fun b => !inWindow start length b).length ≤ p.remaining
    omega

/-- A trimmed pass plans no more, and no less than it has delivered. -/
theorem Pass.PlanLaw.trimmed_account (hp : p.PlanLaw) (hq : q = p.trimmed start length) :
    q.source = p.source ∧ q.deducted = p.deducted ∧ q.planned ≤ p.planned ∧ p.delivered ≤ q.planned
      ∧ p.delivered ≤ q.delivered := by
  obtain ⟨-, hplan⟩ := hp
  have hw := p.trimWalk_eq start length
  have hrem := p.trimWalk_remaining start length
  generalize hwe : p.trimWalk start length = w at hw hrem
  have hqe := p.trimmed_eq start length hwe.symm
  rw [← hq] at hqe
  have hsrc : q.source = p.source := by rw [hqe, hw]
  have hded : q.deducted = p.deducted := by rw [hqe, hw]
  have hflow : q.flow * q.runningSeconds = p.flow * p.runningSeconds := by rw [hqe, hw]
  have hleft : (if w.rest.isEmpty then 0 else w.remaining) ≤ p.remaining := by
    split
    · exact Nat.zero_le _
    · next h => exact hrem (by simpa using h)
  have hpl : q.planned = max (planVolume (p.baysDone + (if w.rest.isEmpty then 0 else w.remaining)) p.dwell p.flow)
      p.delivered := by rw [hqe]
  have hle : q.planned ≤ p.planned := by
    rw [hpl]
    exact max_le ((planVolume_mono (Nat.add_le_add_left hleft _) _ _).trans hplan) p.delivered_le
  have hge : p.delivered ≤ q.planned := by
    rw [hpl]
    exact le_max_right _ _
  refine ⟨hsrc, hded, hle, hge, le_min hge ?_⟩
  rw [hflow]
  exact min_le_right _ _

theorem Pass.trimmed_planLaw (hq : q = p.trimmed start length) (hr : q.rest ≠ []) : q.PlanLaw := by
  have hw := p.trimWalk_eq start length
  generalize hwe : p.trimWalk start length = w at hw
  have hqe := p.trimmed_eq start length hwe.symm
  rw [← hq] at hqe
  have hwr : q.rest = w.rest := by rw [hqe]
  have hdone : q.baysDone = p.baysDone := by rw [hqe, hw]
  have hrem : q.remaining = w.remaining := by rw [hqe]; rfl
  have hdwell : q.dwell = p.dwell := by rw [hqe, hw]
  have hflow : q.flow = p.flow := by rw [hqe, hw]
  have hpl : q.planned = max (planVolume (p.baysDone + (if w.rest.isEmpty then 0 else w.remaining)) p.dwell p.flow)
      p.delivered := by rw [hqe]
  refine ⟨hr, ?_⟩
  rw [hdone, hrem, hdwell, hflow, hpl, if_neg (by rw [← hwr]; simpa using hr)]
  exact le_max_left _ _

/-- A trim releases what its pass no longer plans. -/
theorem State.Waters.cutPass_account (hs : s.Waters none i) (hp : s.engine.contexts.get c = some p) :
    (s.cutPass c p start length).Account none i := by
  obtain ⟨h1, h2, h3, h4, h5⟩ := (hs.plans c p hp).trimmed_account (start := start) (length := length) rfl
  have hd := hs.account.charged c p hp
  have hh := hs.account.holds hp
  have hctx : (s.cutPass c p start length).engine.contexts
      = s.engine.contexts.put c (some (p.trimmed start length)) := by rw [State.cutPass_engine]
  unfold State.cutPass at hctx ⊢
  generalize p.trimmed start length = q at h1 h2 h3 h4 h5 hctx ⊢
  refine hs.account.put hctx ?_ (fun x => ?_) (Water.Sound.release (s := s.setContext c (some q)) hs.account.sound _ _)
  · rintro _ ⟨⟩
    rw [h2]
    exact hd.trans h5
  · rw [State.release_reserved, hp, heldIn_some, heldIn_some, h1, h2]
    show (if p.source = x then s.water.reserved p.source - (p.planned - q.planned) else s.water.reserved x) + _ = _
    by_cases hx : p.source = x
    · subst hx
      rw [if_pos rfl, if_pos rfl, if_pos rfl]
      omega
    · rw [if_neg hx, if_neg hx, if_neg hx]

theorem State.Waters.trimPass (hs : s.Waters none i) (hp : s.engine.contexts.get c = some p) :
    (s.trimPass c p start length).Waters none i := by
  have ha := hs.cutPass_account (start := start) (length := length) hp
  have hctx : (s.cutPass c p start length).engine.contexts
      = s.engine.contexts.put c (some (p.trimmed start length)) := by rw [State.cutPass_engine]
  have hr : (s.cutPass c p start length).RepeatLaw :=
    repeatLaw_keptByRecords.of_frame (State.release_frame (s := s.setContext c (some (p.trimmed start length))) _ _)
      hs.repeats
  by_cases h : (p.trimmed start length).rest = []
  · rw [State.trimPass_of_no_bays h]
    generalize s.cutPass c p start length = u at ha hctx hr
    refine (State.waters_attempts none i).runAttempts (State.waters_of
      (repeatLaw_keptByRecords.of_frame (u.endPass_frame none c _ true) hr)
      (hs.plans.put (c := c) (o := none) ?_ (by simp)) (ha.endPass c _ true))
    rw [State.endPass_contexts, hctx, Table.put_put]
  · rw [State.trimPass_of_bays h]
    refine State.waters_of hr (hs.plans.put hctx ?_) ha
    rintro _ ⟨⟩
    exact Pass.trimmed_planLaw rfl h

theorem State.Waters.trimPasses (hs : s.Waters none i) (bed : Fin 8) (start length : Nat) :
    (s.trimPasses bed start length).Waters none i := by
  rw [State.trimPasses_eq_forEach]
  refine s.forEach_inv (State.Waters none i) _ _ (fun t c _ ht => ?_) hs
  unfold State.trimStep
  split
  · next p hp =>
    split
    · exact ht.trimPass hp
    · exact ht
  · exact ht

end

end Sys2Proof.Machine

/-! PROOFS. The accounts of the sources through the commands on the sources: COMMIT, INFLOW, RESTORE, the settle timer
and the day rollover (04 R78 to R88). -/

namespace Sys2Proof.Machine

section

variable {s t : State} {x : Fin 6} {b : Fin 5} {g i : Option (Fin 5)} {cut out : Prop} {y : Basin}

/-! ## Basins and the fresh supply -/

/-- A basin changed, with its Reserved as it was. -/
theorem State.Waters.mapBasin (hs : s.Waters g i) {f : Basin → Basin}
    (hr : (f (s.water.basins.get b)).reserved = (s.water.basins.get b).reserved)
    (hf : (f (s.water.basins.get b)).Sound (g = some b) (i = some b)) : (s.mapBasin b f).Waters g i :=
  hs.of_water (hs.repeats.of_same rfl rfl) rfl (State.mapBasin_reserved hr) (hs.account.sound.mapBasin hf)

theorem State.Waters.lowTest (hs : s.Waters none i) (b : Fin 5) : (s.lowTest b).Waters none i :=
  hs.of_water (hs.repeats.of_frame (s.lowTest_frame b)) (s.lowTest_beyondWater b) (s.lowTest_reserved b)
    (hs.account.sound.lowTest (by simp))

theorem State.Waters.askAllIf (hs : s.Waters g i) (c : Bool) : (s.askAllIf c).Waters g i :=
  (State.waters_attempts g i).of_core hs (s.askAllIf_core c)

theorem State.Waters.reportRise (hs : s.Waters g i) (b : Fin 5) (y : Basin) : (s.reportRise b y).Waters g i :=
  hs.askAllIf _

theorem State.Waters.reportReady (hs : s.Waters g i) (b : Fin 5) (y : Basin) : (s.reportReady b y).Waters g i :=
  hs.askAllIf _

/-- The fresh supply changed, with its Reserved as it was and its allowance kept to. -/
theorem State.Waters.mapFresh (hs : s.Waters g i) {f : Fresh → Fresh}
    (hr : (f s.water.fresh).reserved = s.water.fresh.reserved)
    (hf : (f s.water.fresh).used + (f s.water.fresh).reserved ≤ (f s.water.fresh).today) : (s.mapFresh f).Waters g i := by
  refine hs.of_water (hs.repeats.of_same rfl rfl) rfl (fun x => ?_) ⟨hs.account.sound.basins, hf⟩
  rcases source_cases x with rfl | ⟨d, hd⟩
  · exact hr
  · rw [Water.reserved_basin hd, Water.reserved_basin hd]
    rfl

/-! ## COMMIT of a source (04 R87) -/

theorem Basin.commitTest_none {v : List Nat} (h : y.commitTest v = none) :
    y.level ≤ fieldValue v 1 ∧ (y.reserved = 0 ∨ fieldValue v 2 + y.reserved ≤ y.level) := by
  unfold Basin.commitTest at h
  split at h
  · exact absurd h (by simp)
  · split at h
    · exact absurd h (by simp)
    · split at h
      · exact absurd h (by simp)
      · omega

/-- A COMMIT that its test admits, and the low test of what it installs. -/
theorem Basin.Sound.committed (h : y.Sound cut out) (hc : ¬ cut) {v : List Nat} (ht : y.commitTest v = none) :
    (y.committed v).tested.Sound cut out := by
  obtain ⟨hl, hr⟩ := Basin.commitTest_none ht
  refine Basin.tested_sound hl ?_ h.isolated
  cases hlow : y.low with
  | true => exact .inl (h.low hc hlow)
  | false => exact hr.imp id fun hr => ⟨hlow, hr⟩

theorem State.Waters.commitBasin (hs : s.Waters none i) {v : List Nat} (h : s.commitBasin b v = .inr t) :
    t.Waters none i := by
  have hb := hs.account.sound.basins b
  cases ht : (s.water.basins.get b).commitTest v with
  | some r =>
    rw [State.commitBasin_of_refused ht] at h
    exact absurd h (by simp)
  | none =>
    have hr : t.RepeatLaw := repeatLaw_keptByRecords.congr s t
      (s.commitSource_records ((State.commitSource_basin (asSource_isBasin b)).trans h)) hs.repeats
    have hw : t.water = (s.mapBasin b fun y => (y.committed v).tested).water := by
      rw [State.commitBasin_of_accepted ht rfl rfl] at h
      rw [← Sum.inr.inj h]
      unfold State.mapBasin
      rw [Table.modify_eq_put]
      rfl
    refine hs.of_water hr (State.commitSource_beyondWater ((State.commitSource_basin (asSource_isBasin b)).trans h))
      (fun x => ?_) ?_ <;> rw [hw]
    · exact State.mapBasin_reserved rfl x
    · exact hs.account.sound.mapBasin (hb.committed (by simp) ht)

theorem State.Waters.commitSource (hs : s.Waters none i) {v : List Nat} (h : s.commitSource x v = .inr t) :
    t.Waters none i := by
  rcases source_cases x with rfl | ⟨b, hb⟩
  · rw [State.commitSource_fresh] at h
    rw [← Sum.inr.inj h]
    exact hs.mapFresh rfl hs.account.sound.fresh
  · exact hs.commitBasin ((State.commitSource_basin hb).symm.trans h)

/-! ## INFLOW and RESTORE (04 R82, R86) -/

theorem State.Waters.takeInflow (hs : s.Waters none i) (b : Fin 5) (v : Nat) (turbid : Bool) :
    (s.takeInflow b v turbid).Waters none i := by
  have hadd : (s.addLevel b v).Waters none i := by
    refine hs.of_water (hs.repeats.of_frame (s.addLevel_frame b v)) (s.addLevel_beyondWater b v) (fun x => ?_) ?_ <;>
      rw [State.addLevel_water]
    · exact State.mapBasin_reserved (Basin.filled_reserved _ v) x
    · exact hs.account.sound.mapBasin ((hs.account.sound.basins b).filled v)
  unfold State.takeInflow
  dsimp only
  refine State.Waters.reportRise (State.Waters.lowTest ?_ b) b _
  split
  · exact hadd.mapBasin (Basin.stir_reserved _) ((hadd.account.sound.basins b).congr (Basin.stir_account _))
  · exact hadd

theorem State.Waters.restoreSource (hs : s.Waters none i) (x : Fin 6) : (s.restoreSource x).Waters none i := by
  unfold State.restoreSource State.setIsolated
  refine State.Waters.askAllIf ?_ _
  split
  · next b _ =>
    have h := hs.account.sound.basins b
    exact hs.mapBasin rfl ⟨h.fits, h.covers, h.low, fun _ h => absurd h (by simp)⟩
  · exact hs.mapFresh rfl hs.account.sound.fresh

/-! ## The settle timer, ACKNOWLEDGE and the day rollover (04 R80, R81, R88) -/

theorem State.Waters.settled (hs : s.Waters none i) (b : Fin 5) : (s.settled b).Waters none i :=
  State.Waters.reportReady (hs.mapBasin rfl ((hs.account.sound.basins b).congr rfl)) b _

/-- Every basin changed in what its law does not speak of. -/
theorem Water.Sound.tab {w : Water} (h : w.Sound g i) {f : Fin 5 → Basin} (hf : ∀ b, (f b).account = (w.basins.get b).account) :
    ({ w with basins := Table.tab f } : Water).Sound g i := by
  refine ⟨fun b => ?_, h.fresh⟩
  rw [Table.get_tab]
  exact (h.basins b).congr (hf b)

theorem Water.reserved_tab {w : Water} {f : Fin 5 → Basin} (hf : ∀ b, (f b).account = (w.basins.get b).account) (x : Fin 6) :
    ({ w with basins := Table.tab f } : Water).reserved x = w.reserved x := by
  rcases source_cases x with rfl | ⟨d, hd⟩
  · rfl
  · rw [Water.reserved_basin hd, Water.reserved_basin hd, Table.get_tab]
    have h : (f d).account.reserved = (w.basins.get d).account.reserved := congrArg Basin.reserved (hf d)
    exact h

theorem State.Waters.clearSpilled (hs : s.Waters g i) : s.clearSpilled.Waters g i :=
  hs.of_water (hs.repeats.of_same rfl rfl) rfl (Water.reserved_tab fun _ => rfl)
    (hs.account.sound.tab fun _ => rfl)

theorem State.Waters.rolloverDay (hs : s.Waters g i) : s.rolloverDay.Waters g i := by
  refine State.Waters.askAllIf (hs.mapFresh rfl ?_) _
  show 0 + s.water.fresh.reserved ≤ max s.water.fresh.allowance s.water.fresh.reserved
  rw [Nat.zero_add]
  exact le_max_right _ _

/-! ## A second (02 R27) -/

theorem heldIn_second (x : Fin 6) (o : Option Pass) : heldIn x (o.map Pass.second) = heldIn x o := by
  cases o with
  | none => rfl
  | some p =>
    obtain ⟨h1, h2, h3, -⟩ := p.second_account
    rw [Option.map_some, heldIn_some, heldIn_some, h1, h2, h3]

/-- A law of each pass that a second keeps. -/
theorem State.EachPass.second {R : Fin 8 → Pass → Prop} (hs : s.EachPass R) (h : ∀ c p, R c p → R c p.second) :
    s.second.EachPass R := by
  intro c q hq
  have hm : s.second.engine.contexts.get c = (s.engine.contexts.get c).map Pass.second := Table.get_tab _ c
  rw [hm] at hq
  obtain ⟨p, hp, rfl⟩ := Option.map_eq_some_iff.1 hq
  exact h c p (hs c p hp)

/-- A settle timer one second on. -/
def Basin.settling (y : Basin) : Basin := { y with settle := countDown y.settle }

theorem State.second_water (s : State) :
    s.second.water = { s.water with basins := Table.tab fun b => (s.water.basins.get b).settling } := rfl

theorem Basin.settling_account (y : Basin) : y.settling.account = y.account := rfl

theorem State.Account.second (hs : s.Account g i) : s.second.Account g i := by
  refine ⟨fun x => ?_, State.EachPass.second hs.charged fun _ p h => ?_, ?_⟩
  · rw [State.second_water, Water.reserved_tab fun _ => Basin.settling_account _, hs.reserved, State.heldAt_eq_sum,
      State.heldAt_eq_sum]
    refine Finset.sum_congr rfl fun c _ => ?_
    have hm : s.second.engine.contexts.get c = (s.engine.contexts.get c).map Pass.second := Table.get_tab _ c
    rw [hm, heldIn_second]
  · obtain ⟨-, -, h3, h4⟩ := p.second_account
    rw [h3]
    exact h.trans h4
  · rw [State.second_water]
    exact hs.sound.tab fun _ => Basin.settling_account _

theorem State.Waters.second (hs : s.Waters g i) : s.second.Waters g i :=
  State.waters_of (repeatLaw_keptByRecords.kept.second s hs.repeats) (hs.plans.second fun _ _ h => h.second)
    hs.account.second

end

end Sys2Proof.Machine

/-! PROOFS. The accounts of the sources through GAUGE and ISOLATE, which end every pass on a source (04 R83, R85). -/

namespace Sys2Proof.Machine

section

variable {s t v w : State} {x : Fin 6} {b : Fin 5} {g i : Option (Fin 5)} {cut cut' out out' : Prop} {y z : Basin}
  {p : Pass} {o : Option Pass} {c : Fin 8} {level clarity : Nat}

/-! ## The law of the sources, with and without a source whose passes are being ended -/

theorem Basin.Sound.mono (h : y.Sound cut out) (hc : cut → cut') (ho : out → out') : y.Sound cut' out' :=
  ⟨h.fits, h.covers, fun hn => h.low (mt hc hn), fun hn => h.isolated (mt ho hn)⟩

theorem Basin.Sound.of_unreserved (h : y.Sound cut out) (hr : y.reserved = 0) : y.Sound cut' out' :=
  ⟨h.fits, h.covers, fun _ _ => hr, fun _ _ => hr⟩

theorem Water.Sound.weaken {u : Water} (h : u.Sound none none) (g i : Option (Fin 5)) : u.Sound g i :=
  ⟨fun b => (h.basins b).mono (by simp) (by simp), h.fresh⟩

/-- A basin that holds no reservation has its whole law. -/
theorem Water.Sound.strengthen {u : Water} (h : u.Sound g i)
    (hr : ∀ b, g = some b ∨ i = some b → (u.basins.get b).reserved = 0) : u.Sound none none := by
  refine ⟨fun b => ?_, h.fresh⟩
  by_cases hb : g = some b ∨ i = some b
  · exact (h.basins b).of_unreserved (hr b hb)
  · exact (h.basins b).mono (fun hg => absurd (.inl hg) hb) fun hi => absurd (.inr hi) hb

/-- Once no pass draws from the source whose passes were ended, the accounts are whole again. -/
theorem State.Waters.strengthen (hs : s.Waters g i) (h : s.Clear x fun _ => True)
    (hx : ∀ b, g = some b ∨ i = some b → x = asSource b) : s.Waters none none := by
  refine State.waters_of hs.repeats hs.plans (hs.account.of_same rfl (fun _ => rfl)
    (hs.account.sound.strengthen fun b hb => ?_))
  rw [← Water.reserved_basin (asSource_isBasin b), hs.account.reserved, ← hx b hb, State.heldAt_of_clear h]

/-! ## The baselines moved (04 R83 step 1) -/

theorem Pass.rebased_of_draws (h : p.source.val = b.val) : p.rebased b = { p with deducted := p.delivered } := if_pos h

theorem Pass.rebased_of_other (h : p.source.val ≠ b.val) : p.rebased b = p := if_neg h

theorem Pass.PlanLaw.rebased (h : p.PlanLaw) (b : Fin 5) : (p.rebased b).PlanLaw := by
  unfold Pass.rebased
  split
  · exact h
  · exact h

theorem Pass.rebased_charged (h : p.deducted ≤ p.delivered) (b : Fin 5) :
    (p.rebased b).deducted ≤ (p.rebased b).delivered := by
  unfold Pass.rebased
  split
  · exact le_refl p.delivered
  · exact h

/-- What a pass on the basin has drawn undeducted is taken from what it holds. -/
theorem heldIn_rebased (hp : ∀ p, o = some p → p.deducted ≤ p.delivered) (ho : s.engine.contexts.get c = o) (x : Fin 6) :
    heldIn x (o.map (Pass.rebased b)) + (if x = asSource b then s.undeducted b c else 0) = heldIn x o := by
  unfold State.undeducted
  rw [ho]
  cases o with
  | none => simp [heldIn]
  | some p =>
    have hd := hp p rfl
    have hle := p.delivered_le
    rw [Option.map_some, heldIn_some, heldIn_some]
    dsimp only
    by_cases h : p.source.val = b.val
    · have hs : p.source = asSource b := Fin.ext h
      rw [Pass.rebased_of_draws h, if_pos h]
      show (if p.source = x then p.planned - p.delivered else 0) + _ = _
      rw [hs]
      by_cases hx : asSource b = x
      · rw [if_pos hx, if_pos hx.symm, if_pos hx]
        omega
      · rw [if_neg hx, if_neg (Ne.symm hx), if_neg hx]
    · rw [Pass.rebased_of_other h, if_neg h, ite_self, Nat.add_zero]

theorem State.gauged_context (s : State) (b : Fin 5) (z : Basin) (c : Fin 8) :
    (s.gauged b z).engine.contexts.get c = (s.engine.contexts.get c).map (Pass.rebased b) := Table.get_tab _ c

theorem State.EachPass.gauged {R : Fin 8 → Pass → Prop} (hs : s.EachPass R) (h : ∀ c p, R c p → R c (p.rebased b)) :
    (s.gauged b z).EachPass R := by
  intro c q hq
  rw [State.gauged_context] at hq
  obtain ⟨p, hp, rfl⟩ := Option.map_eq_some_iff.1 hq
  exact h c p (hs c p hp)

/-- What the passes hold, once the baselines of the basin's passes have moved. -/
theorem State.gauged_heldAt (hs : s.EachPass fun _ p => p.deducted ≤ p.delivered) (z : Basin) (x : Fin 6) :
    (s.gauged b z).heldAt x + (if x = asSource b then ((List.finRange 8).map (s.undeducted b)).sum else 0)
      = s.heldAt x := by
  have hsum : (if x = asSource b then ((List.finRange 8).map (s.undeducted b)).sum else 0)
      = ∑ c, if x = asSource b then s.undeducted b c else 0 := by
    split
    · exact (Fin.sum_univ_def _).symm
    · exact Finset.sum_const_zero.symm
  rw [State.heldAt_eq_sum, State.heldAt_eq_sum, hsum, ← Finset.sum_add_distrib]
  refine Finset.sum_congr rfl fun c _ => ?_
  rw [State.gauged_context]
  exact heldIn_rebased (fun p hp => hs c p hp) rfl x

/-! ## GAUGE (04 R83) -/

theorem State.gauged_water (s : State) (b : Fin 5) (z : Basin) :
    (s.gauged b z).water = { s.water with basins := s.water.basins.put b z } := rfl

theorem five_ne_asSource (b : Fin 5) : (5 : Fin 6) ≠ asSource b :=
  fun h => absurd (congrArg Fin.val h) (Nat.ne_of_gt b.isLt)

theorem State.gauged_reserved (s : State) (b : Fin 5) (z : Basin) (x : Fin 6) :
    (s.gauged b z).water.reserved x = if x = asSource b then z.reserved else s.water.reserved x := by
  rw [State.gauged_water]
  rcases source_cases x with rfl | ⟨d, hd⟩
  · rw [if_neg (five_ne_asSource b)]
    rfl
  · rw [Water.reserved_basin hd, Water.reserved_basin hd, Table.get_put]
    by_cases hdb : b = d
    · subst hdb
      rw [if_pos rfl, if_pos (Fin.ext hd)]
    · have hx : x ≠ asSource b := fun h => hdb (isBasin_unique (asSource_isBasin b) (h ▸ hd))
      rw [if_neg hdb, if_neg hx]

theorem Water.Sound.gauged (h : s.water.Sound none none) (g : Option (Fin 5))
    (hz : z.Sound (g = some b) ((none : Option (Fin 5)) = some b)) : (s.gauged b z).water.Sound g none := by
  rw [State.gauged_water]
  refine ⟨fun d => ?_, h.fresh⟩
  rw [Table.get_put]
  split
  · next hd => exact hd ▸ hz
  · exact (h.weaken g none).basins d

theorem State.Account.gauged (hs : s.Account none none) (g : Option (Fin 5))
    (hr : z.reserved = (s.water.basins.get b).reserved - ((List.finRange 8).map (s.undeducted b)).sum)
    (hz : z.Sound (g = some b) ((none : Option (Fin 5)) = some b)) : (s.gauged b z).Account g none := by
  refine ⟨fun x => ?_, State.EachPass.gauged hs.charged fun _ _ h => Pass.rebased_charged h b, hs.sound.gauged g hz⟩
  have hh := State.gauged_heldAt (b := b) hs.charged z x
  rw [← hs.reserved] at hh
  rw [State.gauged_reserved]
  by_cases hx : x = asSource b
  · subst hx
    rw [if_pos rfl] at hh ⊢
    rw [Water.reserved_basin (asSource_isBasin b)] at hh
    rw [hr, ← hh, Nat.add_sub_cancel]
  · rw [if_neg hx, Nat.add_zero] at hh
    rw [if_neg hx, hh]

/-- The accounts of a gauged basin, where its Level and low condition meet its law. -/
theorem State.Waters.gauged (hs : s.Waters none none) (g : Option (Fin 5))
    (hr : z.reserved = (s.water.basins.get b).reserved - ((List.finRange 8).map (s.undeducted b)).sum)
    (hz : z.Sound (g = some b) ((none : Option (Fin 5)) = some b)) : (s.gauged b z).Waters g none :=
  State.waters_of (hs.repeats.of_same rfl rfl) (hs.plans.gauged fun _ _ h => h.rebased b) (hs.account.gauged g hr hz)

/-- The law of a basin whose low condition a GAUGE does not enter. -/
theorem Basin.Sound.gauged_of_stays (hx : y.Sound cut out) (hc : ¬ cut) {n : Nat} (hl : level ≤ y.capacity)
    (hn : n ≤ y.reserved) (h : y.low = true ∨ (y.floor ≤ level ∧ y.floor + n ≤ level))
    (hz : z = { y.gauged level clarity n with low := y.low && decide (level < y.floor + y.restoreMargin) }) :
    z.Sound cut out := by
  subst hz
  have hlow : y.low = true → n = 0 := fun hy => Nat.le_zero.1 (hx.low hc hy ▸ hn)
  refine ⟨hl, fun hz => ?_, fun _ hz => ?_, fun ho hi => Nat.le_zero.1 (hx.isolated ho hi ▸ hn)⟩
  · show y.floor + n ≤ level
    have hz' : (y.low && decide (level < y.floor + y.restoreMargin)) = false := hz
    cases hy : y.low with
    | true =>
      rw [hy, Bool.true_and, decide_eq_false_iff_not] at hz'
      have := hlow hy
      omega
    | false => exact (h.resolve_left (by simp [hy])).2
  · exact hlow (Bool.and_eq_true_iff.1 hz).1

/-- A cut of a basin that has come low leaves the accounts whole. -/
theorem State.Waters.endDraws (hs : v.Waters (some b) none) (hl : (v.water.basins.get b).low = true) :
    (v.endWhere (some b) (Pass.draws (asSource b)) (.cutShort .water)).Waters none none := by
  have hw := (State.waters_attempts (some b) none).endWhere (e := .cutShort .water) (by simp)
    (Pass.draws (asSource b)) hs
  obtain ⟨-, hc⟩ := (low_waterKept b).endWhere_clear (fun t ht => Water.not_ready_of_low ht) hl (.cutShort .water)
  exact hw.strengthen hc fun d hd => by
    rw [Option.some.inj (hd.resolve_right (by simp))]

theorem State.Waters.takeGauge (hs : s.Waters none none) (hl : level ≤ (s.water.basins.get b).capacity) :
    (s.takeGauge b level clarity).Waters none none := by
  have hb := hs.account.sound.basins b
  generalize hy : (s.water.basins.get b).gauged level clarity
    ((s.water.basins.get b).reserved - ((List.finRange 8).map (s.undeducted b)).sum) = y
  have hres : y.reserved = (s.water.basins.get b).reserved - ((List.finRange 8).map (s.undeducted b)).sum := by
    rw [← hy]
    rfl
  by_cases hstay : (s.water.basins.get b).low = true
      ∨ ((s.water.basins.get b).floor ≤ level ∧ (s.water.basins.get b).floor + y.reserved ≤ level)
  · rw [State.takeGauge_of_stays rfl hy.symm hstay rfl]
    generalize hz : ({ y with low := (s.water.basins.get b).low && decide (level < (s.water.basins.get b).floor
      + (s.water.basins.get b).restoreMargin) } : Basin) = z
    have hzr : z.reserved = y.reserved := by rw [← hz]
    refine State.Waters.reportRise (hs.gauged none (hzr.trans hres) ?_) b _
    refine hb.gauged_of_stays (clarity := clarity) (n := y.reserved) (by simp) hl (hres ▸ Nat.sub_le _ _) hstay ?_
    rw [← hz, ← hy]
    rfl
  · rw [not_or] at hstay
    obtain ⟨hlow, hlev⟩ := hstay
    rw [State.takeGauge_of_enters rfl hy.symm (by simpa using hlow) (by omega) rfl rfl rfl]
    have hg : (s.gauged b { y with low := true }).Waters (some b) none := by
      refine hs.gauged (some b) hres ⟨?_, fun h => absurd h (by simp), fun h => absurd rfl h, fun _ hi => ?_⟩
      · show y.level ≤ y.capacity
        rw [← hy]
        exact hl
      · have hiso : (s.water.basins.get b).isolated = true := by
          rw [← hi, ← hy]
          rfl
        show y.reserved = 0
        rw [hres, hb.isolated (by simp) hiso, Nat.zero_sub]
    have hcut := State.Waters.endDraws (v := { s.gauged b { y with low := true } with
        notices := s.notices.marked .waterLow b.val }) (b := b)
      ((State.waters_attempts (some b) none).of_core hg rfl) (congrArg Basin.low (s.gauged_basin b _))
    generalize State.endWhere _ _ _ _ = w at hcut
    exact (State.waters_attempts none none).of_core (hcut.lowTest b) rfl

/-! ## ISOLATE (04 R85) -/

theorem State.Waters.isolated (hs : s.Waters none none) (x : Fin 6) : (s.setIsolated x true).Waters none (asBasin x) := by
  have hw : s.Waters none (asBasin x) := State.waters_of hs.repeats hs.plans
    (hs.account.of_same rfl (fun _ => rfl) (hs.account.sound.weaken none _))
  rcases source_cases x with rfl | ⟨b, hb⟩
  · exact hw.mapFresh (f := fun y => { y with isolated := true }) rfl hs.account.sound.fresh
  · have h := hs.account.sound.basins b
    rw [asBasin_of_val hb] at hw ⊢
    unfold State.setIsolated
    rw [asBasin_of_val hb]
    exact hw.mapBasin rfl ⟨h.fits, h.covers, h.low, fun hn => absurd rfl hn⟩

theorem State.Waters.isolateSource (hs : s.Waters none none) (x : Fin 6) : (s.isolateSource x).Waters none none := by
  have hw := (State.waters_attempts none (asBasin x)).endWhere (e := .cutShort .water) (by simp) (Pass.draws x)
    (hs.isolated x)
  obtain ⟨-, hc⟩ := (isolated_waterKept none x).endWhere_clear (fun _ ht => Water.not_ready_of_isolated ht)
    (s.setIsolated_isolated x) (.cutShort .water)
  unfold State.isolateSource
  generalize (s.setIsolated x true).endWhere none (Pass.draws x) (.cutShort .water) = w at hw hc
  have hw' : w.Waters none none := hw.strengthen hc fun b hb => by
    rcases source_cases x with rfl | ⟨d, hd⟩
    · exact absurd (hb.resolve_left (by simp)) (by simp [asBasin])
    · have hdb := hb.resolve_left (by simp)
      rw [asBasin_of_val hd] at hdb
      exact Fin.ext (by rw [← Option.some.inj hdb]; exact hd)
  obtain ⟨h1, h2, -⟩ := w.closeSource_spec x
  exact hw'.of_same (hw'.repeats.of_frame (w.closeSource_frame x)) h2 h1

end

end Sys2Proof.Machine

/-! PROOFS. Every effect keeps the laws of the sources (O60). -/

namespace Sys2Proof.Machine

section

variable {s : State} {i : Fin 48} {m : Fin 4}

/-! ## Piles -/

/-- A PILE COMMIT leaves the passes and the water (01 R7). -/
theorem State.Waters.installPile (hs : s.Waters none none) {y : Pile} (h : s.pileTest i y = none) (n : Nat) :
    (s.installPile i y n).Waters none none := by
  have hr := repeatLaw_keptByRecords.kept.installPile s i y n h hs.repeats
  have hp : (s.installPile i y n).beyondWatch = ({ s with geometry := s.geometry.placePile i y } : State).beyondWatch := by
    unfold State.installPile
    simp
  obtain ⟨-, hc, hw, -⟩ := State.beyondWatch_fields hp
  exact hs.of_same hr hc hw

theorem State.removeOrder_beyondWatch (s : State) (i : Fin 48) : (s.removeOrder i).beyondWatch = s.beyondWatch := by
  unfold State.removeOrder
  split
  · exact s.dropOrder_beyondWatch i
  · rfl

theorem State.Waters.endPile (hs : s.Waters none none) (i : Fin 48) : (s.endPile i).Waters none none := by
  unfold State.endPile
  split
  · exact hs.endPass _ _ _
  · exact hs

/-- RETIRE of a pile ends its pass, and leaves the others and the water (01 R9). -/
theorem State.Waters.retirePile (hs : s.Waters none none) (h : (s.geometry.piles.get i).isSome = true) :
    (s.retirePile i).Waters none none := by
  have hr := repeatLaw_keptByRecords.kept.retirePile s i h hs.repeats
  have he := hs.endPile i
  rw [State.retirePile_eq, State.clearPile_eq] at hr ⊢
  generalize s.endPile i = u at hr he
  have hd : ((u.removeOrder i).discardMust i).beyondWatch = u.beyondWatch :=
    (State.discardMust_beyondWatch _ i).trans (u.removeOrder_beyondWatch i)
  generalize (u.removeOrder i).discardMust i = v at hr hd
  obtain ⟨-, hc, hw, -⟩ := State.beyondWatch_fields hd
  exact he.of_same hr hc hw

/-! ## The modes of the yard (07 R140 to R145) -/

theorem State.Waters.setMode (hs : s.Waters none none) (k : YardMode) : (s.setMode k).Waters none none :=
  hs.of_same (hs.repeats.of_same rfl rfl) rfl rfl

/-- The ends of every pass at a change of mode. -/
theorem State.Waters.endAll (hs : s.Waters none none) (k : YardMode) {e : PassEnd} (he : ∀ cause, e ≠ .noFlow cause) :
    ((s.setMode k).endWhere none (fun _ => true) e).Waters none none :=
  (State.waters_attempts none none).endWhere he _ (hs.setMode k)

theorem State.Waters.holdYard (hs : s.Waters none none) : s.holdYard.Waters none none := by
  have hw := hs.endAll .held (e := .cutShort .hold) (by simp)
  rw [State.holdYard_eq rfl]
  generalize (s.setMode .held).endWhere none (fun _ => true) (.cutShort .hold) = w at hw
  exact hw.of_same (hw.repeats.of_same rfl rfl) rfl rfl

theorem State.Waters.drainYard (hs : s.Waters none none) : s.drainYard.Waters none none := by
  have hw := hs.endAll .draining (e := .cutShort .drain) (by simp)
  rw [State.drainYard_eq rfl]
  generalize (s.setMode .draining).endWhere none (fun _ => true) (.cutShort .drain) = w at hw
  exact hw.of_same (hw.repeats.of_same rfl rfl) rfl rfl

theorem State.Waters.closeMains (hs : s.Waters none none) : s.closeMains.Waters none none := by
  rw [State.closeMains_eq]
  exact hs.of_same (hs.repeats.of_same rfl rfl) rfl rfl

theorem State.Waters.drained (hs : s.Waters none none) (m : Fin 4) : (s.drained m).Waters none none := by
  rw [State.drained_eq]
  split <;> exact hs.of_same (hs.repeats.of_same rfl rfl) rfl rfl

/-- A reset leaves no pass and no reservation. -/
theorem State.waters_of_reset {t : State} (hr : t.RepeatLaw) (hc : t.engine.contexts = State.reset.engine.contexts)
    (hw : t.water = State.reset.water) : t.Waters none none :=
  ((State.waters_iff_waterLaw State.reset).2 State.reset_waterLaw).of_same hr hc hw

/-- The laws of the sources are kept by every effect. -/
theorem State.waters_kept : Kept (State.Waters none none) where
  toKeptByAttempts := State.waters_attempts none none
  time s t h hs := hs.of_same (repeatLaw_keptByRecords.time s t h hs.repeats) (by rw [h.eq]) (by rw [h.eq])
  stored s t h hs := hs.of_same (repeatLaw_keptByRecords.stored s t h hs.repeats) (by rw [h.eq]) (by rw [h.eq])
  buffer s t h hs := hs.of_same (repeatLaw_keptByRecords.buffer s t h hs.repeats) (by rw [h.eq]) (by rw [h.eq])
  place s t h hs := hs.of_same (repeatLaw_keptByRecords.place s t h hs.repeats) (by rw [h.eq]) (by rw [h.eq])
  installPile _ _ _ n h hs := hs.installPile h n
  exclude s i e hf h hs := by
    have hr := repeatLaw_keptByRecords.setExclusion s i e hf h hs.repeats
    exact State.Waters.trimPasses (hs.of_same hr rfl rfl) _ _ _
  commitMain _ m _ _ hs := hs.mapMain m _
  commitSource _ _ _ _ h hs := hs.commitSource h
  retirePile _ _ h hs := hs.retirePile h
  requeue _ _ _ hs := hs.of_same (hs.repeats.of_same rfl rfl) rfl rfl
  evaluate s i w n hs := hs.of_beyondWatch (hs.repeats.of_frame (s.evaluate_frame i w n true))
    (s.evaluate_beyondWatch i w n true)
  assessPile s w r i hs := hs.of_beyondWatch (hs.repeats.of_frame (s.assessPile_frame w r i))
    (s.assessPile_beyondWatch w r i)
  placeOrder s i r n _ _ hs := hs.of_beyondWatch (hs.repeats.of_frame (s.placeOrder_frame i r n))
    (s.placeOrder_beyondWatch i r n)
  withdrawOrder s _ o _ _ hs := hs.of_beyondWatch (hs.repeats.of_frame (s.withdrawOrder_frame o))
    (s.withdrawOrder_beyondWatch o)
  suspendPass _ _ _ h _ hs := hs.suspendPass h
  holdPass _ _ _ _ _ h _ hs := hs.setContext h rfl
  finishBay _ _ _ h _ hs := hs.finishBay h
  confirmFlow _ m hs := hs.confirmFlow m
  loseFlow _ m hs := hs.loseFlow m
  primeOut _ c _ _ _ hs := hs.endPass c _ true
  clearFault _ m _ hs := hs.mapMain m _
  inflow _ b v turbid hs := hs.takeInflow b v turbid
  gauge _ _ _ _ h hs := hs.takeGauge h
  isolate _ y hs := hs.isolateSource y
  restore _ y hs := hs.restoreSource y
  settled _ b hs := hs.settled b
  clearSpilled _ hs := hs.clearSpilled
  rolloverDay _ hs := hs.rolloverDay
  holdYard _ _ hs := hs.holdYard
  drainYard _ _ hs := hs.drainYard
  resumeHeld _ _ hs := hs.setMode _
  resumeDrained _ _ hs := (hs.setMode _).closeMains
  drained _ m _ hs := hs.drained m
  second _ hs := hs.second
  resetWhole s p r hs := State.waters_of_reset (repeatLaw_keptByRecords.resetWhole s p r hs.repeats) rfl rfl
  resetCommand s hs := State.waters_of_reset (repeatLaw_keptByRecords.resetCommand s hs.repeats) rfl rfl

end

/-- Settles O60: the account of each source, what its passes hold, is kept by every effect that a command or an event
can have; a GAUGE that comes low and an ISOLATE break it at one source, until its last pass has ended. -/
theorem stepKeepsTheWaterLaws : Obligations.StepKeepsTheWaterLaws := fun s t hs h =>
  (State.waters_iff_waterLaw t).1 (State.waters_kept.step h ((State.waters_iff_waterLaw s).2 hs))

end Sys2Proof.Machine
